-- ==== Sys2Proof/Word.lean ====
section
/-!
DEFINITION. The number types of the Arfepa 3416: octets, the 16-bit identifiers and sequences of the ring, and the
32-bit counts. Everything the manual adds, compares or clamps as a quantity (kW, mHz, kPa, milliseconds) is a plain
`Nat` or `Int`; only what it treats as a word of fixed width that wraps or is carried octet by octet is a bit vector.
-/

namespace Sys2Proof

/-- One octet of a telegram or of a table entry. -/
abbrev Octet := BitVec 8

/-- Octets in the order in which they travel (R195: most significant octet of a field first). -/
abbrev Octets := List Octet

/-- A station ID (00_scope, Conventions): 16 bits, 0x0000 invalid, 0xFFFF all stations. -/
abbrev StationId := BitVec 16

/-- A telegram sequence (R2): 16 bits, counted per sender. -/
abbrev TelSeq := BitVec 16

/-- Part time (00_scope, Conventions): a 32-bit count of milliseconds that wraps. -/
abbrev PartTime := BitVec 32

/-- A time code (R1): one octet, unit in the upper two bits and count in the lower six. -/
abbrev TimeCode := BitVec 8

/-- A 32-bit counter that wraps (R75, R179). -/
abbrev Counter := BitVec 32

/-- A timer: `none` while idle, `some r` while running with `r` milliseconds left. A running timer with 0 left is due:
its expiry has been reached and waits for its expiry command. -/
abbrev Timer := Option Nat

end Sys2Proof
end

