-- ==== Sys2Proof/Syntax.lean ====
section
/-!
DEFINITION. The commands of the part: one constructor of `Instr` for each row of spec/opcode_table.json, with the
operands the row needs. A command that is the arrival of a frame carries the port it arrived on and the whole frame,
because the part forwards a frame with exactly the octets it arrived with (R179) and reads everything else from them.
A command that is the expiry of a timer names the timer.
-/

namespace Sys2Proof

/-- Ring Port A and Ring Port B. -/
inductive Port where
  | a
  | b
  deriving DecidableEq, Repr

/-- The port a frame that arrives on this one is forwarded to (R179). -/
def Port.other : Port → Port
  | .a => .b
  | .b => .a

/-- One Ethernet frame without its frame check sequence (chapter 11, opening): destination and source address,
EtherType, and the payload that holds the common header, the body and any padding. -/
structure Frame where
  dst       : BitVec 48
  src       : BitVec 48
  etherType : BitVec 16
  payload   : Octets
  deriving DecidableEq, Repr

/-- The record an order acts on (R55): a unit record 0 … 15 or a feeder record 0 … 31. -/
inductive Target where
  | unit (i : Fin 16)
  | feeder (i : Fin 32)
  deriving DecidableEq, Repr

/-- The commands: one constructor per row of spec/opcode_table.json, in the table's order. -/
inductive Instr where
  | coldResetAssert
  | coldResetRelease (fsel : Bool) (sid : BitVec 4)
  | warmResetPinAssert
  | warmResetPinRelease
  | linkStatusRead (upA upB : Bool)
  | badFcsFrame (port : Port) (frame : Frame)
  | forwardFrame (port : Port) (frame : Frame)
  | frameTransmit (port : Port)
  | removeOwnTelegram (port : Port) (frame : Frame)
  | malformedTelegram (port : Port) (frame : Frame)
  | forwardTelegram (port : Port) (frame : Frame)
  | sampleReport (port : Port) (frame : Frame)
  | positionReport (port : Port) (frame : Frame)
  | setpointOrder (port : Port) (frame : Frame)
  | readEntry (port : Port) (frame : Frame)
  | writeEntrySource (port : Port) (frame : Frame)
  | writeEntryUnit (port : Port) (frame : Frame)
  | writeEntryFeeder (port : Port) (frame : Frame)
  | writeEntryProfile (port : Port) (frame : Frame)
  | writeEntryShed (port : Port) (frame : Frame)
  | writeEntryProgram (port : Port) (frame : Frame)
  | writeEntryBank (port : Port) (frame : Frame)
  | writeEntrySettings (port : Port) (frame : Frame)
  | writeEntryManagers (port : Port) (frame : Frame)
  | readSheet (port : Port) (frame : Frame)
  | readEvents (port : Port) (frame : Frame)
  | rewindEvents (port : Port) (frame : Frame)
  | selectBank (port : Port) (frame : Frame)
  | setMode (port : Port) (frame : Frame)
  | operate (port : Port) (frame : Frame)
  | operateCrank (port : Port) (frame : Frame)
  | clearLockout (port : Port) (frame : Frame)
  | arm (port : Port) (frame : Frame)
  | disarm (port : Port) (frame : Frame)
  | beginRestore (port : Port) (frame : Frame)
  | hold (port : Port) (frame : Frame)
  | resume (port : Port) (frame : Frame)
  | warmReset (port : Port) (frame : Frame)
  | unknownRequest (port : Port) (frame : Frame)
  | staleTimerExpiry (entry : Fin 64)
  | deadlineExpiry (tag : Octet)
  | inhibitTimerExpiry (tag : Octet)
  | cycleTimerExpiry (target : Target)
  | holdOffExpiry (target : Target)
  | dispatchTimerExpiry
  | airHoldOffExpiry
  | crankRestExpiry (unit : Fin 16)
  | warmUpExpiry (unit : Fin 16)
  | stopTimerExpiry
  | cooldownExpiry (unit : Fin 16)
  | curtailTimerExpiry
  | mirrorExpiry (unit : Fin 16)
  | stageTimerExpiry (stage : Fin 8)
  | restoreDelayExpiry
  | stepIntervalExpiry
  | deadBusTimerExpiry
  | waitTimeExpiry
  | stepTimeoutExpiry
  | beaconTimerExpiry
  | retiredIdentityExpiry
  deriving DecidableEq, Repr

end Sys2Proof
end

