-- ==== Sys2Proof/Decode.lean ====
section
/-!
DEFINITION. The command a word spells by the bits of spec/opcode_table.json. No row of the table gives bits: a command
reaches this part as a frame, a pin or a timer, never as a word. What a frame spells is read by
`Sys2Proof.Machine.receive` in Machine/Reception.lean.
-/

namespace Sys2Proof

/-- No row of the table has bits, so no word spells a command. -/
def decodeTableWord (_nbits _w : Nat) : Option Instr := none

end Sys2Proof
end

