-- ==== Sys2Proof/Config.lean ====
section
/-!
DEFINITION. What is fixed for every Arfepa 3416: the sizes of its collections, the limits of its number ranges and the
default contents that do not depend on a strap. The manual leaves no result value of any command open, so this file
declares no free value (INVENTORY.md, What the manual leaves open).
-/

namespace Sys2Proof.Config

/-- R24, Conventions: every Balance Sheet sum saturates at plus and minus 1,048,575 kW. -/
def sumLimit : Int := 1048575

/-- R9: P, AVAIL, DIS and CHG are clamped to plus and minus 65,535 kW. -/
def powerLimit : Int := 65535

/-- R9: F is clamped to 0 … 99,999 mHz. -/
def freqLimit : Int := 99999

/-- R9: U is clamped to 0 … 2,000. -/
def voltLimit : Int := 2000

/-- R9: PRESS is clamped to 0 … 4,000 kPa. -/
def pressLimit : Int := 4000

/-- R32: RoCoF is clamped to plus and minus 32,767 mHz/s. -/
def rocofLimit : Int := 32767

/-- R32: the longest window of the Frequency History over which RoCoF is valid, in µs. -/
def rocofWindowLimit : Nat := 2000000

/-- R19: the Frequency History holds at most 16 samples. -/
def historySize : Nat := 16

/-- R56: the Action Queue never holds more than 32 orders. -/
def queueSize : Nat := 32

/-- R67: the Order Tracker holds at most 16 orders … -/
def trackerSize : Nat := 16

/-- … of which at most 12 are ROUTINE (R61, R67). -/
def trackerRoutine : Nat := 12

/-- R161: the Suspension Stack holds at most 4 records. -/
def suspensionSize : Nat := 4

/-- R171: the Event Record holds 256 entries. -/
def recordSize : Nat := 256

/-- R174: at most four entries are returned by one READ_EVENTS. -/
def readEventsMost : Nat := 4

/-- R179: each forward queue holds 16 frames. -/
def forwardQueueSize : Nat := 16

/-- R179: each own queue holds 32 telegrams. -/
def ownQueueSize : Nat := 32

/-- R180: a retired identity is kept for 1 s. -/
def retiredLife : Nat := 1000

/-- R147: a Restore Program has 48 steps, 0 … 47. -/
def programSize : Nat := 48

/-- R194: a telegram shorter than 46 octets is padded to 46. -/
def minPayload : Nat := 46

/-- R195: the common header has 10 octets. -/
def headerSize : Nat := 10

/-- R180: the part's own station ID is 0x7F00 plus the SID straps unless Station Settings give another. -/
def strapIdBase : BitVec 16 := 0x7F00

/-- R183: the EtherType after cold reset. -/
def defaultEtherType : BitVec 16 := 0x9A1C

/-- R115: the Setpoint Order value that means "no limit". -/
def noLimit : Int := 0x7FFFFFFF

/-- The number of hand-overs one command may take before the model cuts the cascade off and marks the state
(`State.overrun`). DESIGN CHOICE (log 4): the manual gives no bound; no cascade of the part comes near this one. -/
def cascadeBound : Nat := 2 ^ 64

end Sys2Proof.Config
end

