-- ==== Sys2Proof/Machine/Types.lean ====
section
/-!
DEFINITION. The enumerations and record types of the part: one inductive type for each enumerated field of R197, and
one structure for each kind of record the chapters describe. Types only; what is computed from them stands in the
files beside this one.
-/

namespace Sys2Proof.Machine

/-! ## Enumerated fields (R197) -/

/-- Role of a Source Table entry (R3). -/
inductive Role where
  | unit | feeder | reference | gateway | air
  deriving DecidableEq, Repr

/-- Kind of a unit record; NONE leaves the record unused (R199). -/
inductive UnitKind where
  | unused | genset | pv | store
  deriving DecidableEq, Repr

/-- Mode of a unit or feeder. -/
inductive Mode where
  | auto | manual
  deriving DecidableEq, Repr

/-- Breaker state (R16). -/
inductive Breaker where
  | opened | closed | moving | unknown
  deriving DecidableEq, Repr

/-- Engine state (R16). -/
inductive Engine where
  | absent | stopped | prelube | cranking | firing | cooling | faulted
  deriving DecidableEq, Repr

/-- The fourteen genset states (R79), in the order of the table. -/
inductive GensetState where
  | unknown | unavailable | stopped | startQueued | cranking | crankRest | warming | closing | online
  | unloading | opening | cooldown | stopping | lockedOut
  deriving DecidableEq, Repr

/-- Start cause of a genset (R77). -/
inductive StartCause where
  | absent | blackstart | deficit | restore
  deriving DecidableEq, Repr

/-- Cause class of a crank request, highest first (R100). -/
inductive CauseClass where
  | blackstart | deficit | restore | operator
  deriving DecidableEq, Repr

/-- Lockout cause (R77). -/
inductive LockoutCause where
  | absent | startFail | closeFail | breakerTrip | engineFault | openFail | stopFail
  deriving DecidableEq, Repr

/-- Owner of a feeder (R123). -/
inductive FeederOwner where
  | free | shed | sequencer
  deriving DecidableEq, Repr

/-- Wait mode of a profile (R53). -/
inductive WaitMode where
  | plain | ready | frozen | readyFrozen
  deriving DecidableEq, Repr

/-- Condition of a Shed Table entry (R124). -/
inductive ShedCondition where
  | plain | skipNextIfTaken | skipNextIfPassed
  deriving DecidableEq, Repr

/-- Kind of a Restore Program step (R147). -/
inductive StepKind where
  | openFeeders | startGenset | closeFeeder | waitTime | waitFreq | checkReserve | selectBank | releasePv | finish
  deriving DecidableEq, Repr

/-- On-fail action of a step (R147). -/
inductive OnFail where
  | abort | skipNext | hold
  deriving DecidableEq, Repr

/-- The seven states of the Sequencer (R146). -/
inductive SeqState where
  | disarmed | armed | running | waiting | suspended | complete | aborted
  deriving DecidableEq, Repr

/-- Kind of an order (R55). -/
inductive OrderKind where
  | trip | close | crank | unload | load | opn | stop | limit
  deriving DecidableEq, Repr

/-- Class of an order (R55). -/
inductive OrderClass where
  | protective | routine
  deriving DecidableEq, Repr

/-- Cause of an order (R55); the owner follows from it. -/
inductive OrderCause where
  | stageShed | deficitShed | restore | dispatch | curtail | sequencer | operator
  deriving DecidableEq, Repr

/-- How an order ends: the five outcomes and the two removals (R74). -/
inductive OrderEnd where
  | confirmed | refused | timedOut | inhibited | superseded | cancelled | dropped
  deriving DecidableEq, Repr

/-- The Order Unit's answer to a submission (R57, R58). -/
inductive SubmitAnswer where
  | merged | taken | full
  deriving DecidableEq, Repr

/-- Status of a Management Response (R185). -/
inductive Status where
  | ok | busy | badTable | badIndex | badContent | duplicate | activeBank | refusedState | wrongResume
  deriving DecidableEq, Repr

/-- The tables (R170, R197). -/
inductive TableId where
  | source | unit | feeder | profile | shed | program | bank | settings | managers
  deriving DecidableEq, Repr

/-- The request kinds (R185). -/
inductive RequestKind where
  | readEntry | writeEntry | readSheet | readEvents | rewindEvents | selectBank | setMode | operate | clearLockout
  | arm | disarm | beginRestore | hold | resume | warmReset
  deriving DecidableEq, Repr

/-- The event kinds, in the order of the rows of R172 and then of R173, which is the order of their codes. -/
inductive EventKind where
  | stale | fresh | freqSource | lateReport | orderOutcome | queueHigh | stageTrip | deficitShed | feederShed
  | feederRestored | feederFailed | startRequest | crankGrant | startFail | gensetOnline | gensetTrip
  | gensetStopped | stopAbandoned | lockoutCleared | reassert | mirrorSet | bankSwitch | blackout | seqBegin
  | seqStep | seqSuspend | seqResume | seqComplete | seqAbort | stepSkippedOwner | portDown | portUp | tableWrite
  | warmReset
  deriving DecidableEq, Repr

/-- Cause of a bank switch (R47). -/
inductive SwitchCause where
  | request | step | pop
  deriving DecidableEq, Repr

/-- Cause of a run (R152, R153). -/
inductive RunCause where
  | request | blackout
  deriving DecidableEq, Repr

/-- How a program step ended (R154): DONE, or FAILED with its reason. -/
inductive StepEnd where
  | done | full | orderFailed | noUnit | lockout | timeout | short
  deriving DecidableEq, Repr

/-- Cause of a Suspension Stack record (R161). -/
inductive SuspendCause where
  | protection | operator
  deriving DecidableEq, Repr

/-- Why a run was aborted (R167). -/
inductive AbortCause where
  | stepFailed | stackFull
  deriving DecidableEq, Repr

/-- Cause of a Shed Stack entry (R127). -/
inductive ShedCause where
  | stage | deficit
  deriving DecidableEq, Repr

/-- Who started the freshness barrier (R143). -/
inductive BarrierOwner where
  | restoration | sequencer
  deriving DecidableEq, Repr

/-- State of the Crank Arbiter (R100). -/
inductive ArbState where
  | free | granted | holdoff
  deriving DecidableEq, Repr

/-- What the reset pins hold the part in (R191, R192). -/
inductive Phase where
  | running | warmHeld | coldHeld
  deriving DecidableEq, Repr

/-! ## Records -/

/-- A Source Table entry (R3). The publisher 0x0000 marks an unused entry. -/
structure SourceEntry where
  publisher   : StationId := 0
  role        : Role := .unit
  target      : Nat := 0
  staleLimit  : TimeCode := 0
  lastSeq     : Option TelSeq := none
  lastArrival : Option PartTime := none
  fresh       : Bool := false
  f           : Option Nat := none
  u           : Option Nat := none
  press       : Option Nat := none
  clamped     : Bool := false
  staleTimer  : Timer := none
  deriving DecidableEq, Repr

/-- The record that gives the island frequency (R18). -/
inductive FreqSource where
  | absent
  | reference (entry : Fin 64)
  | genset (unit : Fin 16)
  deriving DecidableEq, Repr

/-- One sample of the Frequency History (R19). -/
structure Sample where
  freq : Nat
  time : BitVec 32
  deriving DecidableEq, Repr

/-- The state timer of a genset runs as one of these (R77, R79). -/
inductive StateTimerKind where
  | warmUp | rest | cooldown
  deriving DecidableEq, Repr

/-- The control fields Dispatch holds for a genset record (R77). The state timer is idle when `timer` is none; what
it runs as is fixed by the state (R79). `fromCooldown` is the model's own field (log 46): the last start was taken from
COOLDOWN, so that no crank was made in it (R90, R172). -/
structure GensetControl where
  state       : GensetState := .unknown
  startCause  : StartCause := .absent
  attempts    : Nat := 0
  lockout     : LockoutCause := .absent
  timer       : Timer := none
  outstanding : Option OrderKind := none
  owed        : Option OrderKind := none
  want        : Bool := false
  fromCooldown : Bool := false
  deriving DecidableEq, Repr

/-- The fields Curtailment holds for a PV record (R107). -/
structure PvControl where
  mirror       : Nat := 0
  mirrorValid  : Bool := false
  mirrorExpiry : Option PartTime := none
  lastSent     : Option Nat := none
  outOfStep    : Bool := false
  deriving DecidableEq, Repr

/-- A unit record: configuration (R77, R186), measurements (R8, R11), device state (R16), the Order Unit's two timers
(R64, R65) and the control fields of its kind. The stale flag is a view of the Source Table (`unitStale`, R11). -/
structure UnitRec where
  kind           : UnitKind := .unused
  mode           : Mode := .auto
  device         : StationId := 0
  rated          : Nat := 0
  minLoad        : Nat := 0
  startRank      : Nat := 0
  warmUp         : TimeCode := 0
  cooldown       : TimeCode := 0
  startProfile   : Fin 16 := 0
  breakerProfile : Fin 16 := 0
  stopProfile    : Fin 16 := 0
  limitProfile   : Fin 16 := 0
  p              : Option Int := none
  f              : Option Nat := none
  avail          : Option Int := none
  dis            : Option Int := none
  chg            : Option Int := none
  clamped        : Bool := false
  breaker        : Breaker := .unknown
  engine         : Engine := .absent
  isLocal        : Bool := false
  inhibit        : Bool := false
  unloaded       : Bool := false
  lastPos        : Option TelSeq := none
  cycle          : Timer := none
  holdOff        : Timer := none
  genset         : GensetControl := {}
  pv             : PvControl := {}
  deriving DecidableEq, Repr

/-- A feeder record (R123, R199). `holdOff` is the settle hold-off. -/
structure FeederRec where
  used     : Bool := false
  mode     : Mode := .auto
  device   : StationId := 0
  profile  : Fin 16 := 0
  p        : Option Int := none
  clamped  : Bool := false
  breaker  : Breaker := .unknown
  inhibit  : Bool := false
  lastPos  : Option TelSeq := none
  owner    : FeederOwner := .free
  failed   : Bool := false
  shedLoad : Option Nat := none
  cycle    : Timer := none
  holdOff  : Timer := none
  deriving DecidableEq, Repr

/-- The Balance Sheet (R23). An invalid frequency or RoCoF is `none` and is read out as 0. -/
structure Sheet where
  l      : Int := 0
  gd     : Int := 0
  cd     : Int := 0
  dmin   : Int := 0
  gpv    : Int := 0
  gb     : Int := 0
  q      : Int := 0
  chgSum : Int := 0
  res    : Int := 0
  req    : Int := 0
  margin : Int := 0
  exp    : Int := 0
  freq   : Option Nat := none
  rocof  : Option Int := none
  deriving DecidableEq, Repr

/-- A Setting Bank (R42). Stages are indexed 0 … 7 here and numbered 1 … 8 in the manual. -/
structure Bank where
  threshold      : Vector Nat 8
  delay          : Vector TimeCode 8
  hysteresis     : Nat
  restoreFreq    : Nat
  restoreDelay   : TimeCode
  stepInterval   : TimeCode
  restoreMargin  : Nat
  deficitTrigger : Nat
  deficitArming  : Nat
  inertia        : Nat
  window         : Nat
  baseReserve    : Nat
  coverFactor    : Nat
  startMargin    : Nat
  stopMargin     : Nat
  stopDelay      : TimeCode
  dispatchInterval : TimeCode
  curtailInterval  : TimeCode
  rampStep       : Nat
  deadband       : Nat
  fOfc           : Nat
  fMax           : Nat
  mirrorLife     : TimeCode
  deadBusVoltage : Nat
  deadBusTime    : TimeCode
  deriving DecidableEq, Repr

/-- An entry of the Order Profile Table (R53) with its cold-reset values (R76). -/
structure Profile where
  setup        : TimeCode := 0
  pulse        : TimeCode := 0
  cycle        : TimeCode := 0
  holdOff      : TimeCode := 0
  attempts     : Nat := 1
  inhibitLimit : TimeCode := 0
  waitMode     : WaitMode := .plain
  deriving DecidableEq, Repr

/-- An order (R55). `step` is the model's own field (log 9): the serial number of the Sequencer step that submitted
it, so that an order of a step that has ended is not taken for one of the step in progress (R154). -/
structure Order where
  target    : Target
  device    : StationId
  kind      : OrderKind
  cls       : OrderClass
  value     : Int := 0
  deadBusOk : Bool := false
  cause     : OrderCause
  profile   : Fin 16
  step      : Nat := 0
  deriving DecidableEq, Repr

/-- A slot of the Order Tracker (R67). The deadline stands frozen exactly while the inhibit timer runs. -/
structure Slot where
  order      : Order
  tag        : Octet
  deadline   : Nat
  frozenUsed : Nat := 0
  inhibit    : Timer := none
  seen       : Bool := false
  deriving DecidableEq, Repr

/-- The nine order counters (R75). -/
structure OrderCounters where
  accepted   : Counter := 0
  sent       : Counter := 0
  confirmed  : Counter := 0
  refused    : Counter := 0
  timedOut   : Counter := 0
  inhibited  : Counter := 0
  superseded : Counter := 0
  cancelled  : Counter := 0
  dropped    : Counter := 0
  deriving DecidableEq, Repr

/-- What the Order Unit holds (chapter 4). -/
structure OrderUnit where
  queue      : List Order := []
  tracker    : List Slot := []
  tagCounter : Octet := 0
  counters   : OrderCounters := {}
  queueHigh  : Bool := false
  deriving DecidableEq, Repr

/-- An entry of the Crank Arbiter's collections (R100). `value` is the value of the OPERATE request an OPERATOR
request came from (R104), and 0 for the other classes. -/
structure CrankRequest where
  unit  : Fin 16
  cls   : CauseClass
  value : Int := 0
  deriving DecidableEq, Repr

/-- What the Crank Arbiter holds (R100). -/
structure Arbiter where
  state   : ArbState := .free
  grant   : Option CrankRequest := none
  batch   : List CrankRequest := []
  waiting : List CrankRequest := []
  holdOff : Timer := none
  deriving DecidableEq, Repr

/-- The stop timer: idle, or running for one candidate (R97). -/
structure StopTimer where
  unit : Fin 16
  left : Nat
  deriving DecidableEq, Repr

/-- What Dispatch holds beside the genset control fields (R86, R87, R97). -/
structure DispatchUnit where
  timer       : Nat
  stopTimer   : Option StopTimer := none
  restoreWait : Option Nat := none
  deriving DecidableEq, Repr

/-- An entry of the Shed Table (R124); unused when the feeder index is none. `stage` is 0 … 7 for stages 1 … 8. -/
structure ShedEntry where
  feeder    : Option (Fin 32) := none
  stage     : Fin 8 := 0
  deficit   : Bool := false
  condition : ShedCondition := .plain
  deriving DecidableEq, Repr

/-- An entry of the Shed Stack (R127). The trip state is PENDING while `done` is clear. -/
structure StackEntry where
  feeder : Fin 32
  load   : Nat
  cause  : ShedCause
  done   : Bool
  deriving DecidableEq, Repr

/-- The progress of the last deficit walk (R133). The walk's cause class is DEFICIT_SHED in every record. -/
structure WalkProgress where
  next  : Nat
  marks : List Nat
  cause : ShedCause := .deficit
  deriving DecidableEq, Repr

/-- The freshness barrier (R137, R143). -/
inductive Barrier where
  | idle
  | counting (feeder : Fin 32) (owner : BarrierOwner) (count : Nat)
  | stepping (feeder : Fin 32) (owner : BarrierOwner) (left : Nat)
  deriving DecidableEq, Repr

/-- What Shedding holds (R124, R127, R131, R133, R137). -/
structure Shedding where
  table         : Vector ShedEntry 32 := Vector.replicate 32 {}
  stack         : List StackEntry := []
  stageTimers   : Vector Timer 8 := Vector.replicate 8 none
  latches       : Vector Bool 8 := Vector.replicate 8 false
  deficitLatch  : Bool := false
  progress      : Option WalkProgress := none
  restoreDelay  : Timer := none
  permission    : Bool := false
  underRestore  : Option (Fin 32) := none
  barrier       : Barrier := .idle
  deriving DecidableEq, Repr

/-- A step record of the Restore Program (R147) with its cold-reset values (R168). -/
structure StepRec where
  kind    : StepKind := .finish
  operand : Nat := 0
  time    : TimeCode := 0
  onFail  : OnFail := .abort
  deriving DecidableEq, Repr

/-- A record of the Suspension Stack (R161). -/
structure Suspension where
  cause : SuspendCause
  bank  : Fin 4
  left  : Timer
  deriving DecidableEq, Repr

/-- One order a step has submitted, with how it ended once that has arrived (R154). -/
structure StepOrder where
  feeder : Fin 32
  ended  : Option OrderEnd := none
  deriving DecidableEq, Repr

/-- The step progress (R154), cleared when a step begins. The answers of Dispatch and of the barrier end the step or
become its pending end, so they are held there. `ended` is set once the step has ended, until the next one begins; a step
that ended by a failure under HOLD is begun again from there (R160, R165). -/
structure StepProgress where
  orders     : List StepOrder := []
  waitTimer  : Timer := none
  pendingEnd : Option StepEnd := none
  ended      : Bool := false
  deriving DecidableEq, Repr

/-- What the Sequencer holds (R146). `serial` is the model's own count of the steps begun (log 9). -/
structure Sequencer where
  state        : SeqState := .disarmed
  armed        : Bool := false
  program      : Vector StepRec 48 := Vector.replicate 48 {}
  position     : Fin 48 := 0
  progress     : StepProgress := {}
  stepTimeout  : Timer := none
  pvReleased   : Bool := false
  stack        : List Suspension := []
  deadBusTimer : Timer := none
  declared     : Bool := false
  serial       : Nat := 0
  deriving DecidableEq, Repr

/-- The subject of an event: a table with an index, or none (R170). -/
structure Subject where
  table : TableId
  index : Nat
  deriving DecidableEq, Repr

/-- An entry of the Event Record (R170). `detail` is the code R197 gives it, 0 for none. -/
structure Event where
  seq     : BitVec 32
  time    : PartTime
  kind    : EventKind
  subject : Option Subject
  value   : Int
  detail  : Nat
  deriving DecidableEq, Repr

/-- The Event Record (R170, R171), oldest entry first. The read cursor designates the entry `entries.length − unread`,
so it is held as the unread count. -/
structure EventRecord where
  entries    : List Event := []
  nextSeq    : BitVec 32 := 1
  unread     : Nat := 0
  recordHigh : Bool := false
  deriving DecidableEq, Repr

/-- One ring port (R178, R179). `linkPin` is its LINK output. `lastOut` is the model's own field (log 11): the frame
that left the port last. -/
structure PortState where
  link      : Bool := false
  linkPin   : Bool := false
  forwardQ  : List Frame := []
  ownQ      : List Frame := []
  forwarded : Counter := 0
  forwardDrops : Counter := 0
  ownDrops  : Counter := 0
  malformed : Counter := 0
  lastOut   : Option Frame := none
  deriving DecidableEq, Repr

/-- Station Settings (R183) with their cold-reset values; the read-only nominal frequency is `State.fsel`. -/
structure Settings where
  ownId       : StationId := 0
  etherType   : BitVec 16 := 0x9A1C
  beacon      : TimeCode := 0x4A
  queueOffset : Nat := 8
  eventOffset : Nat := 32
  airReady    : Nat := 0
  deriving DecidableEq, Repr

/-- A retired identity (R180), with the time it has left. -/
structure Retired where
  id        : StationId
  etherType : BitVec 16
  left      : Nat
  deriving DecidableEq, Repr

/-- An entry of the Manager List (R184). -/
structure Manager where
  id      : StationId := 0
  lastSeq : Option TelSeq := none
  deriving DecidableEq, Repr

/-- The open record (R184), while in use. -/
structure OpenRecord where
  id      : StationId
  lastSeq : TelSeq
  deriving DecidableEq, Repr

/-- A hand-over: what one block gives another inside one command (00_scope, Block diagram; file 95). Each is one
event at the block that takes it. -/
inductive Handover where
  /-- Dispatch tests the stop timer's conditions (R97). -/
  | stopTest
  /-- Shedding takes a restore test (R140). -/
  | restoreTest
  /-- A change of frequency source, to Shedding, the Sequencer and the Order Unit (R18). -/
  | freqChange
  /-- A frequency sample, to the Balance Engine and from it to the jobs (R19, R32). -/
  | sample (f : Nat)
  /-- The sample once RoCoF is formed, to the Sequencer, Curtailment and the Order Unit, after Shedding (R32). -/
  | sampleJobs (f : Nat)
  /-- An accepted report for a feeder, to the freshness barrier (R10, R143). -/
  | feederReport (f : Fin 32)
  /-- A PRESS from an AIR entry, to the Crank Arbiter (R20, R102). -/
  | pressure (kPa : Nat)
  /-- The Sequencer tests the dead-bus condition; set when the primary reference has changed (R150). -/
  | deadBusTest (primaryChanged : Bool)
  /-- A tagged Position Report, to the Order Unit (R17, R68). -/
  | taggedReport (t : Target) (tag : Octet) (refused accepted : Bool)
  /-- A changed INHIBIT flag, to the Order Unit (R17, R70). -/
  | inhibitChange (t : Target)
  /-- The copy of a gateway's Setpoint Order, to Curtailment (R14, R115). -/
  | setpointCopy (dest : StationId) (value : Int)
  /-- The Order Unit takes a send test (R62). -/
  | sendTest
  /-- A genset's report, to Dispatch (R17, R80 to R83). -/
  | gensetReport (u : Fin 16)
  /-- How an order ended, to its owner (R74); `own` when the owner itself withdrew it (R91). -/
  | orderEnd (o : Order) (e : OrderEnd) (own : Bool)
  /-- The outcome of a CRANK, to the Crank Arbiter (R74, R102); `operator` for one of cause OPERATOR. -/
  | crankOutcome (u : Fin 16) (profile : Fin 16) (operator : Bool)
  /-- A crank request, to the Crank Arbiter (R101). -/
  | crankRequest (r : CrankRequest)
  /-- A grant, to Dispatch (R92, R103). -/
  | grant (u : Fin 16)
  /-- An OPERATOR grant: the arbiter submits the operator's CRANK (R104). -/
  | operatorGrant (r : CrankRequest)
  /-- The Management Agent withdraws the genset's OPERATOR entry from the arbiter (R104). -/
  | operatorWithdraw (u : Fin 16)
  /-- A Dispatch evaluation (R86). -/
  | dispatchEval
  /-- A Curtailment evaluation (R109). -/
  | curtailEval
  /-- A wanted genset has entered STOPPED or COOLDOWN (R95). -/
  | wantTest (u : Fin 16)
  /-- A state timer of no duration ends at once (R92, R93, R99). -/
  | stateTimerEnd (u : Fin 16)
  /-- A stop timer of no duration expires at once (R97). -/
  | stopTimerEnd
  /-- The Sequencer asks Dispatch for a genset (R95, R156). -/
  | startAsk (u : Fin 16)
  /-- Dispatch's answer to the Sequencer: done or failed (R95, R156). -/
  | startAnswer (u : Fin 16) (done : Bool)
  /-- A stage trip or deficit shed, to the Sequencer (R132, R134, R161). -/
  | shedTaken
  /-- A grant of restore permission, to the Sequencer (R139, R163). -/
  | permissionGrant
  /-- The end of a barrier the Sequencer started (R143, R157). -/
  | barrierEnd (f : Fin 32)
  /-- A stage timer of no duration expires at once (R131). -/
  | stageEnd (stage : Fin 8)
  /-- A restore delay of no duration expires at once (R139). -/
  | restoreDelayEnd
  /-- A step interval of no duration expires at once (R143). -/
  | stepIntervalEnd
  /-- A dead-bus time of no duration declares the blackout at once (R150). -/
  | deadBusEnd
  /-- The rest of a FEEDER write's effect on the Shed Stack, after the cancelled TRIP has been taken (R123). -/
  | feederRewritten (f : Fin 32) (dropSequencer : Bool)
  /-- The start of a run, to Shedding (R138). -/
  | runStart
  /-- The end of a run, to Shedding (R138). -/
  | runEnd
  /-- The program goes on at this step (R154). -/
  | stepBegin (n : Nat)
  deriving DecidableEq, Repr

end Sys2Proof.Machine
end

