-- ==== Sys2Proof/Machine/Operands.lean ====
section
/-!
DEFINITION. The readings every chapter shares: time codes (R1), sequence comparison (R2), clamps (R9, R24), the byte
order of R195, and the tables of a fixed number of like records.
-/

namespace Sys2Proof.Machine

/-! ## Time codes (R1) -/

/-- The unit of a time code in milliseconds, from its upper two bits. -/
def timeUnit (c : TimeCode) : Nat :=
  match c.toNat / 64 with
  | 0 => 10
  | 1 => 100
  | 2 => 1000
  | _ => 10000

/-- R1: the duration of a time code in milliseconds, its lower six bits times its unit. -/
def timeMs (c : TimeCode) : Nat := (c.toNat % 64) * timeUnit c

/-- A time code whose count of 0 is taken as 1 s (R3 stale limit, R43 intervals, R183 beacon interval). -/
def timeOrSecond (c : TimeCode) : Nat := if timeMs c = 0 then 1000 else timeMs c

/-- A timer started with this duration, idle for a duration of 0. -/
def startTimer (ms : Nat) : Timer := if ms = 0 then none else some ms

/-! ## Sequences (R2) -/

/-- R2: `b` is newer than `a` when `b − a` modulo 65,536 lies in 1 … 32,767. -/
def newer (b a : TelSeq) : Bool := 1 ≤ (b - a).toNat && (b - a).toNat ≤ 32767

/-- A sequence test against a last sequence that may be absent (R5, R14, R15). -/
def newerOrFirst (b : TelSeq) : Option TelSeq → Bool
  | none => true
  | some a => newer b a

/-! ## Clamps -/

/-- `x` clamped to `lo … hi`. -/
def clamp (lo hi x : Int) : Int := max lo (min hi x)

/-- R24: a Balance Sheet sum that may be negative. -/
def clampSum (x : Int) : Int := clamp (-Config.sumLimit) Config.sumLimit x

/-- R24: a Balance Sheet sum that is never negative. -/
def clampSum0 (x : Int) : Int := clamp 0 Config.sumLimit x

/-- R87, R88, R140: a sum of loads saturating at 1,048,575 kW. -/
def satSum (x : Int) : Int := min Config.sumLimit x

/-! ## Octets (R195: most significant octet first, signed fields in two's complement) -/

/-- The octet at an offset, 0 beyond the end. -/
def octet (o : Octets) (i : Nat) : Octet := o.getD i 0

/-- An unsigned field of one octet. -/
def read8 (o : Octets) (i : Nat) : Nat := (octet o i).toNat

/-- An unsigned field of two octets. -/
def read16 (o : Octets) (i : Nat) : Nat := 256 * read8 o i + read8 o (i + 1)

/-- An unsigned field of four octets. -/
def read32 (o : Octets) (i : Nat) : Nat := 65536 * read16 o i + read16 o (i + 2)

/-- A signed field of four octets. -/
def readSigned (o : Octets) (i : Nat) : Int := (BitVec.ofNat 32 (read32 o i)).toInt

/-- One octet. -/
def put8 (n : Nat) : Octets := [BitVec.ofNat 8 n]

/-- Two octets. -/
def put16 (n : Nat) : Octets := [BitVec.ofNat 8 (n / 256), BitVec.ofNat 8 n]

/-- Four octets. -/
def put32 (n : Nat) : Octets := put16 (n / 65536) ++ put16 n

/-- Four octets of a signed field. -/
def putSigned (x : Int) : Octets := put32 (BitVec.ofInt 32 x).toNat

/-- Reserved octets are sent as 0 (R194). -/
def putZeros (n : Nat) : Octets := List.replicate n 0

/-- A flags octet from its bits, bit 0 first (R195). -/
def putFlags (bits : List Bool) : Octets := [BitVec.ofNat 8 (bits.foldr (fun b acc => b.toNat + 2 * acc) 0)]

/-! ## Tables of a fixed number of records -/

/-- Every record of a table changed by the same function. -/
def mapTable {α : Type} {n : Nat} (f : α → α) (v : Vector α n) : Vector α n :=
  ⟨(v.toList.map f).toArray, by simp⟩

/-- Every record of a table changed by a function of its index. -/
def mapIndexed {α : Type} {n : Nat} (f : Fin n → α → α) (v : Vector α n) : Vector α n :=
  ⟨((List.finRange n).map fun i => f i v[i]).toArray, by simp⟩

/-- One record of a table changed. -/
def modifyAt {α : Type} {n : Nat} (v : Vector α n) (i : Fin n) (f : α → α) : Vector α n := v.set i (f v[i])

/-- The first record that satisfies a test, by index. -/
def findIndex {α : Type} {n : Nat} (v : Vector α n) (p : α → Bool) : Option (Fin n) :=
  (List.finRange n).find? fun i => p v[i]

/-- An index read from a telegram, if the table has it. -/
def index? (n i : Nat) : Option (Fin n) := if h : i < n then some ⟨i, h⟩ else none

end Sys2Proof.Machine
end

