-- ==== Sys2Proof/Machine/Codes.lean ====
section
/-!
DEFINITION. The code values of R197: for each enumerated field its values in code order, and from that list the code of
a value and the value of a code. A code that names no value reads as none (R196, R199).
-/

namespace Sys2Proof.Machine

/-- The code of a value, its place in the list of values in code order. -/
def codeIn {α : Type} [DecidableEq α] (values : List α) (a : α) : Nat := values.idxOf a

def rolesByCode : List Role := [.unit, .feeder, .reference, .gateway, .air]
def unitKindsByCode : List UnitKind := [.unused, .genset, .pv, .store]
def modesByCode : List Mode := [.auto, .manual]
def breakersByCode : List Breaker := [.opened, .closed, .moving, .unknown]
def enginesByCode : List Engine := [.absent, .stopped, .prelube, .cranking, .firing, .cooling, .faulted]
def gensetStatesByCode : List GensetState :=
  [.unknown, .unavailable, .stopped, .startQueued, .cranking, .crankRest, .warming, .closing, .online, .unloading,
   .opening, .cooldown, .stopping, .lockedOut]
def startCausesByCode : List StartCause := [.absent, .blackstart, .deficit, .restore]
def lockoutCausesByCode : List LockoutCause :=
  [.absent, .startFail, .closeFail, .breakerTrip, .engineFault, .openFail, .stopFail]
def feederOwnersByCode : List FeederOwner := [.free, .shed, .sequencer]
def waitModesByCode : List WaitMode := [.plain, .ready, .frozen, .readyFrozen]
def shedConditionsByCode : List ShedCondition := [.plain, .skipNextIfTaken, .skipNextIfPassed]
def stepKindsByCode : List StepKind :=
  [.openFeeders, .startGenset, .closeFeeder, .waitTime, .waitFreq, .checkReserve, .selectBank, .releasePv, .finish]
def onFailsByCode : List OnFail := [.abort, .skipNext, .hold]
def seqStatesByCode : List SeqState := [.disarmed, .armed, .running, .waiting, .suspended, .complete, .aborted]
def orderKindsByCode : List OrderKind := [.trip, .close, .crank, .unload, .load, .opn, .stop, .limit]
def orderClassesByCode : List OrderClass := [.protective, .routine]
def statusesByCode : List Status :=
  [.ok, .busy, .badTable, .badIndex, .badContent, .duplicate, .activeBank, .refusedState, .wrongResume]

/-- Table IDs start at 1. -/
def tableIdsFromOne : List TableId :=
  [.source, .unit, .feeder, .profile, .shed, .program, .bank, .settings, .managers]

/-- Request kinds start at 1. -/
def requestKindsFromOne : List RequestKind :=
  [.readEntry, .writeEntry, .readSheet, .readEvents, .rewindEvents, .selectBank, .setMode, .operate, .clearLockout,
   .arm, .disarm, .beginRestore, .hold, .resume, .warmReset]

/-- Cause classes start at 1, in rank order (R100). -/
def causeClassesFromOne : List CauseClass := [.blackstart, .deficit, .restore, .operator]

/-- Event kinds are coded 1 to 34 in the order of the rows of R172 and R173. -/
def eventKindsFromOne : List EventKind :=
  [.stale, .fresh, .freqSource, .lateReport, .orderOutcome, .queueHigh, .stageTrip, .deficitShed, .feederShed,
   .feederRestored, .feederFailed, .startRequest, .crankGrant, .startFail, .gensetOnline, .gensetTrip, .gensetStopped,
   .stopAbandoned, .lockoutCleared, .reassert, .mirrorSet, .bankSwitch, .blackout, .seqBegin, .seqStep, .seqSuspend,
   .seqResume, .seqComplete, .seqAbort, .stepSkippedOwner, .portDown, .portUp, .tableWrite, .warmReset]

/-- The value of a code for a list of values in code order. -/
def ofCode {α : Type} (values : List α) (code : Nat) : Option α := values[code]?

/-- The value of a code for a list of values coded from 1. -/
def ofCodeFromOne {α : Type} (values : List α) (code : Nat) : Option α :=
  if code = 0 then none else values[code - 1]?

def TableId.code (t : TableId) : Nat := codeIn tableIdsFromOne t + 1
def EventKind.code (k : EventKind) : Nat := codeIn eventKindsFromOne k + 1
def CauseClass.code (c : CauseClass) : Nat := codeIn causeClassesFromOne c + 1
def StartCause.code (c : StartCause) : Nat := codeIn startCausesByCode c
def LockoutCause.code (c : LockoutCause) : Nat := codeIn lockoutCausesByCode c

/-! ## Telegram kinds and sample items -/

def kindSampleReport : Nat := 1
def kindPositionReport : Nat := 2
def kindActionOrder : Nat := 3
def kindSetpointOrder : Nat := 4
def kindRequest : Nat := 5
def kindResponse : Nat := 6
def kindBeacon : Nat := 7

def quantityP : Nat := 1
def quantityF : Nat := 2
def quantityU : Nat := 3
def quantityAvail : Nat := 4
def quantityDis : Nat := 5
def quantityChg : Nat := 6
def quantityPress : Nat := 7

/-! ## Event details: numbered from 1 in the order of the Detail column of R172 and R173, but for those R197 gives
other codes -/

def detailNone : Nat := 0

/-- FREQ_SOURCE. -/
def detailPrimary : Nat := 1
def detailSecondary : Nat := 2
def detailGenset : Nat := 3
def detailInvalid : Nat := 4

/-- DEFICIT_SHED. -/
def detailInitial : Nat := 1
def detailMakeUp : Nat := 2

/-- FEEDER_SHED at a completion; the two causes are numbered by `ShedCause.detail`. -/
def detailComplete : Nat := 3

/-- FEEDER_FAILED. -/
def detailTripFailed : Nat := 1
def detailCloseFailed : Nat := 2

/-- START_FAIL of an operator crank that found the Action Queue full. -/
def detailFull : Nat := 3

/-- MIRROR_SET. -/
def detailSet : Nat := 1
def detailClamped : Nat := 2
def detailReleased : Nat := 3

/-- PORT_DOWN, PORT_UP. -/
def portDetail : Port → Nat
  | .a => 1
  | .b => 2

/-- WARM_RESET. -/
def detailPin : Nat := 1
def detailRequest : Nat := 2

/-- ORDER_OUTCOME, and STOP_ABANDONED, which carries the same codes. A CONFIRMED order logs nothing. -/
def OrderEnd.detail : OrderEnd → Nat
  | .confirmed => 0
  | .refused => 1
  | .timedOut => 2
  | .inhibited => 3
  | .superseded => 4
  | .cancelled => 5
  | .dropped => 6

/-- FEEDER_SHED. -/
def ShedCause.detail : ShedCause → Nat
  | .stage => 1
  | .deficit => 2

/-- START_FAIL for the two lockout causes that log it, GENSET_TRIP for the others (R84). -/
def LockoutCause.detail : LockoutCause → Nat
  | .absent => 0
  | .startFail => 1
  | .closeFail => 2
  | .breakerTrip => 1
  | .engineFault => 2
  | .openFail => 3
  | .stopFail => 4

/-- BANK_SWITCH. -/
def SwitchCause.detail : SwitchCause → Nat
  | .request => 1
  | .step => 2
  | .pop => 3

/-- SEQ_BEGIN. -/
def RunCause.detail : RunCause → Nat
  | .request => 1
  | .blackout => 2

/-- SEQ_STEP. -/
def StepEnd.detail : StepEnd → Nat
  | .done => 1
  | .full => 2
  | .orderFailed => 3
  | .noUnit => 4
  | .lockout => 5
  | .timeout => 6
  | .short => 7

/-- SEQ_SUSPEND and SEQ_RESUME. -/
def SuspendCause.detail : SuspendCause → Nat
  | .protection => 1
  | .operator => 2

/-- SEQ_ABORT. -/
def AbortCause.detail : AbortCause → Nat
  | .stepFailed => 1
  | .stackFull => 2

end Sys2Proof.Machine
end

