-- ==== Sys2Proof/Machine/Defaults.lean ====
section
/-!
DEFINITION. The contents cold reset gives the Setting Banks, as R42 tables them for each setting of the FSEL strap. The
cold-reset values that no strap changes stand as the field defaults of Machine/Types.lean.
-/

namespace Sys2Proof.Machine

/-- One Setting Bank as cold reset leaves it (R42), for the sampled FSEL. -/
def defaultBank (fsel : Bool) : Bank where
  threshold      := if fsel then #v[58800, 58440, 58080, 57720, 0, 0, 0, 0] else #v[49000, 48700, 48400, 48100, 0, 0, 0, 0]
  delay          := Vector.replicate 8 0x0A
  hysteresis     := if fsel then 60 else 50
  restoreFreq    := if fsel then 59760 else 49800
  restoreDelay   := 0x8A
  stepInterval   := 0x85
  restoreMargin  := 100
  deficitTrigger := if fsel then 1200 else 1000
  deficitArming  := if fsel then 59400 else 49500
  inertia        := 30
  window         := 8
  baseReserve    := 500
  coverFactor    := 64
  startMargin    := 0
  stopMargin     := 300
  stopDelay      := 0xDE
  dispatchInterval := 0x4A
  curtailInterval  := 0x4A
  rampStep       := 100
  deadband       := 20
  fOfc           := if fsel then 60240 else 50200
  fMax           := if fsel then 61800 else 51500
  mirrorLife     := 0xC6
  deadBusVoltage := 100
  deadBusTime    := 0x82

end Sys2Proof.Machine
end

