-- ==== Sys2Proof/Machine/State.lean ====
section
/-!
DEFINITION. The state of the part: every piece of state the manual gives it, block by block as the block overview of
00_scope.md lists them, and the queue of waiting commands. Fault and Refusal stand here too. No command of this part
faults or is refused: the manual gives every one of them an effect.
-/

namespace Sys2Proof.Machine

/-- The state of the Arfepa 3416. -/
structure State where
  /-- What the reset pins hold the part in (R191, R192). -/
  phase       : Phase
  /-- The sampled FSEL strap: false 50 Hz, true 60 Hz (R191). -/
  fsel        : Bool
  /-- The sampled SID straps (R191). -/
  sid         : BitVec 4
  /-- Part time (00_scope, Conventions). -/
  partTime    : PartTime
  /-- Ring Port A and Ring Port B (R178, R179). -/
  portA       : PortState
  portB       : PortState
  /-- Station Settings (R183), the retired identity (R180) and the telegram sequence (R182). -/
  settings    : Settings
  retired     : Option Retired
  telSeq      : TelSeq
  /-- The Manager List, the open record (R184) and the beacon timer (R190). -/
  managers    : Vector Manager 4
  openRecord  : Option OpenRecord
  beaconTimer : Nat
  /-- The Source Table (R3), the frequency source (R18) and the Frequency History, oldest first (R19). -/
  sources     : Vector SourceEntry 64
  freqSource  : FreqSource
  history     : List Sample
  /-- The Unit Table and the Feeder Table. -/
  units       : Vector UnitRec 16
  feeders     : Vector FeederRec 32
  /-- The Balance Sheet (R23). -/
  sheet       : Sheet
  /-- The Setting Banks and the active bank number (R42, R47). -/
  banks       : Vector Bank 4
  activeBank  : Fin 4
  /-- The Order Profile Table (R53) and the Order Unit (R56, R67). -/
  profiles    : Vector Profile 16
  orders      : OrderUnit
  /-- Dispatch, the Crank Arbiter and the curtail timer (R86, R100, R108). -/
  dispatch    : DispatchUnit
  arbiter     : Arbiter
  curtailTimer : Nat
  /-- Shedding (R124, R127, R137) and the Sequencer (R146). -/
  shed        : Shedding
  seq         : Sequencer
  /-- The Event Record (R170). -/
  record      : EventRecord
  /-- The commands that are waiting, first in, first out: the model's own queue. -/
  pending     : List Instr
  /-- The hand-overs given by the event being taken and not yet taken themselves; empty between commands. The model's
  own field (log 4). -/
  handovers   : List Handover
  /-- Set when a cascade of hand-overs was cut off at `Config.cascadeBound`. The model's own field (log 4). -/
  overrun     : Bool
  deriving DecidableEq, Repr

/-- No command of this part stops the machine: the manual describes no fault. The type has no value. -/
inductive Fault where
  deriving DecidableEq, Repr

/-- Why a command is refused. -/
inductive Refusal where
  /-- A command the model gives no meaning to, by its mnemonic. Raised by no arm of this model. Safe. -/
  | notModelled (mnemonic : String)
  deriving DecidableEq, Repr

/-- The part at the release of a cold reset with these straps (R191, and R21, R41, R52, R76, R105, R121, R144, R168,
R177, R183 for the blocks). -/
def State.coldStart (fsel : Bool) (sid : BitVec 4) (pending : List Instr) : State where
  phase       := .running
  fsel        := fsel
  sid         := sid
  partTime    := 0
  portA       := {}
  portB       := {}
  settings    := {}
  retired     := none
  telSeq      := 0
  managers    := Vector.replicate 4 {}
  openRecord  := none
  beaconTimer := 1000
  sources     := Vector.replicate 64 {}
  freqSource  := .absent
  history     := []
  units       := Vector.replicate 16 {}
  feeders     := Vector.replicate 32 {}
  sheet       := { req := 500, margin := -500 }
  banks       := Vector.replicate 4 (defaultBank fsel)
  activeBank  := 0
  profiles    := Vector.replicate 16 {}
  orders      := {}
  dispatch    := { timer := 1000 }
  arbiter     := {}
  curtailTimer := 1000
  shed        := {}
  seq         := {}
  record      := {}
  pending     := pending
  handovers   := []
  overrun     := false

/-- The part right after reset. The straps are inputs, so FSEL low and SID 0 are the model's choice (log 5). -/
def State.reset : State := State.coldStart false 0 []

end Sys2Proof.Machine
end

