-- ==== Sys2Proof/Machine/Flags.lean ====
section
/-!
DEFINITION. The level flags of the part, RECORD_HIGH (R176) and QUEUE_HIGH (R60), and the flag bits that telegrams,
table entries and the sheet content carry (R199, R200).
-/

namespace Sys2Proof.Machine

/-- R176: RECORD_HIGH is set while the unread count is at or above 256 minus the event high offset. -/
def recordHighAt (offset unread : Nat) : Bool := Config.recordSize - offset ≤ unread

/-- R60: QUEUE_HIGH is set while the occupancy is at or above 32 minus the queue high offset. -/
def queueHighAt (offset occupancy : Nat) : Bool := Config.queueSize - offset ≤ occupancy

/-- R199: the flags octet of a SOURCE entry. -/
def sourceFlags (e : SourceEntry) : Octets :=
  putFlags [e.fresh, e.lastSeq.isSome, e.lastArrival.isSome, e.f.isSome, e.u.isSome, e.press.isSome, e.clamped]

/-- R199: the flags octet of a UNIT entry. UNLOADED is a genset's alone (R16), and the second quantity is F,
AVAIL or DIS by the record's kind. LOCAL and INHIBIT are every kind's, NONE's too (log 60). -/
def unitFlags (u : UnitRec) (stale : Bool) : Octets :=
  let second := match u.kind with
    | .genset => u.f.isSome
    | .pv => u.avail.isSome
    | .store => u.dis.isSome
    | .unused => false
  putFlags [stale, u.clamped, u.isLocal, u.inhibit, u.kind = .genset && u.unloaded, u.p.isSome, second, u.chg.isSome]

/-- R199: the genset flags octet of a UNIT entry. -/
def gensetFlags (g : GensetControl) : Octets := putFlags [g.want, g.timer.isSome]

/-- R199: the PV flags octet of a UNIT entry. -/
def pvFlags (p : PvControl) : Octets :=
  putFlags [p.mirrorValid, p.mirrorExpiry.isSome, p.lastSent.isSome, p.outOfStep]

/-- R199: the flags octet of a FEEDER entry. -/
def feederFlags (f : FeederRec) (stale : Bool) : Octets :=
  putFlags [stale, f.clamped, f.inhibit, f.failed, f.p.isSome, f.shedLoad.isSome, f.holdOff.isSome]

/-- R200: the flags octet of the Status Beacon. -/
def beaconFlags (s : State) : Octets :=
  putFlags [s.sheet.freq.isSome, s.sheet.rocof.isSome, s.shed.deficitLatch, s.shed.permission, s.orders.queueHigh,
    s.record.recordHigh, s.portA.link, s.portB.link]

/-- R200: the flags octet of the READ_SHEET content. -/
def sheetFlags (s : State) : Octets := putFlags [s.sheet.freq.isSome, s.sheet.rocof.isSome, s.seq.armed]

end Sys2Proof.Machine
end

