-- ==== Sys2Proof/Machine/Ops.lean ====
section
/-!
DEFINITION. The named operations every block shares: reading and writing a record of a table, handing something over
to another block, and appending an entry to the Event Record (R171). The views of the state that several blocks read
stand here too. This part takes no exception and has no status word to save: a command that another architecture would
answer with an exception is answered here by a status, an event or a changed flag, each with its own command.
-/

namespace Sys2Proof.Machine

/-! ## Views -/

/-- The nominal frequency in mHz (R191). -/
def State.fNom (s : State) : Nat := if s.fsel then 60000 else 50000

/-- The active bank, read at this moment. -/
def State.bank (s : State) : Bank := s.banks[s.activeBank]

/-- R180: the own station ID in force. -/
def State.ownId (s : State) : StationId :=
  if s.settings.ownId = 0 then Config.strapIdBase + s.sid.setWidth 16 else s.settings.ownId

def State.port (s : State) : Port → PortState
  | .a => s.portA
  | .b => s.portB

def State.modPort (s : State) (p : Port) (f : PortState → PortState) : State :=
  match p with
  | .a => { s with portA := f s.portA }
  | .b => { s with portB := f s.portB }

/-- R146: a run is in progress. -/
def SeqState.inRun : SeqState → Bool
  | .running => true
  | .waiting => true
  | .suspended => true
  | _ => false

def State.inRun (s : State) : Bool := s.seq.state.inRun

/-- R37: the Sequencer's forced zero on PV limits is in effect. -/
def State.forcedZero (s : State) : Bool := s.inRun && !s.seq.pvReleased

def SourceEntry.used (e : SourceEntry) : Bool := e.publisher != 0

def UnitRec.used (u : UnitRec) : Bool := u.kind != .unused

/-- R3: the used REFERENCE entries in index order; the first is the primary reference, the second the secondary. -/
def State.references (s : State) : List (Fin 64) :=
  (List.finRange 64).filter fun i => s.sources[i].used && s.sources[i].role = .reference

def State.primaryRef (s : State) : Option (Fin 64) := s.references.head?

/-- R11: a unit record is fresh while the used UNIT entry that targets it is FRESH. -/
def State.unitFresh (s : State) (u : Fin 16) : Bool :=
  s.sources.toList.any fun e => e.used && e.role = .unit && e.target = u.val && e.fresh

/-- R11: a feeder record is fresh while the used FEEDER entry that targets it is FRESH. -/
def State.feederFresh (s : State) (f : Fin 32) : Bool :=
  s.sources.toList.any fun e => e.used && e.role = .feeder && e.target = f.val && e.fresh

/-! ## Writing records -/

def State.modUnit (s : State) (u : Fin 16) (f : UnitRec → UnitRec) : State :=
  { s with units := modifyAt s.units u f }

def State.modFeeder (s : State) (i : Fin 32) (f : FeederRec → FeederRec) : State :=
  { s with feeders := modifyAt s.feeders i f }

def State.modSource (s : State) (i : Fin 64) (f : SourceEntry → SourceEntry) : State :=
  { s with sources := modifyAt s.sources i f }

def State.modGenset (s : State) (u : Fin 16) (f : GensetControl → GensetControl) : State :=
  s.modUnit u fun r => { r with genset := f r.genset }

def State.modPv (s : State) (u : Fin 16) (f : PvControl → PvControl) : State :=
  s.modUnit u fun r => { r with pv := f r.pv }

def State.genset (s : State) (u : Fin 16) : GensetControl := s.units[u].genset

/-! ## Handing over -/

/-- The hand-overs the event being taken gives, in the order in which they are to be taken. -/
def State.post (s : State) (hs : List Handover) : State := { s with handovers := s.handovers ++ hs }

/-- A hand-over taken before the others the event has given: what goes on in the same event (R154). -/
def State.postFirst (s : State) (h : Handover) : State := { s with handovers := h :: s.handovers }

/-! ## The Event Record (R171) -/

/-- R171: the entry joins as the newest, the oldest leaves when the record holds 256, the unread count is advanced up
to 256, and RECORD_HIGH is tested again. -/
def EventRecord.append (r : EventRecord) (offset : Nat) (e : Event) : EventRecord :=
  let kept := if r.entries.length < Config.recordSize then r.entries else r.entries.drop 1
  let unread := if r.unread < Config.recordSize then r.unread + 1 else r.unread
  { entries := kept ++ [e], nextSeq := r.nextSeq + 1, unread := unread, recordHigh := recordHighAt offset unread }

/-- A block logs an event: the Event Record adds the sequence number and the part time (R171). -/
def State.log (s : State) (kind : EventKind) (subject : Option Subject) (value : Int) (detail : Nat) : State :=
  let e : Event := ⟨s.record.nextSeq, s.partTime, kind, subject, value, detail⟩
  { s with record := s.record.append s.settings.eventOffset e }

/-- R176: RECORD_HIGH tested again against the event high offset. -/
def State.testRecordHigh (s : State) : State :=
  { s with record := { s.record with recordHigh := recordHighAt s.settings.eventOffset s.record.unread } }

def unitSubject (u : Fin 16) : Option Subject := some { table := .unit, index := u.val }

def feederSubject (f : Fin 32) : Option Subject := some { table := .feeder, index := f.val }

def sourceSubject (i : Fin 64) : Option Subject := some { table := .source, index := i.val }

def targetSubject : Target → Option Subject
  | .unit u => unitSubject u
  | .feeder f => feederSubject f

end Sys2Proof.Machine
end

