-- ==== Sys2Proof/Machine/Balance.lean ====
section
/-!
DEFINITION. The Balance Engine (chapter 2): the sums of the Balance Sheet, RoCoF, the deficit estimate and the PV
limits, each as an exact integer computation narrowed once at its end; and the choice of the frequency source (R18),
whose result the sheet carries.
-/

namespace Sys2Proof.Machine

/-! ## Which gensets count (R25) -/

/-- R25: a used genset record belongs to the online set by its Dispatch state or, where Dispatch does not drive it, by
its last reports. -/
def UnitRec.inOnlineSet (u : UnitRec) : Bool :=
  u.kind = .genset &&
    match u.genset.state with
    | .online | .unloading | .opening => true
    | .unknown | .unavailable | .lockedOut => u.breaker = .closed && u.engine = .firing
    | _ => false

/-- R25: the starting set. -/
def UnitRec.inStartingSet (u : UnitRec) : Bool :=
  u.kind = .genset &&
    match u.genset.state with
    | .startQueued | .cranking | .crankRest | .warming | .closing => true
    | _ => false

/-! ## The sums (R24, R26 to R28) -/

/-- The exact sum of a quantity over the records that count. -/
def sumOver {α : Type} (records : List α) (counts : α → Bool) (quantity : α → Int) : Int :=
  ((records.filter counts).map quantity).sum

/-- R26: a feeder counts in L while its breaker is CLOSED or UNKNOWN. -/
def FeederRec.inLoad (f : FeederRec) : Bool := f.used && (f.breaker = .closed || f.breaker = .unknown)

/-- R26: one genset's minimum load, rounded down on its own. -/
def UnitRec.minimumLoad (u : UnitRec) : Int := (u.rated * u.minLoad / 100 : Nat)

/-- R27: one store's quick reserve. -/
def UnitRec.quickReserve (u : UnitRec) : Int := max 0 (max 0 (u.dis.getD 0) - u.p.getD 0)

/-- R26 to R28: the whole sheet formed from the records, the genset states and the active bank. The frequency and
RoCoF are not sums and stay as they stand (R31, R32). -/
def computeSheet (s : State) : Sheet :=
  let units := s.units.toList
  let bank := s.bank
  let l := clampSum (sumOver s.feeders.toList FeederRec.inLoad fun f => f.p.getD 0)
  let gd := clampSum (sumOver units UnitRec.inOnlineSet fun u => u.p.getD 0)
  let cd := clampSum0 (sumOver units UnitRec.inOnlineSet fun u => u.rated)
  let dmin := clampSum0 (sumOver units UnitRec.inOnlineSet UnitRec.minimumLoad)
  let gpv := clampSum (sumOver units (fun u => u.kind = .pv) fun u => u.p.getD 0)
  let gb := clampSum (sumOver units (fun u => u.kind = .store) fun u => u.p.getD 0)
  let q := clampSum0 (sumOver units (fun u => u.kind = .store) UnitRec.quickReserve)
  let chgSum := clampSum0 (sumOver units (fun u => u.kind = .store) fun u => max 0 (u.chg.getD 0))
  let res := clampSum ((cd - gd) + q)
  let req := clampSum0 (bank.baseReserve + (bank.coverFactor * max 0 gpv) / 256)
  let margin := clampSum (res - req)
  let exp := clampSum (res + sumOver units UnitRec.inStartingSet fun u => u.rated)
  { l, gd, cd, dmin, gpv, gb, q, chgSum, res, req, margin, exp, freq := s.sheet.freq, rocof := s.sheet.rocof }

/-- R30: the reserve has changed. -/
def Sheet.reserveDiffers (a b : Sheet) : Bool :=
  a.res != b.res || a.req != b.req || a.margin != b.margin || a.exp != b.exp

/-- R29, R30: the sheet is recomputed whole, and a changed reserve is handed to Dispatch and Shedding. -/
def recompute (s : State) : State :=
  let new := computeSheet s
  let out := { s with sheet := new }
  if s.sheet.reserveDiffers new then out.post [.stopTest, .restoreTest] else out

/-! ## RoCoF (R32) -/

/-- R32: RoCoF over the window W of the history, `none` when it is not valid. -/
def rocofOver (history : List Sample) (window : Nat) : Option Int :=
  if history.length < window then none else
    match history.getLast?, history[history.length - window]? with
    | some new, some old =>
      let dt := (new.time - old.time).toNat
      if 1 ≤ dt ∧ dt ≤ Config.rocofWindowLimit then
        some (clamp (-Config.rocofLimit) Config.rocofLimit
          ((((new.freq : Int) - old.freq) * 1000000).tdiv dt))
      else none
    | _, _ => none

/-! ## The deficit estimate (R34, R35) -/

/-- R34: Pdef from the sheet as it stands, 0 when RoCoF is invalid. -/
def deficitEstimate (s : State) (inertia : Nat) : Int :=
  match s.sheet.rocof with
  | none => 0
  | some r => clampSum0 ((2 * (inertia : Int) * s.sheet.cd * (r.natAbs : Int)) / (10 * (s.fNom : Int)))

/-- R35: the amount to shed; 0 or less means nothing to shed. -/
def amountToShed (s : State) (inertia : Nat) : Int := deficitEstimate s inertia - s.sheet.q

/-! ## The PV limits (R36 to R40) -/

/-- R36, R107: a participating plant. -/
def UnitRec.participating (u : UnitRec) : Bool := u.kind = .pv && u.mode = .auto && u.device != 0

/-- R36: the base ceiling from the sheet and the records, for the rated sum S of the participating plants. -/
def baseCeiling (s : State) (rated : Int) : Int :=
  let fixed := sumOver s.units.toList (fun u => u.kind = .pv && !u.participating) fun u => max 0 (u.p.getD 0)
  clamp 0 rated (s.sheet.l + s.sheet.chgSum - s.sheet.dmin - fixed)

/-- R37, step 1: the over-frequency droop. -/
def droop (bank : Bank) (freq : Option Nat) (c : Int) : Int :=
  match freq with
  | none => c
  | some f =>
    if f ≤ bank.fOfc then c
    else if bank.fMax ≤ f then 0
    else c * ((bank.fMax : Int) - f) / ((bank.fMax : Int) - bank.fOfc)

/-- R37: the final ceiling. -/
def finalCeiling (s : State) (bank : Bank) (rated : Int) : Int :=
  if s.forcedZero then 0 else droop bank s.sheet.freq (baseCeiling s rated)

/-- R38: a plant's availability weight. -/
def UnitRec.weight (u : UnitRec) : Int :=
  match u.avail with
  | none => u.rated
  | some a => max 0 a

/-- R38: the shares before the remainder. -/
def shares (plants : List UnitRec) (ceiling : Int) : List Int :=
  let weights := (plants.map UnitRec.weight).sum
  let rated := (plants.map fun u => (u.rated : Int)).sum
  plants.map fun u =>
    if 0 < weights then ceiling * u.weight / weights else ceiling * (u.rated : Int) / rated

/-- R39: the remainder handed out in one pass in unit-index order, 1 kW to each plant below its rating. -/
def spread : Int → List (UnitRec × Int) → List (UnitRec × Int)
  | _, [] => []
  | rest, (u, x) :: more =>
    if 0 < rest && x < (u.rated : Int) then (u, x + 1) :: spread (rest - 1) more else (u, x) :: spread rest more

/-- R40: the mirror minimum, then the ramp. -/
def limitOf (bank : Bank) (u : UnitRec) (share : Int) : Int :=
  let capped := if u.pv.mirrorValid then min share (u.pv.mirror : Int) else share
  match u.pv.lastSent with
  | none => capped
  | some last => if (last : Int) + bank.rampStep < capped then (last : Int) + bank.rampStep else capped

/-- R36 to R40: one limit for each participating plant, in unit-index order. -/
def pvLimits (s : State) (bank : Bank) : List (Fin 16 × Int) :=
  let idx := (List.finRange 16).filter fun i => s.units[i].participating
  let plants := idx.map fun i => s.units[i]
  let c := finalCeiling s bank ((plants.map fun u => (u.rated : Int)).sum)
  let base := shares plants c
  let spreadOut := spread (c - base.sum) (plants.zip base)
  idx.zip (spreadOut.map fun x => limitOf bank x.1 (clamp 0 (x.1.rated : Int) x.2))

/-! ## The frequency source (R18) -/

/-- A reference qualifies while its entry is FRESH and its F is present. -/
def SourceEntry.qualifies (e : SourceEntry) : Bool := e.fresh && e.f.isSome

/-- R18: a genset qualifies while it is ONLINE, its record is fresh and its F is present. -/
def State.gensetQualifies (s : State) (u : Fin 16) : Bool :=
  let r := s.units[u]
  r.kind = .genset && r.genset.state = .online && s.unitFresh u && r.f.isSome

/-- R18: the first source that qualifies. -/
def sourceChoice (s : State) : FreqSource :=
  match (s.references.take 2).find? fun i => s.sources[i].qualifies with
  | some i => .reference i
  | none =>
    match (List.finRange 16).find? s.gensetQualifies with
    | some u => .genset u
    | none => .absent

/-- The F the named source last had written. -/
def State.freqOf (s : State) : FreqSource → Option Nat
  | .absent => none
  | .reference i => s.sources[i].f
  | .genset u => s.units[u].f

/-- R18: the subject and detail of a FREQ_SOURCE event. -/
def State.sourceEvent (s : State) : FreqSource → Option Subject × Nat
  | .absent => (none, detailInvalid)
  | .reference i => (sourceSubject i, if s.primaryRef = some i then detailPrimary else detailSecondary)
  | .genset u => (unitSubject u, detailGenset)

/-- R18, R31, R33: the source is chosen again; on a change the history is emptied, RoCoF becomes invalid, FREQ_SOURCE is
logged and the new frequency is handed on. -/
def chooseSource (s : State) : State :=
  let new := sourceChoice s
  if new = s.freqSource then s else
    let freq := s.freqOf new
    let s1 := { s with freqSource := new, history := [], sheet := { s.sheet with freq := freq, rocof := none } }
    let e := s.sourceEvent new
    (s1.log .freqSource e.1 (freq.getD 0 : Nat) e.2).post [.freqChange]

end Sys2Proof.Machine
end

