-- ==== Sys2Proof/Machine/Ports.lean ====
section
/-!
DEFINITION. The Ring Ports' queues (R178, R179) and the forming of the part's own telegrams (R182, R194, R195).
-/

namespace Sys2Proof.Machine

/-- R179, R178: a frame to be forwarded joins the forward queue of a port; a port that is DOWN discards it uncounted, and a
full queue discards it as a forward drop. -/
def PortState.placeForward (p : PortState) (f : Frame) : PortState :=
  if !p.link then p
  else if p.forwardQ.length < Config.forwardQueueSize then { p with forwardQ := p.forwardQ ++ [f] }
  else { p with forwardDrops := p.forwardDrops + 1 }

/-- R182: a telegram of the part joins the own queue of a port that is UP; a full queue counts an own drop. -/
def PortState.placeOwn (p : PortState) (f : Frame) : PortState :=
  if !p.link then p
  else if p.ownQ.length < Config.ownQueueSize then { p with ownQ := p.ownQ ++ [f] }
  else { p with ownDrops := p.ownDrops + 1 }

/-- R179: a free port transmits the front of its own queue, or else the front of its forward queue, and counts a
forwarded frame when it has left. A port that is DOWN transmits nothing (R178). -/
def PortState.transmit (p : PortState) : PortState :=
  if !p.link then p else
    match p.ownQ, p.forwardQ with
    | f :: rest, _ => { p with ownQ := rest, lastOut := some f }
    | [], f :: rest => { p with forwardQ := rest, forwarded := p.forwarded + 1, lastOut := some f }
    | [], [] => p

/-- R178: the frames waiting at a port found DOWN are discarded, each counted as a drop of its queue. -/
def PortState.goDown (p : PortState) : PortState :=
  { p with link := false, linkPin := false, forwardQ := [], ownQ := [],
           forwardDrops := p.forwardDrops + BitVec.ofNat 32 p.forwardQ.length,
           ownDrops := p.ownDrops + BitVec.ofNat 32 p.ownQ.length }

/-- R178: one read of a port's link status. -/
def readLink (p : Port) (up : Bool) (s : State) : State :=
  if (s.port p).link = up then s
  else if up then
    (s.modPort p fun q => { q with link := true, linkPin := true }).log .portUp none 0 (portDetail p)
  else (s.modPort p PortState.goDown).log .portDown none 0 (portDetail p)

/-- A frame that arrived on `p` leaves by the other port (R179). -/
def forward (p : Port) (f : Frame) (s : State) : State := s.modPort p.other fun q => q.placeForward f

/-- R195: the common header followed by the body, padded with zero octets to the Ethernet minimum (R194). -/
def telegramOctets (kind : Nat) (sender dest : StationId) (seq : TelSeq) (body : Octets) : Octets :=
  let t := put8 kind ++ put8 1 ++ put16 sender.toNat ++ put16 dest.toNat ++ put16 seq.toNat ++ put16 body.length ++ body
  t ++ putZeros (Config.minPayload - t.length)

/-- R182: the source address, 02-00-00-00 and the two octets of the own station ID. -/
def sourceAddress (own : StationId) : BitVec 48 := 0x020000000000 ||| own.setWidth 48

/-- The Ethernet broadcast address (R182). -/
def broadcast : BitVec 48 := 0xFFFFFFFFFFFF

/-- R182: the part forms a telegram: it takes the next telegram sequence and joins the own queue of each port that is
UP. Identity and EtherType are those in force at this moment. -/
def formTelegram (kind : Nat) (dest : StationId) (body : Octets) (s : State) : State :=
  let seq := s.telSeq + 1
  let f : Frame := ⟨broadcast, sourceAddress s.ownId, s.settings.etherType, telegramOctets kind s.ownId dest seq body⟩
  { s with telSeq := seq, portA := s.portA.placeOwn f, portB := s.portB.placeOwn f }

end Sys2Proof.Machine
end

