-- ==== Sys2Proof/Machine/Telegrams.lean ====
section
/-!
DEFINITION. Reading received telegrams (R181, R194 to R198): the common header, the check of the body length, and the
fields of each body the part takes in.
-/

namespace Sys2Proof.Machine

/-- A well-formed telegram: the fields of its common header and its body without padding (R195). -/
structure Telegram where
  kind   : Nat
  sender : StationId
  dest   : StationId
  seq    : TelSeq
  body   : Octets
  deriving DecidableEq, Repr

/-- R194: the body length is the one the table gives for the kind. -/
def bodyFits (kind : Nat) (body : Octets) : Bool :=
  let n := body.length
  if kind = kindSampleReport then 1 ≤ read8 body 5 && read8 body 5 ≤ 8 && n = 8 + 6 * read8 body 5
  else if kind = kindPositionReport then n = 4
  else if kind = kindActionOrder then n = 8
  else if kind = kindSetpointOrder then n = 4
  else if kind = kindRequest then 4 ≤ n && n ≤ 68
  else if kind = kindResponse then 4 ≤ n
  else kind = kindBeacon && n = 56

/-- A 16-bit field as a word. -/
def readWord (o : Octets) (i : Nat) : BitVec 16 := BitVec.ofNat 16 (read16 o i)

/-- R181: the sender field of a frame's payload, if it is long enough to hold one (log 25). -/
def senderOf (o : Octets) : Option StationId := if o.length < 4 then none else some (readWord o 2)

/-- R181: the common header of a payload is read and checked; none for a malformed telegram. -/
def parseTelegram (o : Octets) : Option Telegram :=
  if o.length < Config.headerSize then none else
    let t : Telegram := ⟨read8 o 0, readWord o 2, readWord o 4, readWord o 6, (o.drop Config.headerSize).take (read16 o 8)⟩
    if read8 o 1 = 1 && t.sender ≠ 0 && t.sender ≠ 0xFFFF && t.dest ≠ 0 && t.body.length = read16 o 8 &&
        bodyFits t.kind t.body
    then some t else none

/-- R195: the items of a Sample Report, in the order they are read: quantity kind and value. -/
def sampleItems (body : Octets) : List (Nat × Int) :=
  (List.range (read8 body 5)).map fun i => (read8 body (8 + 6 * i), readSigned body (10 + 6 * i))

/-- A Sample Report (R195). -/
structure SampleReport where
  sender : StationId
  seq    : TelSeq
  time   : BitVec 32
  valid  : Bool
  items  : List (Nat × Int)
  deriving DecidableEq, Repr

/-- R195, R196: a quality code that names no value is taken as SUSPECT. -/
def sampleOf (t : Telegram) : SampleReport :=
  ⟨t.sender, t.seq, BitVec.ofNat 32 (read32 t.body 0), read8 t.body 4 = 0, sampleItems t.body⟩

/-- A Position Report (R195). A breaker or engine code that names no value is `none` (R196). -/
structure PositionReport where
  sender    : StationId
  seq       : TelSeq
  tag       : Octet
  breaker   : Option Breaker
  engine    : Option Engine
  inhibit   : Bool
  refused   : Bool
  isLocal   : Bool
  unloaded  : Bool
  accepted  : Bool
  deriving DecidableEq, Repr

def positionOf (t : Telegram) : PositionReport :=
  let flags := octet t.body 3
  { sender := t.sender, seq := t.seq, tag := octet t.body 0, breaker := ofCode breakersByCode (read8 t.body 1),
    engine := ofCode enginesByCode (read8 t.body 2), inhibit := flags.getLsbD 0, refused := flags.getLsbD 1,
    isLocal := flags.getLsbD 2, unloaded := flags.getLsbD 3, accepted := flags.getLsbD 4 }

/-- A Management Request (R195). The kind and the table are codes, which need not name a value (R196). -/
structure Request where
  sender  : StationId
  seq     : TelSeq
  kind    : Nat
  table   : Nat
  index   : Nat
  count   : Nat
  content : Octets
  deriving DecidableEq, Repr

def requestOf (t : Telegram) : Request :=
  ⟨t.sender, t.seq, read8 t.body 0, read8 t.body 1, read8 t.body 2, read8 t.body 3, t.body.drop 4⟩

end Sys2Proof.Machine
end

