-- ==== Sys2Proof/Machine/Intake.lean ====
section
/-!
DEFINITION. Sample Intake (R5 to R20): admission by sequence, the items of a Sample Report, stale timers, the gateway's
Setpoint Orders, Position Reports, and the frequency sample.
-/

namespace Sys2Proof.Machine

/-! ## Items (R7 to R9) -/

/-- R7: the first item of a quantity kind. -/
def firstItem (kind : Nat) (items : List (Nat × Int)) : Option Int := (items.find? fun x => x.1 = kind).map Prod.snd

/-- R9: an item's value clamped into the range of its quantity, and whether the clamp changed it. -/
def clampedItem (kind : Nat) (lo hi : Int) (items : List (Nat × Int)) : Option (Int × Bool) :=
  (firstItem kind items).map fun v => (clamp lo hi v, clamp lo hi v != v)

def powerItem (kind : Nat) (items : List (Nat × Int)) : Option (Int × Bool) :=
  clampedItem kind (-Config.powerLimit) Config.powerLimit items

def freqItem (items : List (Nat × Int)) : Option (Int × Bool) := clampedItem quantityF 0 Config.freqLimit items
def voltItem (items : List (Nat × Int)) : Option (Int × Bool) := clampedItem quantityU 0 Config.voltLimit items
def pressItem (items : List (Nat × Int)) : Option (Int × Bool) := clampedItem quantityPress 0 Config.pressLimit items

/-- A field after an item: the item's value, or the field as it was. -/
def written {α : Type} (conv : Int → α) (old : Option α) (item : Option (Int × Bool)) : Option α :=
  match item with
  | some x => some (conv x.1)
  | none => old

/-- R9: the clamped flag after the items that were written. -/
def clampedAfter (old : Bool) (items : List (Option (Int × Bool))) : Bool :=
  if items.all fun x => x.isNone then old else items.any fun x => x.any fun y => y.2

/-- R8: an accepted report writes the record of a unit, by its kind. -/
def writeUnit (items : List (Nat × Int)) (r : UnitRec) : UnitRec :=
  let p := powerItem quantityP items
  match r.kind with
  | .genset =>
    let f := freqItem items
    { r with p := written id r.p p, f := written Int.toNat r.f f, clamped := clampedAfter r.clamped [p, f] }
  | .pv =>
    let avail := powerItem quantityAvail items
    { r with p := written id r.p p, avail := written id r.avail avail, clamped := clampedAfter r.clamped [p, avail] }
  | .store =>
    let dis := powerItem quantityDis items
    let chg := powerItem quantityChg items
    { r with p := written id r.p p, dis := written id r.dis dis, chg := written id r.chg chg,
             clamped := clampedAfter r.clamped [p, dis, chg] }
  | .unused => r

/-- R8: an accepted report writes the record of a feeder. -/
def writeFeeder (items : List (Nat × Int)) (r : FeederRec) : FeederRec :=
  let p := powerItem quantityP items
  { r with p := written id r.p p, clamped := clampedAfter r.clamped [p] }

/-- R8: an accepted report writes a REFERENCE or AIR entry. -/
def writeSource (items : List (Nat × Int)) (e : SourceEntry) : SourceEntry :=
  match e.role with
  | .reference =>
    let f := freqItem items
    let u := voltItem items
    { e with f := written Int.toNat e.f f, u := written Int.toNat e.u u, clamped := clampedAfter e.clamped [f, u] }
  | .air =>
    let x := pressItem items
    { e with press := written Int.toNat e.press x, clamped := clampedAfter e.clamped [x] }
  | _ => e

/-- R8: the items of an accepted report are written. -/
def writeItems (i : Fin 64) (items : List (Nat × Int)) (s : State) : State :=
  let e := s.sources[i]
  match e.role with
  | .unit =>
    match index? 16 e.target with
    | some u => s.modUnit u (writeUnit items)
    | none => s
  | .feeder =>
    match index? 32 e.target with
    | some f => s.modFeeder f (writeFeeder items)
    | none => s
  | .reference | .air => s.modSource i (writeSource items)
  | .gateway => s

/-! ## Fresh and stale (R12, R13) -/

/-- R12: the value of a STALE or FRESH event. -/
def SourceEntry.eventValue (e : SourceEntry) : Int :=
  match e.role with
  | .unit | .feeder => e.target
  | _ => -1

/-- R10 step 2, R13: the entry becomes FRESH; FRESH is logged when it was STALE. -/
def makeFresh (i : Fin 64) (timer : Timer) (s : State) : State :=
  let e := s.sources[i]
  let out := s.modSource i fun e => { e with fresh := true, staleTimer := timer }
  if e.fresh then out else out.log .fresh (sourceSubject i) e.eventValue detailNone

/-! ## Sample Reports (R5, R6, R10, R19) -/

/-- R19: the sample joins the Frequency History; the oldest leaves when it holds 16. -/
def appendSample (x : Sample) (h : List Sample) : List Sample :=
  (if h.length < Config.historySize then h else h.drop 1) ++ [x]

/-- R10 step 4: the F item of a report that is a frequency sample, for the entry that sent it. -/
def sampleFreq (s : State) (i : Fin 64) (items : List (Nat × Int)) : Option Nat :=
  let e := s.sources[i]
  let isSource : Bool := match e.role with
    | .reference => s.freqSource = .reference i
    | .unit =>
      match index? 16 e.target with
      | some u => s.freqSource = .genset u && s.units[u].kind = .genset
      | none => false
    | _ => false
  if isSource then (freqItem items).map fun x => x.1.toNat else none

/-- R19, R31: a frequency sample joins the history and is the sheet's frequency, and is handed on. -/
def takeSample (f : Option Nat) (time : BitVec 32) (s : State) : State :=
  match f with
  | none => s
  | some f => { s with history := appendSample ⟨f, time⟩ s.history, sheet := { s.sheet with freq := some f } }.post [.sample f]

/-- R10: what an accepted report hands to each block, the frequency sample apart. -/
def sampleHandovers (s : State) (i : Fin 64) (wasFresh : Bool) (items : List (Nat × Int)) : List Handover :=
  let e := s.sources[i]
  match e.role with
  | .feeder => (index? 32 e.target).toList.map .feederReport
  | .air => (pressItem items).toList.map fun x => .pressure x.1.toNat
  | .reference =>
    if s.primaryRef = some i && ((voltItem items).isSome || !wasFresh) then [.deadBusTest false] else []
  | _ => []

/-- The F of the record or entry that an entry's reports write, to tell its first write (R18). -/
def entryFreq (s : State) (i : Fin 64) : Option Nat :=
  let e := s.sources[i]
  match e.role with
  | .reference => e.f
  | .unit => (index? 16 e.target).bind fun u => s.units[u].f
  | _ => none

/-- R29: the sheet is recomputed for an entry that feeds a unit or feeder record. -/
def recomputeFor (role : Role) (s : State) : State :=
  match role with
  | .unit | .feeder => recompute s
  | _ => s

/-- R10: an accepted Sample Report is taken in. -/
def acceptSample (i : Fin 64) (r : SampleReport) (s : State) : State :=
  let before := s.sources[i]
  let wrote := writeItems i r.items s
  let fresh := makeFresh i (some (timeOrSecond before.staleLimit)) wrote
  let first := (entryFreq s i).isNone && (entryFreq fresh i).isSome
  let chosen := if !before.fresh || first then chooseSource fresh else fresh
  let summed := recomputeFor before.role chosen
  takeSample (sampleFreq summed i r.items) r.time (summed.post (sampleHandovers summed i before.fresh r.items))

/-- R5, R6: a Sample Report is admitted by sequence; one of quality VALID is accepted, one of quality SUSPECT is set
aside. -/
def takeSampleReport (r : SampleReport) (s : State) : State :=
  match findIndex s.sources fun e => e.used && e.publisher = r.sender with
  | none => s
  | some i =>
    let e := s.sources[i]
    if e.role ≠ .gateway && (!e.fresh || newerOrFirst r.seq e.lastSeq) then
      let admitted := s.modSource i fun e => { e with lastSeq := some r.seq, lastArrival := some s.partTime }
      if r.valid then acceptSample i r admitted else admitted
    else s

/-- R12: the stale timer of an entry expires, if it is due. -/
def staleExpires (i : Fin 64) (s : State) : State :=
  let e := s.sources[i]
  if e.staleTimer ≠ some 0 then s else
    let stale := s.modSource i fun e => { e with fresh := false, staleTimer := none }
    let logged := stale.log .stale (sourceSubject i) e.eventValue detailNone
    let chosen := chooseSource (recomputeFor e.role logged)
    if s.primaryRef = some i then chosen.post [.deadBusTest false] else chosen

/-! ## Setpoint Orders (R14) -/

/-- R14: a gateway's Setpoint Order is admitted for copying. -/
def takeSetpoint (t : Telegram) (s : State) : State :=
  match findIndex s.sources fun e => e.used && e.role = .gateway && e.publisher = t.sender with
  | none => s
  | some i =>
    if newerOrFirst t.seq s.sources[i].lastSeq then
      let admitted := s.modSource i fun e => { e with lastSeq := some t.seq, lastArrival := some s.partTime }
      (chooseSource (makeFresh i none admitted)).post [.setpointCopy t.dest (readSigned t.body 0)]
    else s

/-! ## Position Reports (R15 to R17) -/

/-- R16: a Position Report writes the device state of a unit, by its kind. -/
def writeUnitDevice (r : PositionReport) (x : UnitRec) : UnitRec :=
  let device := { x with lastPos := some r.seq, breaker := r.breaker.getD x.breaker, isLocal := r.isLocal, inhibit := r.inhibit }
  if x.kind = .genset then { device with engine := r.engine.getD x.engine, unloaded := r.unloaded } else device

/-- R16: a Position Report writes the device state of a feeder. -/
def writeFeederDevice (r : PositionReport) (x : FeederRec) : FeederRec :=
  { x with lastPos := some r.seq, breaker := r.breaker.getD x.breaker, inhibit := r.inhibit }

/-- R17: what an admitted report hands to the Order Unit. -/
def orderHandovers (t : Target) (r : PositionReport) (inhibitBefore : Bool) : List Handover :=
  (if r.tag ≠ 0 then [.taggedReport t r.tag r.refused r.accepted] else []) ++
  (if r.inhibit ≠ inhibitBefore then [.inhibitChange t] else [])

/-- R15 to R17, R29: a report admitted for a unit record. The sheet of a genset is formed again, and handed on where its reserve
has changed (R30), before the report goes to the Order Unit and to Dispatch (log 43). -/
def acceptUnitReport (u : Fin 16) (r : PositionReport) (s : State) : State :=
  let x := s.units[u]
  let wrote := s.modUnit u (writeUnitDevice r)
  let summed := if x.kind = .genset then recompute wrote else wrote
  summed.post (orderHandovers (.unit u) r x.inhibit ++ if x.kind = .genset then [.gensetReport u] else [])

/-- R15 to R17, R29: a report admitted for a feeder record. A changed breaker state has the sheet formed again before the report
goes to the Order Unit (log 43). -/
def acceptFeederReport (f : Fin 32) (r : PositionReport) (s : State) : State :=
  let x := s.feeders[f]
  let wrote := s.modFeeder f (writeFeederDevice r)
  let summed := if r.breaker.any fun b => b ≠ x.breaker then recompute wrote else wrote
  summed.post (orderHandovers (.feeder f) r x.inhibit)

/-- R15: the used record whose device has this station ID. -/
def recordOf (s : State) (id : StationId) : Option Target :=
  if id = 0 then none else
    match findIndex s.units fun r => r.used && r.device = id with
    | some u => some (.unit u)
    | none => (findIndex s.feeders fun r => r.used && r.device = id).map .feeder

/-- R15: a Position Report is admitted by sequence. -/
def takePositionReport (r : PositionReport) (s : State) : State :=
  match recordOf s r.sender with
  | none => s
  | some (.unit u) => if newerOrFirst r.seq s.units[u].lastPos then acceptUnitReport u r s else s
  | some (.feeder f) => if newerOrFirst r.seq s.feeders[f].lastPos then acceptFeederReport f r s else s

/-! ## The frequency sample at the Balance Engine (R32) -/

/-- R32: RoCoF over the history as it now stands, under the active bank's window. -/
def formRocof (s : State) : State :=
  { s with sheet := { s.sheet with rocof := rocofOver s.history s.bank.window } }

end Sys2Proof.Machine
end

