-- ==== Sys2Proof/Machine/OrderUnit.lean ====
section
/-!
DEFINITION. The Order Unit (chapter 4): the Action Queue, the Order Tracker, sending, and the outcomes and removals. A
block calls `submitRoutine`, `submitProtective` and `withdraw` and has its answer at once; how an order ends is handed
to its owner.
-/

namespace Sys2Proof.Machine

/-! ## Profiles (R53) -/

/-- R53: the deadline of a profile, setup plus pulse, with 0 taken as 10 ms. -/
def Profile.deadline (p : Profile) : Nat :=
  if timeMs p.setup + timeMs p.pulse = 0 then 10 else timeMs p.setup + timeMs p.pulse

/-- R53: the effective cycle, the larger of cycle and deadline. -/
def Profile.effectiveCycle (p : Profile) : Nat := max (timeMs p.cycle) p.deadline

/-- R69: the wait modes in which the expected report confirms at once. -/
def WaitMode.confirmsAtOnce : WaitMode → Bool
  | .ready | .readyFrozen => true
  | .plain | .frozen => false

/-- R70: the wait modes in which INHIBIT freezes the deadline. -/
def WaitMode.freezes : WaitMode → Bool
  | .frozen | .readyFrozen => true
  | .plain | .ready => false

/-! ## The target record of an order -/

def State.targetDevice (s : State) : Target → StationId
  | .unit u => s.units[u].device
  | .feeder f => s.feeders[f].device

def State.targetInhibit (s : State) : Target → Bool
  | .unit u => s.units[u].inhibit
  | .feeder f => s.feeders[f].inhibit

def State.cycleOf (s : State) : Target → Timer
  | .unit u => s.units[u].cycle
  | .feeder f => s.feeders[f].cycle

def State.holdOffOf (s : State) : Target → Timer
  | .unit u => s.units[u].holdOff
  | .feeder f => s.feeders[f].holdOff

def State.setCycle (s : State) (t : Target) (x : Timer) : State :=
  match t with
  | .unit u => s.modUnit u fun r => { r with cycle := x }
  | .feeder f => s.modFeeder f fun r => { r with cycle := x }

def State.setHoldOff (s : State) (t : Target) (x : Timer) : State :=
  match t with
  | .unit u => s.modUnit u fun r => { r with holdOff := x }
  | .feeder f => s.modFeeder f fun r => { r with holdOff := x }

/-- The profile an order names, as the table holds it now (R54). -/
def State.profileOf (s : State) (o : Order) : Profile := s.profiles[o.profile]

def State.modOrders (s : State) (f : OrderUnit → OrderUnit) : State := { s with orders := f s.orders }

/-! ## QUEUE_HIGH (R60) -/

/-- R60: QUEUE_HIGH tested again; a change from clear to set is logged with the occupancy. -/
def testQueueHigh (s : State) : State :=
  let high := queueHighAt s.settings.queueOffset s.orders.queue.length
  let out := s.modOrders fun u => { u with queueHigh := high }
  if high && !s.orders.queueHigh then out.log .queueHigh none s.orders.queue.length detailNone else out

/-- The Action Queue changes its occupancy, and QUEUE_HIGH is tested again. -/
def setQueue (q : List Order) (s : State) : State := testQueueHigh (s.modOrders fun u => { u with queue := q })

/-! ## How an order ends (R74, R75) -/

/-- R75: the counter of an outcome or removal is advanced. -/
def OrderCounters.ended (c : OrderCounters) : OrderEnd → OrderCounters
  | .confirmed => { c with confirmed := c.confirmed + 1 }
  | .refused => { c with refused := c.refused + 1 }
  | .timedOut => { c with timedOut := c.timedOut + 1 }
  | .inhibited => { c with inhibited := c.inhibited + 1 }
  | .superseded => { c with superseded := c.superseded + 1 }
  | .cancelled => { c with cancelled := c.cancelled + 1 }
  | .dropped => { c with dropped := c.dropped + 1 }

/-- R74, steps 2 and 3: the order's end is counted and, unless it is CONFIRMED, logged. -/
def recordEnd (o : Order) (e : OrderEnd) (value : Nat) (s : State) : State :=
  let counted := s.modOrders fun u => { u with counters := u.counters.ended e }
  if e = .confirmed then counted else counted.log .orderOutcome (targetSubject o.target) value e.detail

/-- R65, R74 step 4: the target's hold-off starts afresh at an outcome other than SUPERSEDED of an order other than a
CRANK; a count of 0 leaves the timer idle. -/
def startHoldOff (o : Order) (e : OrderEnd) (s : State) : State :=
  if e = .superseded || o.kind = .crank then s
  else s.setHoldOff o.target (startTimer (timeMs (s.profileOf o).holdOff))

/-- R74, step 5: to whom an end is handed. The outcome of a CRANK goes to the Crank Arbiter too, which takes it before
the owner does (log 4). Of an OPERATOR order the Management Agent takes only the removal of a CRANK (R104). -/
def endHandovers (o : Order) (e : OrderEnd) (own outcome : Bool) : List Handover :=
  let arbiter := match o.kind, o.target with
    | .crank, .unit u =>
      if outcome then [Handover.crankOutcome u o.profile (o.cause = .operator)]
      else if o.cause = .operator then [Handover.operatorWithdraw u] else []
    | _, _ => []
  let owner := if o.cause = .operator then [] else [Handover.orderEnd o e own]
  arbiter ++ owner

/-- R74: a sent order ends with an outcome: its slot is freed, and a send test follows the owner's reaction. An outcome inside a
send test reaches the owner after that test's walk (log 62). -/
def endSlot (slot : Slot) (e : OrderEnd) (s : State) : State :=
  let freed := s.modOrders fun u => { u with tracker := u.tracker.filter fun x => x.tag ≠ slot.tag }
  (startHoldOff slot.order e (recordEnd slot.order e slot.tag.toNat freed)).post
    (endHandovers slot.order e false true ++ [.sendTest])

/-- R74: an order that has left the queue unsent ends with a removal; `own` when its owner withdrew it. -/
def endQueued (o : Order) (e : OrderEnd) (own : Bool) (s : State) : State :=
  (recordEnd o e 0 s).post (endHandovers o e own false)

/-! ## Sending (R61 to R64) -/

/-- The slot of a target's order in the tracker, if it has one. -/
def State.slotOf (s : State) (t : Target) : Option Slot := s.orders.tracker.find? fun x => x.order.target = t

/-- R61, condition 5, which only a feeder CLOSE has. -/
def closeAllowed (s : State) (o : Order) : Bool :=
  match o.kind, o.target with
  | .close, .feeder _ =>
    match s.sheet.freq with
    | none => true
    | some f => s.bank.restoreFreq ≤ f
  | _, _ => true

/-- R61: a queued order is eligible. -/
def eligible (s : State) (o : Order) : Bool :=
  let tracker := s.orders.tracker
  let held := s.slotOf o.target
  match o.cls with
  | .routine =>
    tracker.length < Config.trackerSize &&
      (tracker.filter fun x => x.order.cls = .routine).length < Config.trackerRoutine &&
      held.isNone && (s.cycleOf o.target).isNone && (s.holdOffOf o.target).isNone && closeAllowed s o
  | .protective =>
    match held with
    | none => tracker.length < Config.trackerSize
    | some x => x.order.cls = .routine

/-- R63: the tag after `t`, with 255 followed by 1. -/
def tagAfter (t : Octet) : Octet := if t = 255 then 1 else t + 1

/-- R63: the next tag that no slot holds; found within the number of slots plus one. -/
def nextFreeTag (held : List Octet) : Nat → Octet → Octet
  | 0, t => tagAfter t
  | n + 1, t => if tagAfter t ∈ held then nextFreeTag held n (tagAfter t) else tagAfter t

/-- R195: the body of an Action Order. -/
def orderBody (tag : Octet) (o : Order) : Octets :=
  [tag] ++ put8 (codeIn orderKindsByCode o.kind) ++ put8 (codeIn orderClassesByCode o.cls) ++ putFlags [o.deadBusOk] ++
    putSigned o.value

/-- R70: the deadline of a slot freezes, also one with 0 ms left whose expiry is not yet taken (log 61); with no frozen time left
the order ends INHIBITED at once, which at its own send is inside a send test (log 62). -/
def freeze (slot : Slot) (s : State) : State :=
  let left := timeMs (s.profileOf slot.order).inhibitLimit - slot.frozenUsed
  if left = 0 then endSlot slot .inhibited s
  else s.modOrders fun u =>
    { u with tracker := u.tracker.map fun x => if x.tag = slot.tag then { x with inhibit := some left } else x }

/-- R62: one order is sent. An order that ends here, SUPERSEDED by this one or INHIBITED at this send, is handed to its owner after the
walk that sends (log 62). -/
def sendOne (o : Order) (s : State) : State :=
  let free := match s.slotOf o.target with
    | some x => endSlot x .superseded s
    | none => s
  let left := setQueue (free.orders.queue.erase o) free
  let p := left.profileOf o
  let tag := nextFreeTag (left.orders.tracker.map Slot.tag) left.orders.tracker.length left.orders.tagCounter
  let slot : Slot := { order := o, tag := tag, deadline := p.deadline }
  let held := left.modOrders fun u =>
    { u with tracker := u.tracker ++ [slot], tagCounter := tag, counters := { u.counters with sent := u.counters.sent + 1 } }
  let told := formTelegram kindActionOrder o.device (orderBody tag o) held
  let timed := told.setCycle o.target (some p.effectiveCycle)
  if p.waitMode.freezes && timed.targetInhibit o.target then freeze slot timed else timed

/-- R62: the walk from the front, repeated until no queued order is eligible. Each send shortens the queue, so its length
bounds the repetition. The walk is finished before the owner of an order that ends in it reacts, so another queued order can take
the slot that this end frees (log 62). -/
def sendLoop : Nat → State → State
  | 0, s => s
  | n + 1, s =>
    match s.orders.queue.find? (eligible s) with
    | none => s
    | some o => sendLoop n (sendOne o s)

/-- R62: a send test. -/
def sendTest (s : State) : State := sendLoop s.orders.queue.length s

/-! ## Submission (R57, R58) -/

/-- R57, R58: an order matching another by class, target and kind. -/
def Order.sameSlot (a b : Order) : Bool := a.cls = b.cls && a.target = b.target && a.kind = b.kind

/-- One accepted order is counted. -/
def countAccepted (s : State) : State :=
  s.modOrders fun u => { u with counters := { u.counters with accepted := u.counters.accepted + 1 } }

/-- The first order of the queue that passes a test is replaced in place. -/
def replaceFirst (p : Order → Bool) (new : Order) : List Order → List Order
  | [] => []
  | o :: rest => if p o then new :: rest else o :: replaceFirst p new rest

/-- R57: a ROUTINE order is submitted. It takes the target's device station ID at acceptance (R55), and a merged order
keeps the one it was accepted with. -/
def submitRoutine (o : Order) (s : State) : State × SubmitAnswer :=
  let new := { o with cls := .routine, device := s.targetDevice o.target }
  match s.orders.queue.find? new.sameSlot with
  | some q =>
    if q.cause = o.cause then
      let merged := { q with value := o.value, deadBusOk := o.deadBusOk, profile := o.profile, step := o.step }
      (sendTest (s.modOrders fun u => { u with queue := replaceFirst new.sameSlot merged u.queue }), .merged)
    else
      let replaced := s.modOrders fun u => { u with queue := replaceFirst new.sameSlot new u.queue }
      (sendTest (countAccepted (endQueued q .cancelled false replaced)), .taken)
  | none =>
    if s.orders.queue.length < Config.queueSize then
      (sendTest (countAccepted (setQueue (s.orders.queue ++ [new]) s)), .taken)
    else (s, .full)

/-- R59: every queued order that passes a test is cancelled, oldest place first. -/
def cancelWhere (p : Order → Bool) (own : Bool) (s : State) : State :=
  (s.orders.queue.filter p).foldl (fun t o => endQueued o .cancelled own (setQueue (t.orders.queue.erase o) t)) s

/-- R58, step 3: a full queue drops the ROUTINE order that stands last in queue order. -/
def dropLast (s : State) : State :=
  if s.orders.queue.length < Config.queueSize then s else
    match s.orders.queue.reverse.find? fun o => o.cls = .routine with
    | none => s
    | some o => endQueued o .dropped false (setQueue (s.orders.queue.reverse.erase o).reverse s)

/-- R58: a PROTECTIVE order is submitted. It is always accepted or merged. -/
def submitProtective (o : Order) (s : State) : State :=
  let new := { o with cls := .protective, device := s.targetDevice o.target }
  match s.orders.queue.find? new.sameSlot with
  | some q =>
    let merged := { q with cause := o.cause }
    sendTest (s.modOrders fun u => { u with queue := replaceFirst new.sameSlot merged u.queue })
  | none =>
    let room := dropLast (cancelWhere (fun q => q.cls = .routine && q.target = o.target) false s)
    let queue := room.orders.queue
    let ahead := queue.filter fun q => q.cls = .protective
    let behind := queue.filter fun q => q.cls = .routine
    sendTest (countAccepted (setQueue (ahead ++ [new] ++ behind) room))

/-- R59: an owner withdraws its queued orders of one of these causes for a target and, optionally, of one kind. -/
def withdraw (causes : List OrderCause) (t : Target) (kind : Option OrderKind) (s : State) : State :=
  cancelWhere (fun o => o.cause ∈ causes && o.target = t && (kind = none || kind = some o.kind)) true s

/-- R64, R65: the two timers of a rewritten target record become idle. -/
def idleTarget (t : Target) (s : State) : State := (s.setCycle t none).setHoldOff t none

/-- R59, fourth cause: every queued order for a rewritten target record is cancelled. -/
def cancelTarget (t : Target) (s : State) : State := cancelWhere (fun o => o.target = t) false s

/-- R59, R64, R65: what a rewritten target record is to the Order Unit. -/
def releaseTarget (t : Target) (s : State) : State := cancelTarget t (idleTarget t s)

/-! ## Reports (R68 to R73) -/

/-- R55: the device state of the target shows the order's expected report, ACCEPTED being read from the report. -/
def expectedShown (s : State) (o : Order) (accepted : Bool) : Bool :=
  match o.kind, o.target with
  | .trip, .feeder f => s.feeders[f].breaker = .opened
  | .close, .feeder f => s.feeders[f].breaker = .closed
  | .close, .unit u => s.units[u].breaker = .closed
  | .opn, .unit u => s.units[u].breaker = .opened
  | .crank, .unit u => s.units[u].engine = .firing
  | .unload, .unit u => s.units[u].unloaded
  | .load, .unit u => !s.units[u].unloaded
  | .stop, .unit u => s.units[u].engine = .stopped
  | .limit, _ => accepted
  | _, _ => false

/-- R68, R69, R71, R73: a tagged report is matched against the tracker. -/
def matchReport (t : Target) (tag : Octet) (refused accepted : Bool) (s : State) : State :=
  match s.orders.tracker.find? fun x => x.tag = tag && x.order.target = t with
  | none => s.log .lateReport (targetSubject t) tag.toNat detailNone
  | some x =>
    if refused then endSlot x .refused s
    else if !expectedShown s x.order accepted then s
    else if (s.profileOf x.order).waitMode.confirmsAtOnce then endSlot x .confirmed s
    else s.modOrders fun u =>
      { u with tracker := u.tracker.map fun y => if y.tag = x.tag then { y with seen := true } else y }

/-- R70: the frozen time of a freeze that ends is added to the frozen time used, and the deadline runs on; one that was frozen with
0 ms left is then due and expires by an expiry command, not within this change (log 61). -/
def thaw (limit : Nat) (x : Slot) : Slot :=
  match x.inhibit with
  | none => x
  | some left => { x with inhibit := none, frozenUsed := limit - left }

/-- R70: a change of a device's INHIBIT flag, as the record now holds it. A deadline with 0 ms left whose expiry is not yet taken
freezes like any other (log 61). -/
def inhibitChange (t : Target) (s : State) : State :=
  match s.slotOf t with
  | none => s
  | some x =>
    let p := s.profileOf x.order
    if !p.waitMode.freezes then s
    else if s.targetInhibit t then
      if x.inhibit.isSome then s else freeze x s
    else s.modOrders fun u =>
      { u with tracker := u.tracker.map fun y => if y.tag = x.tag then thaw (timeMs p.inhibitLimit) y else y }

/-! ## The Order Unit's own timers -/

/-- R69: the deadline of the slot with this tag expires, if it is due and not frozen. One that a freeze found with 0 ms left expires
here after INHIBIT has cleared, by a command that still waits or by that of the next millisecond (log 61). -/
def deadlineExpires (tag : Octet) (s : State) : State :=
  match s.orders.tracker.find? fun x => x.tag = tag with
  | none => s
  | some x =>
    if x.deadline ≠ 0 || x.inhibit.isSome then s
    else if !(s.profileOf x.order).waitMode.confirmsAtOnce && x.seen then endSlot x .confirmed s
    else endSlot x .timedOut s

/-- R70: the inhibit timer of the slot with this tag expires, if it is due. -/
def inhibitExpires (tag : Octet) (s : State) : State :=
  match s.orders.tracker.find? fun x => x.tag = tag with
  | none => s
  | some x => if x.inhibit = some 0 then endSlot x .inhibited s else s

/-- R64: a cycle timer expires, if it is due, and a send test is taken. -/
def cycleExpires (t : Target) (s : State) : State :=
  if s.cycleOf t = some 0 then sendTest (s.setCycle t none) else s

/-- R65: a hold-off timer expires, if it is due: a send test is taken and, for a feeder, Shedding is told, which takes a
restore test when the feeder is the top of the Shed Stack (R140). -/
def holdOffExpires (t : Target) (s : State) : State :=
  if s.holdOffOf t = some 0 then
    let tested := sendTest (s.setHoldOff t none)
    match t with
    | .unit _ => tested
    | .feeder f => if s.shed.stack.getLast?.any fun e => e.feeder = f then tested.post [.restoreTest] else tested
  else s

end Sys2Proof.Machine
end

