-- ==== Sys2Proof/Machine/Curtailment.lean ====
section
/-!
DEFINITION. Solar Curtailment (R107 to R120): the evaluation, LIMIT orders and their outcomes, and the gateway mirror.
-/

namespace Sys2Proof.Machine

/-- The curtail interval of the active bank, a count of 0 taken as 1 s (R108). -/
def curtailInterval (s : State) : Nat := timeOrSecond s.bank.curtailInterval

/-- R107: a LIMIT order of Curtailment. -/
def limitOrder (s : State) (u : Fin 16) (value : Int) : Order :=
  { target := .unit u, device := 0, kind := .limit, cls := .routine, value := value, cause := .curtail,
    profile := s.units[u].limitProfile }

/-- R119: the bound of a plant's limits. -/
def UnitRec.limitBound (r : UnitRec) : Int :=
  if r.pv.mirrorValid then min (r.rated : Int) r.pv.mirror else r.rated

/-- R112: a LIMIT is submitted; a FULL leaves no trace. -/
def submitLimit (u : Fin 16) (value : Int) (s : State) : State := (submitRoutine (limitOrder s u value) s).1

/-- R110: the send test of a plant's limit. -/
def passesSendTest (bank : Bank) (pv : PvControl) (limit : Int) : Bool :=
  match pv.lastSent with
  | none => true
  | some last => pv.outOfStep || limit < (last : Int) || ((last : Int) < limit && (bank.deadband : Int) ≤ limit - last)

/-- R109 to R111: a Curtailment evaluation. -/
def curtailEval (s : State) : State :=
  let bank := s.bank
  let sent := (pvLimits s bank).filter fun x => passesSendTest bank s.units[x.1].pv x.2
  if s.orders.queueHigh then s else sent.foldl (fun t x => submitLimit x.1 x.2 t) s

/-- R108: the curtail timer expires, if it is due: it starts again and an evaluation is taken. -/
def curtailTimerExpires (s : State) : State :=
  if s.curtailTimer = 0 then curtailEval { s with curtailTimer := curtailInterval s } else s

/-- R113: a CURTAIL LIMIT has ended. -/
def limitOrderEnd (u : Fin 16) (value : Int) (e : OrderEnd) (s : State) : State :=
  if s.units[u].participating && e = .confirmed then
    s.modPv u fun p => { p with lastSent := some value.toNat, outOfStep := false }
  else s

/-- R119: every LIMIT queued for the plant above its bound is lowered in place to the bound. -/
def lowerQueued (u : Fin 16) (s : State) : State :=
  let bound := s.units[u].limitBound
  s.modOrders fun x => { x with queue := x.queue.map fun o =>
    if o.kind = .limit && o.target = .unit u && bound < o.value then { o with value := bound } else o }

/-- R115: the mirror expiry of a copy taken now. -/
def mirrorExpiryFrom (s : State) : Option PartTime :=
  let ms := timeMs s.bank.mirrorLife
  if ms = 0 then none else some (s.partTime + BitVec.ofNat 32 ms)

/-- R115: a copy sets or releases the plant's mirror. -/
def setMirror (u : Fin 16) (value : Int) (s : State) : State :=
  if value = Config.noLimit then
    (s.modPv u fun p => { p with mirrorValid := false, mirrorExpiry := none }).log .mirrorSet (unitSubject u) 0
      detailReleased
  else
    let clamped := clamp 0 s.units[u].rated value
    (s.modPv u fun p => { p with mirror := clamped.toNat, mirrorValid := true, mirrorExpiry := mirrorExpiryFrom s }).log
      .mirrorSet (unitSubject u) clamped (if clamped = value then detailSet else detailClamped)

/-- R117: out-of-step is set, last-sent is submitted again and REASSERT is logged. No limit above the plant's bound is
ever sent (R119), so a last-sent above a rating lowered since its order was sent is submitted at the bound (log 33). -/
def reassert (u : Fin 16) (last : Nat) (s : State) : State :=
  let value := min (last : Int) s.units[u].limitBound
  (submitLimit u value (s.modPv u fun p => { p with outOfStep := true })).log .reassert (unitSubject u) last detailNone

/-- R116, R117: how the copy acts on a participating plant's last-sent and out-of-step. -/
def followCopy (u : Fin 16) (released : Bool) (s : State) : State :=
  let pv := s.units[u].pv
  match pv.lastSent with
  | none => if released then s else s.modPv u fun p => { p with lastSent := some p.mirror }
  | some last =>
    if released || last < pv.mirror then reassert u last s else s.modPv u fun p => { p with lastSent := some p.mirror }

/-- R115: the used PV record whose device has this station ID. -/
def plantOf (s : State) (dest : StationId) : Option (Fin 16) :=
  if dest = 0 || dest = 0xFFFF then none else findIndex s.units fun r => r.kind = .pv && r.device = dest

/-- R115 to R117, R119: a copy of a gateway's Setpoint Order is taken. -/
def setpointCopy (dest : StationId) (value : Int) (s : State) : State :=
  match plantOf s dest with
  | none => s
  | some u =>
    let released := value = Config.noLimit
    let held := setMirror u value s
    let followed := if s.units[u].participating then followCopy u released held else held
    if released then followed else lowerQueued u followed

/-- R118: part time has reached the mirror's expiry, the difference taken modulo 2^32 (log 20). -/
def mirrorDue (s : State) (pv : PvControl) : Bool :=
  pv.mirrorValid && pv.mirrorExpiry.any fun e => (s.partTime - e).toNat < 2 ^ 31

/-- R118: the mirror expires, if it is due. -/
def mirrorExpires (u : Fin 16) (s : State) : State :=
  if s.units[u].kind = .pv && mirrorDue s s.units[u].pv then
    s.modPv u fun p => { p with mirrorValid := false, mirrorExpiry := none }
  else s

/-- R120: where the plant no longer participates, its queued CURTAIL LIMITs are withdrawn. -/
def withdrawLimits (u : Fin 16) (s : State) : State :=
  if s.units[u].participating then s else withdraw [.curtail] (.unit u) none s

/-- R120: the plant's mode has become the one its record now has. -/
def pvMode (u : Fin 16) (s : State) : State :=
  let r := s.units[u]
  if r.mode = .manual then withdrawLimits u (s.modPv u fun p => { p with lastSent := none, outOfStep := false })
  else if r.device ≠ 0 then s.modPv u fun p => { p with lastSent := none }
  else s

end Sys2Proof.Machine
end

