-- ==== Sys2Proof/Machine/Arbiter.lean ====
section
/-!
DEFINITION. The Crank Arbiter (R100 to R104): requests, grants in batches, releases, withdrawals and the air hold-off.
-/

namespace Sys2Proof.Machine

def State.modArbiter (s : State) (f : Arbiter → Arbiter) : State := { s with arbiter := f s.arbiter }

/-- R103, R104: a grant moves the arbiter to GRANTED, is logged, and is handed to the one who has the crank submitted. -/
def grantTo (r : CrankRequest) (s : State) : State :=
  let held := s.modArbiter fun a => { a with state := .granted, grant := some r, holdOff := none }
  let value : Nat := if r.cls = .operator then 0 else (s.genset r.unit).attempts + 1
  (held.log .crankGrant (unitSubject r.unit) value r.cls.code).post
    [if r.cls = .operator then .operatorGrant r else .grant r.unit]

/-- R103: the order in which a Waiting Set becomes a batch: cause class, start rank, unit index. -/
def servedBefore (s : State) (a b : CrankRequest) : Bool :=
  let ra := s.units[a.unit].startRank
  let rb := s.units[b.unit].startRank
  a.cls.code < b.cls.code ||
    (a.cls.code = b.cls.code && (ra < rb || (ra = rb && a.unit.val < b.unit.val)))

/-- A value put into a list before the first one it is to precede. -/
def insertBy {α : Type} (before : α → α → Bool) (x : α) : List α → List α
  | [] => [x]
  | y :: rest => if before x y then x :: y :: rest else y :: insertBy before x rest

/-- A list in the order a comparison gives. -/
def sortBy {α : Type} (before : α → α → Bool) : List α → List α
  | [] => []
  | x :: rest => insertBy before x (sortBy before rest)

/-- R103: the hold-off has ended, and the next crank is granted or the arbiter goes to FREE. -/
def nextCrank (s : State) : State :=
  match s.arbiter.batch with
  | r :: rest => grantTo r (s.modArbiter fun a => { a with batch := rest })
  | [] =>
    match sortBy (servedBefore s) s.arbiter.waiting with
    | r :: rest => grantTo r (s.modArbiter fun a => { a with batch := rest, waiting := [] })
    | [] => s.modArbiter fun a => { a with state := .free, grant := none, holdOff := none }

/-- R102: the grant is released and the hold-off of a profile begins; a count of 0 ends it at once. -/
def releaseGrant (profile : Fin 16) (s : State) : State :=
  let ms := timeMs s.profiles[profile].holdOff
  let out := s.modArbiter fun a => { a with state := .holdoff, grant := none, holdOff := startTimer ms }
  if ms = 0 then nextCrank out else out

/-- The genset holds the grant. -/
def Arbiter.holds (a : Arbiter) (u : Fin 16) : Bool := a.grant.any fun r => r.unit = u

/-- The genset stands in the Current Batch or the Waiting Set. -/
def Arbiter.waits (a : Arbiter) (u : Fin 16) : Bool :=
  (a.batch.any fun r => r.unit = u) || (a.waiting.any fun r => r.unit = u)

/-- R104: the genset is present in the arbiter. -/
def Arbiter.present (a : Arbiter) (u : Fin 16) : Bool := a.holds u || a.waits u

/-- R101: a request is granted at once or joins the Waiting Set. One for the grant holder releases that grant first, and since
no outcome names a profile then, the hold-off is that of the genset's start profile as it stands (log 39); one for a genset
that already waits adds no second entry (R100). -/
def requestCrank (r : CrankRequest) (s : State) : State :=
  let free := if s.arbiter.holds r.unit then releaseGrant s.units[r.unit].startProfile s else s
  if free.arbiter.present r.unit then free
  else if free.arbiter.state = .free then grantTo r free
  else free.modArbiter fun a => { a with waiting := a.waiting ++ [r] }

/-- R102: the outcome of a CRANK reaches the arbiter. It releases the grant of the genset it went to, when the grant is
the one that CRANK was submitted under (log 10). -/
def crankOutcome (u : Fin 16) (profile : Fin 16) (operator : Bool) (s : State) : State :=
  match s.arbiter.grant with
  | some r => if r.unit = u ∧ decide (r.cls = .operator) = operator then releaseGrant profile s else s
  | none => s

/-- R102: a CRANK of the genset is in the Order Tracker: the operator's, or one of Dispatch. It is the one a grant of the
same class was given for, and its outcome is the one that releases that grant (log 10). -/
def State.crankInTracker (s : State) (u : Fin 16) (operator : Bool) : Bool :=
  s.orders.tracker.any fun x =>
    x.order.kind = .crank && x.order.target = .unit u && decide (x.order.cause = .operator) = operator

/-- R102: withdrawal of a genset whose entry is of a class that passes the test. A grant holder with its CRANK in the
tracker keeps the grant; any other's is released, with the hold-off of the start profile that the record names now (log 38). -/
def withdrawCrank (classes : CauseClass → Bool) (u : Fin 16) (s : State) : State :=
  let matching := fun (r : CrankRequest) => r.unit = u && classes r.cls
  if s.arbiter.grant.any matching then
    if s.crankInTracker u (s.arbiter.grant.any fun r => r.cls = .operator) then s
    else releaseGrant s.units[u].startProfile s
  else s.modArbiter fun a =>
    { a with batch := a.batch.filter fun r => !matching r, waiting := a.waiting.filter fun r => !matching r }

/-- R104: the Management Agent withdraws the genset's OPERATOR entry. -/
def operatorWithdraw (u : Fin 16) (s : State) : State := withdrawCrank (fun c => c = .operator) u s

/-- R104: at an OPERATOR grant the arbiter submits the operator's CRANK; FULL withdraws the genset at once. -/
def operatorGrant (r : CrankRequest) (s : State) : State :=
  if s.arbiter.grant ≠ some r then s else
    let profile := s.units[r.unit].startProfile
    let o : Order := { target := .unit r.unit, device := 0, kind := .crank, cls := .routine, value := r.value,
                       cause := .operator, profile := profile }
    match submitRoutine o s with
    | (out, .full) => (releaseGrant profile out).log .startFail (unitSubject r.unit) 0 detailFull
    | (out, _) => out

/-- R102: a PRESS from an AIR entry ends the hold-off early at or above the air ready pressure, unless that is 0. -/
def pressureReady (kPa : Nat) (s : State) : State :=
  if s.arbiter.state = .holdoff && s.settings.airReady ≠ 0 && s.settings.airReady ≤ kPa then nextCrank s else s

/-- R103: the air hold-off timer expires, if it is due. -/
def airHoldOffExpires (s : State) : State := if s.arbiter.holdOff = some 0 then nextCrank s else s

end Sys2Proof.Machine
end

