-- ==== Sys2Proof/Machine/Diesel.lean ====
section
/-!
DEFINITION. Diesel Dispatch (R77 to R99, and R102's side of a withdrawn start): the genset state machine, the evaluation,
the start sequence and the stop sequence.
-/

namespace Sys2Proof.Machine

/-- An action on each unit in index order. -/
def forUnits (f : Fin 16 → State → State) (s : State) : State := (List.finRange 16).foldl (fun t u => f u t) s

def State.isGenset (s : State) (u : Fin 16) : Bool := s.units[u].kind = .genset

/-- The unit is a genset in this Dispatch state. -/
def State.inState (s : State) (u : Fin 16) (g : GensetState) : Bool := s.isGenset u && (s.genset u).state = g

/-! ## A change of state (R85) -/

/-- R85: what a change of a genset's state hands on, after the sheet and the frequency source. At a wanted genset's entry to ONLINE
the answer to the Sequencer is taken before the dead-bus test (log 57). -/
def stateHandovers (u : Fin 16) (old new : GensetState) (want : Bool) : List Handover :=
  (if old = .online && new ≠ .unloading then [.dispatchEval, .curtailEval] else []) ++
  (if new = .online then (if want then [.startAnswer u true] else []) ++ [.deadBusTest false] else []) ++
  (if new = .lockedOut && want then [.startAnswer u false] else []) ++
  (if (new = .stopped || new = .cooldown) && want then [.wantTest u] else []) ++
  [.stopTest]

/-- R85: a genset changes its state. Its state timer stops, an entry to ONLINE or LOCKED_OUT clears the blackstart want
(R95), and the change is handed on. -/
def changeState (u : Fin 16) (new : GensetState) (s : State) : State :=
  let g := s.genset u
  let answers := new = .online || new = .lockedOut
  let summed := recompute (s.modGenset u fun g => { g with state := new, timer := none, want := g.want && !answers })
  let chosen := if g.state = .online || new = .online then chooseSource summed else summed
  chosen.post (stateHandovers u g.state new g.want)

/-- A state timer starts; one of no duration ends at once. -/
def startStateTimer (u : Fin 16) (ms : Nat) (s : State) : State :=
  let out := s.modGenset u fun g => { g with timer := some ms }
  if ms = 0 then out.post [.stateTimerEnd u] else out

/-! ## Orders of Dispatch (R77, R91) -/

/-- R84: the state that submits a kind of Dispatch order, and takes its outcome. -/
def stateFor : OrderKind → Option GensetState
  | .crank => some .cranking
  | .close => some .closing
  | .unload => some .unloading
  | .load => some .online
  | .opn => some .opening
  | .stop => some .stopping
  | .trip | .limit => none

/-- R77: the profile of a Dispatch order by its kind. -/
def UnitRec.profileFor (r : UnitRec) : OrderKind → Fin 16
  | .crank => r.startProfile
  | .close | .opn => r.breakerProfile
  | _ => r.stopProfile

/-- R91: DEAD_BUS_OK of a Dispatch CLOSE, as it is submitted. -/
def deadBusOk (s : State) (u : Fin 16) : Bool :=
  s.sheet.freq.isNone && !((List.finRange 16).any fun v => v ≠ u && s.inState v .online)

/-- The Dispatch order of a kind for a genset, as it is submitted now (R77, R91). -/
def dispatchOrder (s : State) (u : Fin 16) (kind : OrderKind) : Order :=
  let profile := s.units[u].profileFor kind
  { target := .unit u, device := 0, kind := kind, cls := .routine,
    value := if kind = .crank then (s.profiles[profile].pulse.toNat : Int) else 0,
    deadBusOk := kind = .close && deadBusOk s u, cause := .dispatch, profile := profile }

/-- R91: a Dispatch order is submitted; it becomes the outstanding order, or is owed when the queue is full. -/
def submitDispatch (kind : OrderKind) (u : Fin 16) (s : State) : State :=
  match submitRoutine (dispatchOrder s u kind) s with
  | (out, .full) => out.modGenset u fun g => { g with owed := some kind }
  | (out, _) => out.modGenset u fun g => { g with outstanding := some kind, owed := none }

/-- R77: the kind of the Dispatch order that is out in the tracker for a genset. -/
def State.dispatchSent (s : State) (u : Fin 16) : Option OrderKind :=
  (s.slotOf (.unit u)).bind fun x => if x.order.cause = .dispatch then some x.order.kind else none

/-- R59: Dispatch withdraws its queued orders for a genset, all of them or those of one kind. What is outstanding then
is what the tracker still holds. -/
def dispatchWithdraw (kind : Option OrderKind) (u : Fin 16) (s : State) : State :=
  let out := withdraw [.dispatch] (.unit u) kind s
  if s.orders.queue.any fun o => o.cause = .dispatch && o.target = .unit u && (kind = none || kind = some o.kind) then
    out.modGenset u fun g => { g with outstanding := out.dispatchSent u }
  else out

/-! ## Moves of the state machine -/

/-- R94: the genset goes to CLOSING and a CLOSE to its breaker is submitted. -/
def toClosing (u : Fin 16) (s : State) : State := submitDispatch .close u (changeState u .closing s)

/-- The genset goes to COOLDOWN with its full cooldown time (R79, R92, R99). -/
def toCooldown (u : Fin 16) (s : State) : State :=
  startStateTimer u (timeMs s.units[u].cooldown) (changeState u .cooldown s)

/-- R79: the derived state of a genset. -/
def derivedState (r : UnitRec) : GensetState :=
  if r.lastPos.isNone then .unknown
  else if r.engine = .firing then (if r.breaker = .closed then .online else .cooldown)
  else .stopped

/-- The genset goes to its derived state; ONLINE is logged where the rule that moves it says so (log 18). -/
def toDerived (logOnline : Bool) (u : Fin 16) (s : State) : State :=
  match derivedState s.units[u] with
  | .cooldown => toCooldown u s
  | .online =>
    let out := changeState u .online s
    if logOnline then out.log .gensetOnline (unitSubject u) s.units[u].rated detailNone else out
  | other => changeState u other s

/-- R81: entry to UNAVAILABLE. -/
def toUnavailable (u : Fin 16) (s : State) : State :=
  let withdrawn := withdrawCrank (fun c => c ≠ .operator) u (dispatchWithdraw none u s)
  changeState u .unavailable (withdrawn.modGenset u fun g => { g with owed := none, startCause := .absent })

/-- R172: the crank attempts made in a genset's last start. One taken from COOLDOWN makes none (R90), while the attempt count may
still show those of an earlier start (log 46). -/
def GensetControl.crankAttempts (g : GensetControl) : Nat := if g.fromCooldown then 0 else g.attempts

/-- R84, step 5: the lockout is logged, START_FAIL with the crank attempts made in the failed start (R172). -/
def logLockout (u : Fin 16) (cause : LockoutCause) (s : State) : State :=
  match cause with
  | .startFail | .closeFail => s.log .startFail (unitSubject u) (s.genset u).crankAttempts cause.detail
  | _ => s.log .gensetTrip (unitSubject u) (s.units[u].p.getD 0) cause.detail

/-- R84: entry to LOCKED_OUT. The value of START_FAIL is taken before the attempt count becomes 0 (R172). The lockout is logged before
a FREQ_SOURCE of the same change of state (log 59). -/
def lockOut (cause : LockoutCause) (u : Fin 16) (s : State) : State :=
  let own := withdrawCrank (fun _ => true) u (dispatchWithdraw none u s)
  let agent := withdraw [.operator] (.unit u) (some .close) (withdraw [.operator] (.unit u) (some .crank) own)
  let cleared := (logLockout u cause agent).modGenset u fun g =>
    { g with owed := none, attempts := 0, startCause := .absent, lockout := cause }
  changeState u .lockedOut cleared

/-- The class of the crank request that a start cause posts (R90, R93, R95). -/
def StartCause.cls : StartCause → Option CauseClass
  | .absent => none
  | .blackstart => some .blackstart
  | .deficit => some .deficit
  | .restore => some .restore

/-- The genset goes to START_QUEUED, START_REQUEST is logged and a request posted (R90, R93, R95). -/
def toStartQueued (u : Fin 16) (s : State) : State :=
  let g := s.genset u
  let out := (changeState u .startQueued s).log .startRequest (unitSubject u) g.attempts g.startCause.code
  match g.startCause.cls with
  | some c => out.post [.crankRequest { unit := u, cls := c }]
  | none => out

/-- R90 step 3, R95: a genset in COOLDOWN or STOPPED is started for a cause. R90 gives the attempt count a value for a start from
STOPPED alone; for R172 the start notes where it was taken from (log 46). -/
def startFrom (cause : StartCause) (u : Fin 16) (s : State) : State :=
  match (s.genset u).state with
  | .cooldown => toClosing u (s.modGenset u fun g => { g with startCause := cause, fromCooldown := true })
  | .stopped =>
    toStartQueued u (s.modGenset u fun g => { g with startCause := cause, attempts := 0, fromCooldown := false })
  | _ => s

/-! ## Reports and modes (R80 to R83, R104) -/

/-- R80, R81: MANUAL or LOCAL keeps the genset from automatic control. -/
def UnitRec.kept (r : UnitRec) : Bool := r.mode = .manual || r.isLocal

/-- R82: a trip counts as leaving ONLINE, from UNLOADING too, so that R85 hands on the evaluations. -/
def tripUnit (u : Fin 16) (s : State) : State :=
  lockOut .breakerTrip u (s.modGenset u fun g => { g with state := .online })

/-- R82, R83: a report acts on a genset that Dispatch drives. In ONLINE and UNLOADING a report that shows breaker OPEN and engine
FAULT matches both rules, and the model takes R82's BREAKER_TRIP alone (log 63). -/
def reportInState (u : Fin 16) (s : State) : State :=
  let r := s.units[u]
  let state := r.genset.state
  if r.breaker = .opened && (state = .online || state = .unloading) then tripUnit u s
  else match r.engine, state with
    | .faulted, _ => lockOut .engineFault u s
    | .stopped, .warming | .absent, .warming | .stopped, .closing | .absent, .closing => lockOut .startFail u s
    | .stopped, .cooldown => (changeState u .stopped s).log .gensetStopped (unitSubject u) 0 detailNone
    | .firing, .stopped => toDerived true u s
    | _, _ => s

/-- R80 to R83: an admitted Position Report from a genset, as its record now holds it. The state it finds decides which rule takes
it: a report that takes a genset out of UNKNOWN or UNAVAILABLE is not then taken by R83 too (log 49). -/
def gensetReport (u : Fin 16) (s : State) : State :=
  if !s.isGenset u then s else
    let r := s.units[u]
    let free := if r.isLocal then operatorWithdraw u s else s
    match r.genset.state with
    | .unknown => if r.kept then toUnavailable u free else toDerived false u free
    | .unavailable => if r.kept then free else toDerived true u free
    | .lockedOut => free
    | _ => if r.kept then toUnavailable u free else reportInState u free

/-- R80, R81: the genset's mode has changed, or a mode it has was set again. -/
def gensetMode (u : Fin 16) (s : State) : State :=
  let r := s.units[u]
  match r.genset.state with
  | .lockedOut => s
  | .unavailable => if r.kept then s else toDerived true u s
  | _ => if r.mode = .manual then toUnavailable u s else s

/-- R84: a CLEAR_LOCKOUT that is taken. -/
def clearLockout (u : Fin 16) (s : State) : State :=
  let old := (s.genset u).lockout
  let cleared := (s.modGenset u fun g => { g with lockout := .absent }).log .lockoutCleared (unitSubject u) 0 old.code
  if s.units[u].kept then toUnavailable u cleared else toDerived false u cleared

/-! ## The start sequence (R92 to R95) -/

/-- R92: a grant to a genset in START_QUEUED. -/
def takeGrant (u : Fin 16) (s : State) : State :=
  if s.inState u .startQueued then
    submitDispatch .crank u (changeState u .cranking (s.modGenset u fun g => { g with attempts := g.attempts + 1 }))
  else s

/-- R93: the rest after a failed crank. -/
def restMs (p : Profile) : Nat := p.effectiveCycle - p.deadline

/-- R92: the outcome of a CRANK in CRANKING. -/
def crankEnds (u : Fin 16) (e : OrderEnd) (s : State) : State :=
  let g := s.genset u
  let p := s.profiles[s.units[u].startProfile]
  if g.startCause = .absent then
    if e = .confirmed then toCooldown u s else changeState u .stopped s
  else if e = .confirmed then startStateTimer u (timeMs s.units[u].warmUp) (changeState u .warming s)
  else if g.attempts < p.attempts then startStateTimer u (restMs p) (changeState u .crankRest s)
  else lockOut .startFail u s

/-- R94: the outcome of a CLOSE in CLOSING. -/
def closeEnds (u : Fin 16) (e : OrderEnd) (s : State) : State :=
  if e = .confirmed then
    let out := changeState u .online (s.modGenset u fun g => { g with startCause := .absent, attempts := 0 })
    out.log .gensetOnline (unitSubject u) s.units[u].rated detailNone
  else lockOut .closeFail u s

/-! ## The stop sequence (R96 to R99) -/

/-- The gensets in state ONLINE. -/
def State.onlineUnits (s : State) : List (Fin 16) := (List.finRange 16).filter fun u => s.inState u .online

/-- R96: the stop candidate, the highest start rank and then the highest index among at least two. -/
def stopCandidate (s : State) : Option (Fin 16) :=
  let online := s.onlineUnits
  if online.length < 2 then none
  else online.foldl (fun best u =>
    match best with
    | none => some u
    | some b => if s.units[b].startRank ≤ s.units[u].startRank then some u else some b) none

/-- R97: the candidate for which the five conditions hold. -/
def stopWanted (s : State) : Option (Fin 16) :=
  let units := s.units.toList
  let busy := units.any fun r =>
    r.inStartingSet || (r.kind = .genset && (r.genset.state = .unloading || r.genset.state = .opening))
  match stopCandidate s with
  | none => none
  | some c =>
    if busy || !s.shed.stack.isEmpty then none
    else if (s.bank.stopMargin : Int) ≤ s.sheet.margin - s.units[c].rated then some c else none

def State.setStopTimer (s : State) (t : Option StopTimer) : State :=
  { s with dispatch := { s.dispatch with stopTimer := t } }

/-- R97: the stop timer starts with the full stop delay; a count of 0 expires at once. -/
def startStopTimer (c : Fin 16) (s : State) : State :=
  let ms := timeMs s.bank.stopDelay
  let out := s.setStopTimer (some { unit := c, left := ms })
  if ms = 0 then out.post [.stopTimerEnd] else out

/-- R97: a test of the stop conditions. -/
def stopTest (s : State) : State :=
  match stopWanted s, s.dispatch.stopTimer with
  | none, _ => s.setStopTimer none
  | some c, none => startStopTimer c s
  | some c, some t => if t.unit = c then s else startStopTimer c s

/-- R97: the stop timer expires, if it is due: the candidate goes to UNLOADING. A LOAD still outstanding or owed then gives way to the
UNLOAD in the field, and one that waits or is out stays where it is (log 56). -/
def stopTimerExpires (s : State) : State :=
  match s.dispatch.stopTimer with
  | some t =>
    if t.left = 0 then
      let idle := s.setStopTimer none
      if s.inState t.unit .online then submitDispatch .unload t.unit (changeState t.unit .unloading idle) else idle
    else s
  | none => s

/-- R98: the outcome of an UNLOAD in UNLOADING. -/
def unloadEnds (u : Fin 16) (e : OrderEnd) (s : State) : State :=
  if e = .confirmed then submitDispatch .opn u (changeState u .opening s)
  else (changeState u .online s).log .stopAbandoned (unitSubject u) 0 e.detail

/-- R99: the outcome of an OPEN in OPENING. -/
def openEnds (u : Fin 16) (e : OrderEnd) (s : State) : State :=
  if e = .confirmed then toCooldown u s else lockOut .openFail u s

/-- R99: the outcome of a STOP in STOPPING. -/
def stopEnds (u : Fin 16) (e : OrderEnd) (s : State) : State :=
  if e = .confirmed then (changeState u .stopped s).log .gensetStopped (unitSubject u) 0 detailNone
  else lockOut .stopFail u s

/-- The end of a state timer, if it is due: warm-up (R94), rest (R93), cooldown (R99). -/
def stateTimerExpires (state : GensetState) (u : Fin 16) (s : State) : State :=
  if s.inState u state && (s.genset u).timer = some 0 then
    match state with
    | .warming => toClosing u s
    | .crankRest => toStartQueued u s
    | .cooldown => submitDispatch .stop u (changeState u .stopping s)
    | _ => s
  else s

/-! ## How Dispatch takes the end of an order (R84, R91) -/

/-- R84: the outstanding order is cleared when it shows this kind. -/
def clearOutstanding (kind : OrderKind) (u : Fin 16) (s : State) : State :=
  s.modGenset u fun g => if g.outstanding = some kind then { g with outstanding := none } else g

/-- R84, R91, R92, R94, R98, R99: a Dispatch order has ended. One that Dispatch withdrew itself has no further effect;
one removed otherwise is owed again while the state calls for it. A LOAD owed again beside an UNLOAD that is still out leaves the
UNLOAD as the outstanding order (R77). -/
def dispatchOrderEnd (u : Fin 16) (kind : OrderKind) (e : OrderEnd) (own : Bool) (s : State) : State :=
  if own || !s.isGenset u then s else
    let out := clearOutstanding kind u s
    if stateFor kind ≠ some (s.genset u).state then out
    else match e, kind with
      | .cancelled, _ | .dropped, _ => out.modGenset u fun g => { g with outstanding := s.dispatchSent u, owed := some kind }
      | _, .crank => crankEnds u e out
      | _, .close => closeEnds u e out
      | _, .unload => unloadEnds u e out
      | _, .opn => openEnds u e out
      | _, .stop => stopEnds u e out
      | _, _ => out

/-! ## The evaluation (R86 to R90) -/

/-- R90, step 1: a genset in UNLOADING is recalled. -/
def recallUnit (u : Fin 16) (s : State) : State :=
  changeState u .online (submitDispatch .load u (dispatchWithdraw (some .unload) u s))

/-- R87: the restore demand under the bank an evaluation read. -/
def restoreDemand (s : State) (bank : Bank) : Int :=
  match s.dispatch.restoreWait with
  | none => 0
  | some load => satSum ((load : Int) + bank.restoreMargin)

/-- R88: Required. -/
def requiredReserve (s : State) (bank : Bank) : Int := satSum (s.sheet.req + bank.startMargin + restoreDemand s bank)

/-- R88: the need. -/
def need (s : State) (bank : Bank) : Int := max 0 (requiredReserve s bank - s.sheet.exp)

/-- R88: the start cause of an evaluation. -/
def evalCause (s : State) (bank : Bank) : StartCause :=
  if s.sheet.exp < s.sheet.req + bank.startMargin then .deficit else .restore

/-- R89, step 1: an owed order is submitted again. -/
def settleOwed (u : Fin 16) (s : State) : State :=
  match (s.genset u).owed with
  | some kind => if s.isGenset u && stateFor kind = some (s.genset u).state then submitDispatch kind u s else s
  | none => s

/-- R89, step 2: an ONLINE genset that reports UNLOADED, with no order, is given a LOAD. -/
def settleUnloaded (u : Fin 16) (s : State) : State :=
  let g := s.genset u
  if s.inState u .online && s.units[u].unloaded && g.outstanding.isNone && g.owed.isNone then submitDispatch .load u s
  else s

/-- R90, step 2: a start candidate. -/
def candidate (s : State) (u : Fin 16) : Bool :=
  (s.inState u .stopped || s.inState u .cooldown) && s.units[u].device ≠ 0

/-- R90, step 2: the candidates in the order in which they are taken. -/
def candidates (s : State) : List (Fin 16) :=
  sortBy (fun a b => s.units[a].startRank < s.units[b].startRank ||
    (s.units[a].startRank = s.units[b].startRank && a.val < b.val)) ((List.finRange 16).filter (candidate s))

/-- R90, step 2: candidates are chosen until their rated power reaches the need. -/
def choose (s : State) : Int → List (Fin 16) → List (Fin 16)
  | _, [] => []
  | left, u :: rest => if left ≤ 0 then [] else u :: choose s (left - s.units[u].rated) rest

/-- R88 to R90: a Dispatch evaluation. Owed orders, LOADs and recalls are taken in unit-index order (log 44). -/
def dispatchEval (s : State) : State :=
  let bank := s.bank
  let short := need s bank
  let cause := evalCause s bank
  let settled := forUnits settleUnloaded (forUnits settleOwed s)
  if short ≤ 0 then settled else
    let recalled := forUnits (fun u t => if t.inState u .unloading then recallUnit u t else t) settled
    (choose recalled short (candidates recalled)).foldl (fun t u => startFrom cause u t) recalled

/-- The dispatch interval of the active bank, a count of 0 taken as 1 s (R86). -/
def dispatchInterval (s : State) : Nat := timeOrSecond s.bank.dispatchInterval

/-- R86: the dispatch timer expires, if it is due: it starts again and an evaluation is taken. -/
def dispatchTimerExpires (s : State) : State :=
  if s.dispatch.timer = 0 then dispatchEval { s with dispatch := { s.dispatch with timer := dispatchInterval s } } else s

/-- R87: Shedding posts the restore wait load, or its absence. -/
def postRestoreWait (load : Option Nat) (s : State) : State := { s with dispatch := { s.dispatch with restoreWait := load } }

/-! ## Requests of the Sequencer (R95, R102) -/

/-- R95: the want is acted on when the genset has entered STOPPED or COOLDOWN. -/
def wantTest (u : Fin 16) (s : State) : State :=
  if (s.genset u).want && (s.inState u .cooldown || (s.inState u .stopped && s.units[u].device ≠ 0)) then
    startFrom .blackstart u s
  else s

/-- R95: the Sequencer asks for a genset. -/
def startAsk (u : Fin 16) (s : State) : State :=
  let wanted := s.modGenset u fun g => { g with want := true }
  match (s.genset u).state with
  | .online => s.post [.startAnswer u true]
  | .lockedOut => s.post [.startAnswer u false]
  | .unloading => (recallUnit u s).post [.startAnswer u true]
  | .stopped | .cooldown => startFrom .blackstart u wanted
  | _ => wanted

/-- R102: the Sequencer withdraws its want for one genset at the abort of a run. A genset that it moves to STOPPED has start cause
NONE and keeps its attempt count (log 50). -/
def withdrawWant (u : Fin 16) (s : State) : State :=
  if !(s.genset u).want then s else
    let g := s.genset u
    let clear := s.modGenset u fun g => { g with want := false }
    let out := withdrawCrank (fun c => c = .blackstart) u clear
    if g.startCause ≠ .blackstart then clear else
      match g.state with
      | .startQueued | .crankRest => changeState u .stopped (out.modGenset u fun g => { g with startCause := .absent })
      | .cranking =>
        if s.crankInTracker u false then clear.modGenset u fun g => { g with startCause := .absent }
        else
          let idle := withdrawCrank (fun c => c = .blackstart) u (dispatchWithdraw (some .crank) u clear)
          changeState u .stopped (idle.modGenset u fun g => { g with startCause := .absent, owed := none })
      | _ => clear

end Sys2Proof.Machine
end

