-- ==== Sys2Proof/Machine/Shed.lean ====
section
/-!
DEFINITION. Feeder Shedding and Restoration (R123 to R143): the Shed Stack, the walks, the stages, the deficit shed, the
restore test, and the freshness barrier.
-/

namespace Sys2Proof.Machine

def State.modShed (s : State) (f : Shedding → Shedding) : State := { s with shed := f s.shed }

/-! ## The Shed Stack (R127) -/

/-- The stack's top entry; the list runs from bottom to top. -/
def Shedding.top (x : Shedding) : Option StackEntry := x.stack.getLast?

/-- The stack entry of a feeder. -/
def Shedding.entryOf (x : Shedding) (f : Fin 32) : Option StackEntry := x.stack.find? fun e => e.feeder = f

/-- R127: a change between empty and not empty goes to Dispatch; a change of the top entry or of its trip state makes a
restore test. -/
def setStack (new : List StackEntry) (s : State) : State :=
  let old := s.shed.stack
  let out := s.modShed fun x => { x with stack := new }
  out.post ((if old.isEmpty ≠ new.isEmpty then [.stopTest] else []) ++
    (if (old.getLast?.map fun e => (e.feeder, e.done)) ≠ (new.getLast?.map fun e => (e.feeder, e.done)) then
      [.restoreTest] else []))

/-- R123, R136, R142: a feeder's entry leaves the stack; its owner becomes NONE and its shed-time load absent. If it was
the feeder under restoration, that restoration ends. -/
def removeEntry (f : Fin 32) (s : State) : State :=
  let freed := s.modFeeder f fun r => { r with owner := .free, shedLoad := none }
  let out := setStack (s.shed.stack.filter fun e => e.feeder ≠ f) freed
  if s.shed.underRestore = some f then (out.modShed fun x => { x with underRestore := none }).post [.restoreTest] else out

/-! ## The walk (R126, R128, R129) -/

/-- R126: a feeder is eligible for shedding. -/
def eligibleFeeder (s : State) (f : Fin 32) : Bool :=
  let r := s.feeders[f]
  r.used && r.device ≠ 0 && r.mode = .auto && !r.failed && r.breaker = .closed &&
    ((s.shed.entryOf f).isNone || s.shed.underRestore = some f) && r.p.any fun p => 0 < p

/-- The order cause of a shed TRIP. -/
def ShedCause.orderCause : ShedCause → OrderCause
  | .stage => .stageShed
  | .deficit => .deficitShed

/-- A TRIP of a feeder under its profile. -/
def tripOrder (s : State) (f : Fin 32) (cls : OrderClass) (cause : OrderCause) : Order :=
  { target := .feeder f, device := 0, kind := .trip, cls := cls, cause := cause, profile := s.feeders[f].profile }

/-- A ROUTINE CLOSE of a feeder under its profile. -/
def closeOrder (s : State) (f : Fin 32) (cause : OrderCause) : Order :=
  { target := .feeder f, device := 0, kind := .close, cls := .routine, cause := cause, profile := s.feeders[f].profile }

/-- R128: a walk takes a feeder. -/
def takeFeeder (f : Fin 32) (cause : ShedCause) (load : Nat) (s : State) : State :=
  let free := if s.shed.underRestore = some f then removeEntry f s else s
  let pushed := setStack (free.shed.stack ++ [{ feeder := f, load := load, cause := cause, done := false }]) free
  let owned := pushed.modFeeder f fun r => { r with owner := .shed, shedLoad := some load }
  (submitProtective (tripOrder owned f .protective cause.orderCause) owned).log .feederShed (feederSubject f) load
    cause.detail

/-- R129: the next used entry of the same stage. -/
def nextEntry (table : Vector ShedEntry 32) (i : Fin 32) : Option (Fin 32) :=
  (List.finRange 32).find? fun j => i < j && table[j].feeder.isSome && table[j].stage = table[i].stage

/-- A walk in progress: the state, the sum of the loads taken, the entry after the last one examined or passed over, and
the marks still pending. -/
structure Walk where
  state : State
  sum   : Int
  next  : Nat
  marks : List Nat

/-- R129: the mark an examined entry sets by its condition. -/
def marksAfter (table : Vector ShedEntry 32) (i : Fin 32) (taken : Bool) (marks : List Nat) : List Nat :=
  match nextEntry table i, table[i].condition, taken with
  | some j, .skipNextIfTaken, true => marks ++ [j.val]
  | some j, .skipNextIfPassed, false => marks ++ [j.val]
  | _, _, _ => marks

/-- R129: a walk reaches one entry. -/
def walkEntry (cause : ShedCause) (examines : ShedEntry → Bool) (i : Fin 32) (w : Walk) : Walk :=
  let table := w.state.shed.table
  match table[i].feeder with
  | none => w
  | some f =>
    if i.val ∈ w.marks then { w with marks := w.marks.filter fun m => m ≠ i.val, next := i.val + 1 }
    else if !examines table[i] then w
    else if eligibleFeeder w.state f then
      let load := (w.state.feeders[f].p.getD 0).toNat
      { state := takeFeeder f cause load w.state, sum := w.sum + load, next := i.val + 1,
        marks := marksAfter table i true w.marks }
    else { w with next := i.val + 1, marks := marksAfter table i false w.marks }

/-- R129, R134: a walk over the entries in ascending number, to the end or until the sum reaches the target. -/
def walkOver (cause : ShedCause) (examines : ShedEntry → Bool) (target : Option Int) : List (Fin 32) → Walk → Walk
  | [], w => w
  | i :: rest, w =>
    let out := walkEntry cause examines i w
    if target.any fun t => t ≤ out.sum then out else walkOver cause examines target rest out

/-! ## Stage shedding (R131, R132) -/

def State.setStageTimer (s : State) (i : Fin 8) (t : Timer) : State :=
  s.modShed fun x => { x with stageTimers := x.stageTimers.set i t }

/-- R132: a stage trips. -/
def stageTrip (i : Fin 8) (s : State) : State :=
  let latched := (s.setStageTimer i none).modShed fun x => { x with latches := x.latches.set i true }
  let logged := latched.log .stageTrip none (latched.sheet.freq.getD 0 : Nat) (i.val + 1)
  let walk := walkOver .stage (fun e => e.stage = i) none (List.finRange 32) ⟨logged, 0, 0, []⟩
  walk.state.post [.shedTaken]

/-- R132: a stage timer expires, if it is due. -/
def stageTimerExpires (i : Fin 8) (s : State) : State :=
  if s.shed.stageTimers[i] = some 0 then stageTrip i s else s

/-- R131: one stage at a frequency sample. -/
def stageSample (bank : Bank) (f : Nat) (i : Fin 8) (s : State) : State :=
  let threshold := bank.threshold[i]
  if threshold = 0 || s.shed.latches[i] then s
  else match s.shed.stageTimers[i] with
    | none =>
      if f < threshold then
        if timeMs bank.delay[i] = 0 then stageTrip i s else s.setStageTimer i (some (timeMs bank.delay[i]))
      else s
    | some _ => if threshold + bank.hysteresis ≤ f then s.setStageTimer i none else s

/-! ## Deficit shedding (R133 to R135) -/

/-- R134 steps 3 and 4, R135: the deficit walk from an entry, and the progress it leaves. -/
def deficitWalk (start : Nat) (marks : List Nat) (target : Int) (s : State) : State :=
  let entries := (List.finRange 32).filter fun i => start ≤ i.val
  let walk := walkOver .deficit (fun e => e.deficit) (some target) entries ⟨s, 0, start, marks⟩
  walk.state.modShed fun x => { x with progress := some { next := walk.next, marks := walk.marks } }

/-- R134: the deficit test of a frequency sample. -/
def deficitTest (bank : Bank) (f : Nat) (s : State) : State :=
  let falling := s.sheet.rocof.any fun r => r ≤ -(bank.deficitTrigger : Int)
  let amount := amountToShed s bank.inertia
  if falling && f < bank.deficitArming && !s.shed.deficitLatch && 0 < amount then
    let latched := (s.modShed fun x => { x with deficitLatch := true }).log .deficitShed none amount detailInitial
    (deficitWalk 0 [] amount latched).post [.shedTaken]
  else s

/-- R135: a make-up walk for a failed feeder's shed-time load. -/
def makeUpWalk (target : Nat) (s : State) : State :=
  match s.shed.deficitLatch, s.shed.progress with
  | true, some p => deficitWalk p.next p.marks target (s.log .deficitShed none target detailMakeUp)
  | _, _ => s

/-! ## Trip outcomes (R136) -/

/-- R136: a shed TRIP has ended. -/
def shedTripEnd (f : Fin 32) (e : OrderEnd) (s : State) : State :=
  match s.shed.entryOf f with
  | none => s
  | some entry =>
    if entry.done then s
    else if e = .confirmed then
      setStack (s.shed.stack.map fun x => if x.feeder = f then { x with done := true } else x) s
    else
      let removed := removeEntry f s
      let told :=
        if e = .cancelled then removed
        else (removed.modFeeder f fun r => { r with failed := true }).log .feederFailed (feederSubject f) entry.load
          detailTripFailed
      if entry.cause = .deficit then makeUpWalk entry.load told else told

/-! ## Restoration (R137 to R142) -/

/-- R140: what the restore test finds: nothing to do, a wait for reserve, or a feeder to close. -/
inductive RestoreFinding where
  | stop
  | waitReserve (load : Nat)
  | close (feeder : Fin 32)
  deriving DecidableEq, Repr

/-- R140: the four conditions in turn. -/
def restoreFinding (s : State) : RestoreFinding :=
  match s.shed.top with
  | none => .stop
  | some top =>
    if !s.shed.permission then .stop
    else if s.shed.underRestore.isSome || s.shed.barrier ≠ .idle then .stop
    else if !top.done || s.feeders[top.feeder].holdOff.isSome then .stop
    else if satSum ((top.load : Int) + s.bank.restoreMargin) ≤ s.sheet.margin then .close top.feeder
    else .waitReserve top.load

/-- R140, R141: a restore test. None is taken while restoration is blocked. -/
def restoreTest (s : State) : State :=
  if s.inRun then s else
    match restoreFinding s with
    | .stop => postRestoreWait none s
    | .waitReserve load => postRestoreWait (some load) s
    | .close f =>
      match submitRoutine (closeOrder s f .restore) s with
      | (out, .full) => postRestoreWait none out
      | (out, _) => postRestoreWait none (out.modShed fun x => { x with underRestore := some f })

/-- R139: permission is granted and a restore test is taken. -/
def grantPermission (s : State) : State :=
  (s.modShed fun x => { x with restoreDelay := none, permission := true }).post [.permissionGrant, .restoreTest]

/-- R139: the timer stops and permission is withdrawn; the loss posts absence (R141). -/
def losePermission (s : State) : State :=
  postRestoreWait none (s.modShed fun x => { x with restoreDelay := none, permission := false })

/-- Every queued RESTORE CLOSE is withdrawn (R138, R139). -/
def withdrawCloses (s : State) : State := cancelWhere (fun o => o.cause = .restore) true s

/-- R139, R142: every queued RESTORE CLOSE is withdrawn, and with it ends the restoration of its feeder: a feeder is under
restoration only until its CLOSE has ended (R137). -/
def cancelRestoration (s : State) : State :=
  let waits := s.orders.queue.any fun o => o.cause = .restore && s.shed.underRestore.any fun f => o.target = .feeder f
  withdrawCloses (if waits then (s.modShed fun x => { x with underRestore := none }).post [.restoreTest] else s)

/-- R139: the restore delay at a frequency sample. -/
def restoreDelaySample (bank : Bank) (f : Nat) (s : State) : State :=
  if f < bank.restoreFreq then cancelRestoration (losePermission s)
  else if s.shed.permission || s.shed.restoreDelay.isSome then s
  else if timeMs bank.restoreDelay = 0 then grantPermission s
  else s.modShed fun x => { x with restoreDelay := some (timeMs bank.restoreDelay) }

/-- R139: the restore delay expires, if it is due. -/
def restoreDelayExpires (s : State) : State := if s.shed.restoreDelay = some 0 then grantPermission s else s

/-- R142: a RESTORE CLOSE has ended. -/
def restoreCloseEnd (f : Fin 32) (e : OrderEnd) (s : State) : State :=
  if s.shed.underRestore ≠ some f then s else
    let ended := s.modShed fun x => { x with underRestore := none }
    let load := ((s.shed.entryOf f).map StackEntry.load).getD 0
    match e with
    | .confirmed =>
      (removeEntry f (ended.modShed fun x => { x with barrier := .counting f .restoration 0 })).log .feederRestored
        (feederSubject f) load detailNone
    | .timedOut | .inhibited | .refused =>
      let failed := (removeEntry f ended).modFeeder f fun r => { r with failed := true, mode := .manual }
      (recompute (failed.log .feederFailed (feederSubject f) load detailCloseFailed)).post [.restoreTest]
    | .cancelled | .dropped | .superseded => ended.post [.restoreTest]

/-- R138: the start of a run is handed over. -/
def runStart (s : State) : State :=
  let withdrawn := withdrawCloses s
  postRestoreWait none (withdrawn.modShed fun x =>
    { x with underRestore := none, barrier := match x.barrier with
        | .counting _ .restoration _ => .idle
        | .stepping _ .restoration _ => .idle
        | other => other })

/-- R138, R143: the end of a run is handed over. A barrier of the Sequencer becomes idle and a restore test is taken. -/
def runEnd (s : State) : State :=
  restoreTest (s.modShed fun x =>
    { x with barrier := match x.barrier with
        | .counting _ .sequencer _ => .idle
        | .stepping _ .sequencer _ => .idle
        | other => other })

/-! ## The freshness barrier (R143) -/

/-- R143: the step interval starts with this duration; a count of 0 ends it at once. -/
def startStepInterval (f : Fin 32) (owner : BarrierOwner) (ms : Nat) (s : State) : State :=
  let out := s.modShed fun x => { x with barrier := .stepping f owner ms }
  if ms = 0 then out.post [.stepIntervalEnd] else out

/-- R143: an accepted report for a feeder. While its record is unused the barrier stays in COUNTING. -/
def feederReport (f : Fin 32) (s : State) : State :=
  match s.shed.barrier with
  | .counting g owner n =>
    if g ≠ f || !s.feeders[f].used then s
    else if n = 0 then s.modShed fun x => { x with barrier := .counting g owner 1 }
    else startStepInterval g owner (timeMs s.bank.stepInterval) s
  | _ => s

/-- R143: the step interval expires, if it is due. -/
def stepIntervalExpires (s : State) : State :=
  match s.shed.barrier with
  | .stepping f owner 0 =>
    let idle := s.modShed fun x => { x with barrier := .idle }
    match owner with
    | .restoration => restoreTest idle
    | .sequencer => idle.post [.barrierEnd f]
  | _ => s

/-! ## The frequency sample at Shedding (R130) -/

/-- R130, step 1: the latches of the stages that have recovered, and the deficit latch, are cleared. -/
def clearLatches (bank : Bank) (f : Nat) (s : State) : State :=
  let stages := s.modShed fun x => { x with latches := mapIndexed (fun i l =>
    l && !(bank.threshold[i] = 0 || bank.threshold[i] + bank.hysteresis ≤ f)) x.latches }
  if bank.restoreFreq ≤ f then stages.modShed fun x => { x with deficitLatch := false, progress := none } else stages

/-- R130: a frequency sample at Shedding. -/
def shedSample (f : Nat) (s : State) : State :=
  let bank := s.bank
  let delayed := restoreDelaySample bank f (clearLatches bank f s)
  let staged := (List.finRange 8).foldl (fun t i => stageSample bank f i t) delayed
  let tested := deficitTest bank f staged
  if bank.restoreFreq ≤ f then restoreTest tested else tested

/-- R130: a change of frequency source at Shedding. -/
def shedFreqChange (s : State) : State :=
  if s.sheet.freq.isSome then s
  else losePermission (s.modShed fun x => { x with stageTimers := Vector.replicate 8 none })

/-! ## Modes and rewritten records (R123) -/

/-- R123: the feeder is set to the mode its record now has. -/
def feederMode (f : Fin 32) (s : State) : State :=
  match s.feeders[f].mode with
  | .auto => s.modFeeder f fun r => { r with failed := false }
  | .manual =>
    let out := if (s.shed.entryOf f).isSome then removeEntry f s else s
    withdraw [.restore] (.feeder f) (some .close) out

/-- R123: after a rewritten record's queued TRIP has been taken, what is left of the feeder leaves the stack and, where
the write says so, the Sequencer. -/
def feederRewritten (f : Fin 32) (dropSequencer : Bool) (s : State) : State :=
  let off := if (s.shed.entryOf f).isSome then removeEntry f s else s
  if dropSequencer && off.feeders[f].owner = .sequencer then off.modFeeder f fun r => { r with owner := .free } else off

/-! ## A bank switch at Shedding (R50) -/

/-- R50: one running stage timer restarts under the new bank, or stops if its stage is disabled there. -/
def restartStage (bank : Bank) (i : Fin 8) (s : State) : State :=
  match s.shed.stageTimers[i] with
  | none => s
  | some _ =>
    if bank.threshold[i] = 0 then s.setStageTimer i none
    else
      let ms := timeMs bank.delay[i]
      let out := s.setStageTimer i (some ms)
      if ms = 0 then out.post [.stageEnd i] else out

/-- R50: a running restore delay restarts. -/
def restartRestoreDelay (bank : Bank) (s : State) : State :=
  match s.shed.restoreDelay with
  | none => s
  | some _ =>
    let ms := timeMs bank.restoreDelay
    let out := s.modShed fun x => { x with restoreDelay := some ms }
    if ms = 0 then out.post [.restoreDelayEnd] else out

/-- R50: Shedding takes a bank switch. -/
def shedBankSwitch (s : State) : State :=
  let bank := s.bank
  let staged := (List.finRange 8).foldl (fun t i => restartStage bank i t) s
  let delayed := restartRestoreDelay bank staged
  match delayed.shed.barrier with
  | .stepping f owner _ => startStepInterval f owner (timeMs bank.stepInterval) delayed
  | _ => delayed

end Sys2Proof.Machine
end

