-- ==== Sys2Proof/Machine/Banks.lean ====
section
/-!
DEFINITION. Setting Banks (R44 to R50): what a written bank must meet, the selection of a bank, and what a bank switch
hands on.
-/

namespace Sys2Proof.Machine

/-! ## A written bank (R42, R44, R45) -/

/-- R42: a frequency of a bank. -/
def freqInRange (f : Nat) : Bool := 40000 ≤ f && f ≤ 70000

/-- R45: among the enabled stages each threshold lies strictly below those of lower number. -/
def descending : List Nat → Bool
  | [] => true
  | t :: rest => (rest.all fun x => x < t) && descending rest

/-- R42, R44, R45: every field lies within its range, and the thresholds and over-frequency fields agree. -/
def Bank.valid (b : Bank) : Bool :=
  let enabled := b.threshold.toList.filter fun t => t ≠ 0
  enabled.all freqInRange && descending enabled && b.hysteresis ≤ 500 && freqInRange b.restoreFreq &&
  b.restoreMargin ≤ 65535 && 100 ≤ b.deficitTrigger && b.deficitTrigger ≤ 10000 && freqInRange b.deficitArming &&
  10 ≤ b.inertia && b.inertia ≤ 200 && 2 ≤ b.window && b.window ≤ 16 && b.baseReserve ≤ 65535 &&
  b.coverFactor ≤ 256 && b.startMargin ≤ 65535 && b.stopMargin ≤ 65535 && 1 ≤ b.rampStep && b.rampStep ≤ 65535 &&
  b.deadband ≤ 1000 && freqInRange b.fOfc && freqInRange b.fMax && b.fOfc < b.fMax && b.deadBusVoltage ≤ 500

/-! ## A bank switch (R47, R50) -/

def bankSubject (b : Fin 4) : Option Subject := some { table := .bank, index := b.val }

/-- R50: Dispatch restarts its dispatch timer and a running stop timer. -/
def dispatchBankSwitch (s : State) : State :=
  let out := { s with dispatch := { s.dispatch with timer := dispatchInterval s } }
  match out.dispatch.stopTimer with
  | some t => startStopTimer t.unit out
  | none => out

/-- R50: Curtailment restarts its timer. -/
def curtailBankSwitch (s : State) : State := { s with curtailTimer := curtailInterval s }

/-- R50: the Sequencer restarts a running dead-bus timer; one of no duration declares at once. -/
def deadBusBankSwitch (s : State) : State :=
  match s.seq.deadBusTimer with
  | none => s
  | some _ =>
    let ms := timeMs s.bank.deadBusTime
    let out := { s with seq := { s.seq with deadBusTimer := some ms } }
    if ms = 0 then out.post [.deadBusEnd] else out

/-- R50: the switch handed to each block in the order of its table. What the blocks hand on (the tests of a changed reserve, R30, and
the ends of timers restarted with 0 ms) is taken once all six have taken the switch, the send test included (log 55). -/
def bankSwitched (s : State) : State :=
  sendTest (deadBusBankSwitch (curtailBankSwitch (dispatchBankSwitch (shedBankSwitch (recompute s)))))

/-- R47: a bank is selected; a selection of the active bank is no switch. -/
def selectBank (b : Fin 4) (cause : SwitchCause) (s : State) : State :=
  if b = s.activeBank then s
  else bankSwitched ({ s with activeBank := b }.log .bankSwitch (bankSubject b) s.activeBank.val cause.detail)

end Sys2Proof.Machine
end

