-- ==== Sys2Proof/Machine/Sequencer.lean ====
section
/-!
DEFINITION. The Black Start Sequencer (R146 to R167): arming, blackout detection, runs, steps, the Suspension Stack and
the two ends of a run.
-/

namespace Sys2Proof.Machine

def State.modSeq (s : State) (f : Sequencer → Sequencer) : State := { s with seq := f s.seq }

/-- The step record at the position. -/
def State.stepRec (s : State) : StepRec := s.seq.program[s.seq.position]

def programSubject (n : Nat) : Option Subject := some { table := .program, index := n }

/-- R157, R166, R167: a freshness barrier started by the Sequencer is set idle. -/
def dropBarrier (s : State) : State :=
  s.modShed fun x => { x with barrier := match x.barrier with
    | .counting _ .sequencer _ => .idle
    | .stepping _ .sequencer _ => .idle
    | other => other }

/-! ## The two ends of a run (R166, R167) -/

/-- R166, R167: the end of the run is handed to Shedding, and to Curtailment when the forced zero ends with it. -/
def handRunEnd (s : State) : State := s.post ([.runEnd] ++ if s.seq.pvReleased then [] else [.curtailEval])

/-- R166, step 2: the shed-time load a feeder left open is pushed with. -/
def completionLoad (r : FeederRec) : Nat := if 0 < r.p.getD 0 then (r.p.getD 0).toNat else 1

/-- R166, step 2: a feeder that is pushed onto the Shed Stack at the completion. -/
def leftOpen (r : FeederRec) : Bool := r.owner = .sequencer && r.mode = .auto && r.breaker = .opened

/-- R166, step 2: one feeder is pushed onto the Shed Stack. -/
def pushLeftOpen (f : Fin 32) (s : State) : State :=
  if !leftOpen s.feeders[f] then s else
    let load := completionLoad s.feeders[f]
    let owned := s.modFeeder f fun r => { r with owner := .shed, shedLoad := some load }
    (setStack (s.shed.stack ++ [{ feeder := f, load := load, cause := .stage, done := true }]) owned).log .feederShed
      (feederSubject f) load detailComplete

/-- R166: the run ends in COMPLETE. -/
def completeRun (s : State) : State :=
  let pushed := ((List.finRange 32).filter fun f => leftOpen s.feeders[f]).length
  let done := s.modSeq fun q => { q with state := .complete, stepTimeout := none, progress := {}, stack := [], serial := q.serial + 1 }
  let stacked := (List.finRange 32).foldl (fun t f => pushLeftOpen f t) done
  let freed := { stacked with feeders := mapTable (fun r =>
    if r.owner = .sequencer then { r with owner := .free } else r) stacked.feeders }
  handRunEnd ((dropBarrier freed).log .seqComplete none pushed detailNone)

/-- R167: an abort ends the run in ABORTED. The blackstart wants are withdrawn in unit-index order (log 52). -/
def abortRun (cause : AbortCause) (s : State) : State :=
  let ended := s.modSeq fun q =>
    { q with state := .aborted, stepTimeout := none, progress := {}, stack := [], serial := q.serial + 1 }
  let withdrawn := forUnits withdrawWant (cancelWhere (fun o => o.cause = .sequencer) true ended)
  let freed := { withdrawn with feeders := mapTable (fun r =>
    if r.owner = .sequencer then { r with owner := .free, mode := .manual } else r) withdrawn.feeders }
  handRunEnd ((dropBarrier (recompute freed)).log .seqAbort none s.seq.position.val cause.detail)

/-! ## The end of a step, and the Suspension Stack (R154, R160 to R165) -/

/-- R158: a WAIT_FREQ step's condition. -/
def waitFreqMet (s : State) : Bool := s.sheet.freq.any fun f => s.bank.restoreFreq ≤ f

/-- R154: the state that goes with a step kind in progress. -/
def StepKind.runState : StepKind → SeqState
  | .waitTime | .waitFreq => .waiting
  | _ => .running

/-- R154, steps 1 to 3: the step ends and is logged. -/
def closeStep (e : StepEnd) (s : State) : State :=
  let serial := s.seq.serial
  let stopped := s.modSeq fun q =>
    { q with stepTimeout := none, progress := { ended := true }, serial := q.serial + 1 }
  let withdrawn := cancelWhere (fun o => o.cause = .sequencer && o.step = serial) true stopped
  (dropBarrier withdrawn).log .seqStep (programSubject s.seq.position) s.seq.position.val e.detail

/-- R161: a record is pushed, or the run is aborted when the stack is full. -/
def pushRecord (cause : SuspendCause) (s : State) : State :=
  if Config.suspensionSize ≤ s.seq.stack.length then abortRun .stackFull s
  else
    let record : Suspension := { cause := cause, bank := s.activeBank, left := s.seq.stepTimeout }
    let out := s.modSeq fun q => { q with state := .suspended, stack := q.stack ++ [record] }
    out.log .seqSuspend none out.seq.stack.length cause.detail

/-- R160: a failed step's on-fail action. -/
def stepFailed (s : State) : State :=
  match s.stepRec.onFail with
  | .abort => abortRun .stepFailed s
  | .skipNext => s.postFirst (.stepBegin (s.seq.position + 2))
  | .hold => pushRecord .operator s

/-- R154, step 4: what follows the end of a step. The next step begins in the same event, before anything else that
event hands on. -/
def endStep (e : StepEnd) (s : State) : State :=
  let closed := closeStep e s
  if e = .done then closed.postFirst (.stepBegin (s.seq.position + 1)) else stepFailed closed

/-- R154: the step becomes done or failed. It ends at once, or records its pending end while SUSPENDED; of two ends the
first is kept (R160). -/
def stepBecomes (e : StepEnd) (s : State) : State :=
  if s.seq.progress.ended then s
  else match s.seq.state with
    | .running | .waiting => endStep e s
    | .suspended =>
      if s.seq.progress.pendingEnd.isSome then s
      else s.modSeq fun q => { q with progress := { q.progress with pendingEnd := some e } }
    | _ => s

/-- R155: every order of an OPEN_FEEDERS step has ended. -/
def allEnded (s : State) : Bool := s.seq.progress.orders.all fun o => o.ended.isSome

/-- R165: the last record has been popped and the step continues. A step timeout or a wait with nothing left runs again as a timer of
0 ms, which expires at the next millisecond (log 58). -/
def continueStep (left : Timer) (s : State) : State :=
  let kind := s.stepRec.kind
  let out := s.modSeq fun q => { q with state := kind.runState, stepTimeout := left }
  if s.seq.progress.ended then out.postFirst (.stepBegin s.seq.position)
  else match s.seq.progress.pendingEnd with
    | some e => endStep e out
    | none =>
      match kind with
      | .waitFreq => if waitFreqMet out then endStep .done out else out
      | .openFeeders => if allEnded out then endStep .done out else out
      | _ => out

/-- R163: the top record is popped, and after it every PROTECTION record that comes to the top while permission is
granted. The first argument bounds the pops by the depth of the stack. -/
def popRecords : Nat → State → State
  | 0, s => s
  | n + 1, s =>
    match s.seq.stack.getLast? with
    | none => s
    | some r =>
      let removed := s.modSeq fun q => { q with stack := q.stack.dropLast }
      let selected := selectBank r.bank .pop
        (removed.log .seqResume none removed.seq.stack.length r.cause.detail)
      match selected.seq.stack.getLast? with
      | none => continueStep r.left selected
      | some next => if next.cause = .protection && selected.shed.permission then popRecords n selected else selected

/-- R163: the top record is popped. -/
def popTop (s : State) : State := popRecords s.seq.stack.length s

/-- R163: a PROTECTION record on top is popped while permission is granted. -/
def popProtection (s : State) : State :=
  match s.seq.stack.getLast? with
  | some r => if r.cause = .protection && s.shed.permission then popTop s else s
  | none => s

/-- R161: a push while a run is in progress; a PROTECTION record is popped at once while permission is granted. -/
def suspendRun (cause : SuspendCause) (s : State) : State :=
  if s.inRun then
    let pushed := pushRecord cause s
    if cause = .protection then popProtection pushed else pushed
  else s

/-! ## The beginning of a step (R154 to R159) -/

/-- R147: the kinds that use the time code as a timeout. -/
def StepKind.usesTimeout : StepKind → Bool
  | .openFeeders | .startGenset | .closeFeeder | .waitFreq => true
  | _ => false

/-- R155: the feeders an OPEN_FEEDERS step trips. -/
def stepTrips (s : State) : List (Fin 32) := (List.finRange 32).filter fun f =>
  let r := s.feeders[f]
  r.owner = .sequencer && r.mode = .auto && (r.breaker = .closed || r.breaker = .unknown)

/-- R154: orders of the step in progress are submitted in turn and noted in the step progress. The submissions stop at
the first that is answered FULL, which makes the step fail (R155). -/
def submitStep : List Order → State → State
  | [], s => s
  | o :: rest, s =>
    match submitRoutine { o with step := s.seq.serial } s with
    | (out, .full) => stepBecomes .full out
    | (out, _) =>
      let f : List StepOrder := match o.target with
        | .feeder f => [{ feeder := f }]
        | .unit _ => []
      submitStep rest (out.modSeq fun q => { q with progress := { q.progress with orders := q.progress.orders ++ f } })

/-- R155: an OPEN_FEEDERS step begins. -/
def beginOpenFeeders (s : State) : State :=
  match stepTrips s with
  | [] => stepBecomes .done s
  | fs => submitStep (fs.map fun f => tripOrder s f .routine .sequencer) s

/-- R156: a START_GENSET step begins. -/
def beginStartGenset (operand : Nat) (s : State) : State :=
  match index? 16 operand with
  | some u => if s.isGenset u then s.post [.startAsk u] else stepBecomes .noUnit s
  | none => stepBecomes .noUnit s

/-- R157: STEP_SKIPPED_OWNER is logged and the step is done. -/
def skipOwner (f : Fin 32) (s : State) : State :=
  stepBecomes .done (s.log .stepSkippedOwner (feederSubject f) s.seq.position.val detailNone)

/-- R157: a CLOSE_FEEDER step begins. -/
def beginCloseFeeder (operand : Nat) (s : State) : State :=
  match index? 32 operand with
  | some f =>
    if s.feeders[f].owner ≠ .sequencer || s.feeders[f].mode = .manual then skipOwner f s
    else submitStep [closeOrder s f .sequencer] s
  | none => s

/-- R158: a WAIT_TIME step begins. -/
def beginWaitTime (ms : Nat) (s : State) : State :=
  if ms = 0 then stepBecomes .done s
  else s.modSeq fun q => { q with progress := { q.progress with waitTimer := some ms } }

/-- R159: a RELEASE_PV step begins. -/
def beginReleasePv (s : State) : State :=
  let out := if s.seq.pvReleased then s else (s.modSeq fun q => { q with pvReleased := true }).post [.curtailEval]
  stepBecomes .done out

/-- R155 to R159: the step acts as its kind gives. -/
def actStep (r : StepRec) (s : State) : State :=
  match r.kind with
  | .openFeeders => beginOpenFeeders s
  | .startGenset => beginStartGenset r.operand s
  | .closeFeeder => beginCloseFeeder r.operand s
  | .waitTime => beginWaitTime (timeMs r.time) s
  | .waitFreq => if waitFreqMet s then stepBecomes .done s else s
  | .checkReserve => stepBecomes (if (r.operand : Int) ≤ s.sheet.margin then .done else .short) s
  | .selectBank =>
    match index? 4 r.operand with
    | some b => stepBecomes .done (selectBank b .step s)
    | none => s
  | .releasePv => beginReleasePv s
  | .finish => completeRun s

/-- R154: the step with this number begins; one above 47 is taken as END (R147). A run that has been suspended on the way
begins it when the stack empties. -/
def beginStep (n : Nat) (s : State) : State :=
  if !s.inRun then s else
    match index? 48 n with
    | none => completeRun (s.modSeq fun q => { q with position := 47 })
    | some i =>
      if s.seq.state = .suspended then s.modSeq fun q => { q with position := i, progress := { ended := true } }
      else
        let r := s.seq.program[i]
        actStep r (s.modSeq fun q =>
          { q with position := i, progress := {}, serial := q.serial + 1, state := r.kind.runState,
                   stepTimeout := if r.kind.usesTimeout then startTimer (timeMs r.time) else none })

/-! ## What reaches the step in progress -/

/-- R155: a TRIP of an OPEN_FEEDERS step ended well. -/
def tripEndedWell (s : State) (f : Fin 32) : OrderEnd → Bool
  | .confirmed => true
  | .cancelled | .superseded => s.feeders[f].owner ≠ .sequencer
  | _ => false

/-- The first order of the step for this feeder that has not ended is marked with its end. -/
def noteEnd (f : Fin 32) (e : OrderEnd) (os : List StepOrder) : List StepOrder :=
  os.map fun o => if o.feeder = f && o.ended.isNone then { o with ended := some e } else o

/-- R155: the end of a TRIP of an OPEN_FEEDERS step. -/
def openFeedersTold (f : Fin 32) (e : OrderEnd) (s : State) : State :=
  if !tripEndedWell s f e then stepBecomes .orderFailed s
  else if allEnded s then stepBecomes .done s else s

/-- R157: the end of the CLOSE of a CLOSE_FEEDER step. -/
def closeFeederTold (f : Fin 32) (e : OrderEnd) (s : State) : State :=
  match e with
  | .confirmed => s.modShed fun x => { x with barrier := .counting f .sequencer 0 }
  | .cancelled | .superseded =>
    if s.feeders[f].owner = .shed then skipOwner f s else stepBecomes .orderFailed s
  | _ => stepBecomes .orderFailed s

/-- R154, R155, R157: an order of the Sequencer has ended. One of a step that has ended is taken without effect. -/
def seqOrderEnd (o : Order) (e : OrderEnd) (s : State) : State :=
  match o.target with
  | .unit _ => s
  | .feeder f =>
    if o.step ≠ s.seq.serial || s.seq.progress.ended || !s.inRun then s else
      let told := s.modSeq fun q => { q with progress := { q.progress with orders := noteEnd f e q.progress.orders } }
      match told.stepRec.kind with
      | .openFeeders => openFeedersTold f e told
      | .closeFeeder => closeFeederTold f e told
      | _ => told

/-- R156: Dispatch's answer reaches the START_GENSET step in progress for this genset. -/
def startAnswer (u : Fin 16) (done : Bool) (s : State) : State :=
  if s.inRun && s.stepRec.kind = .startGenset && s.stepRec.operand = u.val then
    stepBecomes (if done then .done else .lockout) s
  else s

/-- R157: the end of a freshness barrier reaches the CLOSE_FEEDER step in progress for this feeder. -/
def barrierEnd (f : Fin 32) (s : State) : State :=
  if s.inRun && s.stepRec.kind = .closeFeeder && s.stepRec.operand = f.val then stepBecomes .done s else s

/-- R158: a WAIT_FREQ step in progress is tested; it is not while SUSPENDED (R162). -/
def waitFreqTest (s : State) : State :=
  if s.seq.state = .waiting && s.stepRec.kind = .waitFreq && waitFreqMet s then stepBecomes .done s else s

/-- R158: the wait timer expires, if it is due and the Sequencer is not SUSPENDED. -/
def waitTimeExpires (s : State) : State :=
  if s.seq.state = .waiting && s.seq.progress.waitTimer = some 0 then stepBecomes .done s else s

/-- R160: the step timeout expires, if it is due and the Sequencer is not SUSPENDED. -/
def stepTimeoutExpires (s : State) : State :=
  if (s.seq.state = .running || s.seq.state = .waiting) && s.seq.stepTimeout = some 0 then stepBecomes .timeout s else s

/-! ## Runs (R152, R153) -/

/-- R153, step 4: a feeder that the run takes. -/
def runTakes (r : FeederRec) : Bool := r.used && r.mode = .auto && r.device ≠ 0

/-- R153, steps 3 and 4: what the start of a run does to one feeder record. -/
def runOwner (inStack : Bool) (r : FeederRec) : FeederRec :=
  let cleared := if inStack then { r with shedLoad := none, owner := .free } else r
  if runTakes r then { cleared with owner := .sequencer } else cleared

/-- R153: the start of a run. -/
def startRun (cause : RunCause) (s : State) : State :=
  let begun := (s.modSeq fun q =>
    { q with state := .running, position := 0, stack := [], progress := { ended := true }, pvReleased := false,
             stepTimeout := none, serial := q.serial + 1 }).log .seqBegin none 0 cause.detail
  let owned := { begun with feeders := mapIndexed (fun f r => runOwner (s.shed.entryOf f).isSome r) begun.feeders }
  (setStack [] owned).post [.runStart, .curtailEval, .stepBegin 0]

/-! ## Blackout detection (R150, R151) -/

/-- R150: the dead-bus condition. -/
def deadBus (s : State) : Bool :=
  s.primaryRef.any (fun i => s.sources[i].fresh && s.sources[i].u.any fun u => u < s.bank.deadBusVoltage) &&
    s.onlineUnits.isEmpty

/-- R150, R151: a blackout is declared. -/
def declareBlackout (s : State) : State :=
  let declared := s.modSeq fun q => { q with deadBusTimer := none, declared := true }
  let subject := s.primaryRef.bind sourceSubject
  let u : Nat := (s.primaryRef.bind fun i => s.sources[i].u).getD 0
  let logged := declared.log .blackout subject u detailNone
  if s.seq.state = .armed then startRun .blackout logged else logged

/-- R150: a test of the dead-bus condition; `changed` when a Source Table write has changed the primary reference. -/
def deadBusTest (changed : Bool) (s : State) : State :=
  let cleared := if changed then s.modSeq fun q => { q with deadBusTimer := none, declared := false } else s
  if !deadBus cleared then cleared.modSeq fun q => { q with deadBusTimer := none, declared := false }
  else if cleared.seq.declared || cleared.seq.deadBusTimer.isSome then cleared
  else if timeMs s.bank.deadBusTime = 0 then declareBlackout cleared
  else cleared.modSeq fun q => { q with deadBusTimer := some (timeMs s.bank.deadBusTime) }

/-- R150: the dead-bus timer expires, if it is due. -/
def deadBusExpires (s : State) : State := if s.seq.deadBusTimer = some 0 then declareBlackout s else s

/-! ## Arming and requests (R149, R152, R164) -/

/-- R149: ARM and DISARM, when taken. -/
def setArmed (on : Bool) (s : State) : State :=
  s.modSeq fun q => { q with armed := on, state := if on then .armed else .disarmed }

end Sys2Proof.Machine
end

