-- ==== Sys2Proof/Machine/Cascade.lean ====
section
/-!
DEFINITION. How the blocks take what is handed to them within one command (00_scope, Block diagram and Ordering of events;
file 95): each hand-over is one event at the block it goes to, and what that event hands on is taken before what still
waits (log 4).
-/

namespace Sys2Proof.Machine

/-- R74: the end of an order reaches its owner, which follows from the cause (R55). -/
def ownerTold (o : Order) (e : OrderEnd) (own : Bool) (s : State) : State :=
  match o.cause, o.target with
  | .stageShed, .feeder f | .deficitShed, .feeder f => shedTripEnd f e s
  | .restore, .feeder f => restoreCloseEnd f e s
  | .dispatch, .unit u => dispatchOrderEnd u o.kind e own s
  | .curtail, .unit u => limitOrderEnd u o.value e s
  | .sequencer, _ => seqOrderEnd o e s
  | _, _ => s

/-- R32, R109, R158: the sample reaches the Sequencer, and after the whole of what it does (R154) Curtailment and the Order
Unit. Whether it lies above f_ofc is read at the sample. -/
def sampleJobs (f : Nat) (s : State) : State :=
  (waitFreqTest s).post ((if s.bank.fOfc < f then [.curtailEval] else []) ++ [.sendTest])

/-- R18: a change of frequency source reaches Shedding, the Sequencer and, after the whole of what they do, the Order Unit;
Curtailment acts on none (R109). -/
def freqChanged (s : State) : State := (waitFreqTest (shedFreqChange s)).post [.sendTest]

/-- One hand-over is taken by the block it goes to. -/
def handle (h : Handover) (s : State) : State :=
  match h with
  | .stopTest => stopTest s
  | .restoreTest => restoreTest s
  | .freqChange => freqChanged s
  | .sample f => (shedSample f (formRocof s)).post [.sampleJobs f]
  | .sampleJobs f => sampleJobs f s
  | .feederReport f => feederReport f s
  | .pressure kPa => pressureReady kPa s
  | .deadBusTest changed => deadBusTest changed s
  | .taggedReport t tag refused accepted => matchReport t tag refused accepted s
  | .inhibitChange t => inhibitChange t s
  | .setpointCopy dest value => setpointCopy dest value s
  | .sendTest => sendTest s
  | .gensetReport u => gensetReport u s
  | .orderEnd o e own => ownerTold o e own s
  | .crankOutcome u profile operator => crankOutcome u profile operator s
  | .crankRequest r => requestCrank r s
  | .grant u => takeGrant u s
  | .operatorGrant r => operatorGrant r s
  | .operatorWithdraw u => operatorWithdraw u s
  | .dispatchEval => dispatchEval s
  | .curtailEval => curtailEval s
  | .wantTest u => wantTest u s
  | .stateTimerEnd u => stateTimerExpires (s.genset u).state u s
  | .stopTimerEnd => stopTimerExpires s
  | .startAsk u => startAsk u s
  | .startAnswer u done => startAnswer u done s
  | .shedTaken => suspendRun .protection s
  | .permissionGrant => popProtection s
  | .barrierEnd f => barrierEnd f s
  | .stageEnd i => stageTimerExpires i s
  | .restoreDelayEnd => restoreDelayExpires s
  | .stepIntervalEnd => stepIntervalExpires s
  | .deadBusEnd => deadBusExpires s
  | .feederRewritten f dropSequencer => feederRewritten f dropSequencer s
  | .runStart => runStart s
  | .runEnd => runEnd s
  | .stepBegin n => beginStep n s

/-- The hand-overs that wait are taken one after the other; what one of them hands on goes before the rest. The first
argument bounds their number (log 4). -/
def settleLoop : Nat → List Handover → State → State
  | _, [], s => s
  | 0, _ :: _, s => { s with overrun := true }
  | n + 1, h :: rest, s =>
    let out := handle h s
    settleLoop n (out.handovers ++ rest) { out with handovers := [] }

/-- Everything an event has handed over is taken. -/
def settle (s : State) : State := settleLoop Config.cascadeBound s.handovers { s with handovers := [] }

/-- A command: its own event, then everything that event hands over. No command faults or is refused. -/
def run (event : State → State) (s : State) : Host.Outcome State Fault Refusal :=
  .next (settle (event { s with handovers := [] }))

/-- A command that acts only while neither reset pin holds the part (R191, R192). -/
def runWhenUp (event : State → State) (s : State) : Host.Outcome State Fault Refusal :=
  run (fun t => if t.phase = .running then event t else t) s

end Sys2Proof.Machine
end

