-- ==== Sys2Proof/Machine/Resets.lean ====
section
/-!
DEFINITION. The resets (R191, R192) and the warm-reset values of every block (R22, R41, R52, R76, R106, R122, R145, R169,
R177). The cold-reset values are `State.coldStart`.
-/

namespace Sys2Proof.Machine

/-! ## Warm-reset values, block by block -/

/-- R22: an entry of the Source Table. -/
def SourceEntry.warm (e : SourceEntry) : SourceEntry := { e with fresh := false, staleTimer := none }

/-- R106: the control fields of a genset. -/
def GensetControl.warm (g : GensetControl) : GensetControl :=
  if g.state = .lockedOut then { state := .lockedOut, lockout := g.lockout } else { state := .unknown }

/-- R118, R122: the PV fields; a mirror whose expiry has passed becomes invalid. -/
def PvControl.warm (s : State) (p : PvControl) : PvControl :=
  let out := { p with lastSent := none, outOfStep := false }
  if mirrorDue s p then { out with mirrorValid := false, mirrorExpiry := none } else out

/-- R22, R76, R106, R122: a unit record. -/
def UnitRec.warm (s : State) (r : UnitRec) : UnitRec :=
  { r with
    breaker := .unknown, engine := .absent, isLocal := false, inhibit := false, unloaded := false, lastPos := none
    cycle := none, holdOff := none
    genset := if r.kind = .genset then r.genset.warm else r.genset
    pv := r.pv.warm s }

/-- R76, R145: the settle hold-off of a feeder, started in full where it was running or the feeder's shed TRIP was
PENDING. -/
def warmHoldOff (s : State) (f : Fin 32) (r : FeederRec) : Timer :=
  let pending := (s.shed.entryOf f).any fun e => !e.done
  if r.holdOff.isSome || pending then startTimer (timeMs s.profiles[r.profile].holdOff) else none

/-- R22, R76, R145: a feeder record. -/
def FeederRec.warm (s : State) (f : Fin 32) (r : FeederRec) : FeederRec :=
  let held := { r with breaker := .unknown, inhibit := false, lastPos := none, cycle := none, holdOff := warmHoldOff s f r }
  if r.owner = .sequencer then { held with owner := .free, mode := .manual } else held

/-- R145: Shedding. -/
def Shedding.warm (x : Shedding) : Shedding :=
  { table := x.table, stack := x.stack.map fun e => { e with done := true } }

/-- R169: the Sequencer. -/
def Sequencer.warm (q : Sequencer) : Sequencer :=
  { state := if q.armed then .armed else .disarmed, armed := q.armed, program := q.program, serial := q.serial + 1 }

/-- R192: the counters of a port become 0; link and queues are kept. -/
def PortState.warm (p : PortState) : PortState :=
  { p with forwarded := 0, forwardDrops := 0, ownDrops := 0, malformed := 0 }

/-- R192, steps 2 and 3: every block takes its warm-reset values; the sheet and the frequency source follow after. -/
def warmValues (s : State) : State :=
  { s with
    phase := .running
    portA := s.portA.warm
    portB := s.portB.warm
    retired := none
    beaconTimer := timeOrSecond s.settings.beacon
    sources := mapTable SourceEntry.warm s.sources
    history := []
    units := mapTable (UnitRec.warm s) s.units
    feeders := mapIndexed (FeederRec.warm s) s.feeders
    orders := {}
    dispatch := { timer := dispatchInterval s }
    arbiter := {}
    curtailTimer := curtailInterval s
    shed := s.shed.warm
    seq := s.seq.warm }

/-- R192, R193: the warm reset takes effect as one event. -/
def warmReset (detail : Nat) (manager : StationId) (s : State) : State :=
  let values := warmValues (s.log .warmReset none manager.toNat detail)
  let chosen := chooseSource values
  (recompute { chosen with sheet := { chosen.sheet with rocof := none } }).testRecordHigh

/-! ## The reset pins -/

/-- R191: NRST is low. The part is held and both LINK outputs are low. -/
def holdCold (s : State) : State :=
  { s with phase := .coldHeld, portA := { s.portA with linkPin := false }, portB := { s.portB with linkPin := false } }

/-- COLD_RESET_ASSERT (R191). -/
def execColdResetAssert (s : State) : Host.Outcome State Fault Refusal := run holdCold s

/-- COLD_RESET_RELEASE (R191): the straps are sampled and every block takes its cold-reset values. -/
def execColdResetRelease (fsel : Bool) (sid : BitVec 4) (s : State) : Host.Outcome State Fault Refusal :=
  run (fun t => if t.phase = .coldHeld then State.coldStart fsel sid t.pending else t) s

/-- WARM_RESET_PIN_ASSERT (R192): WRST is low. A part held by NRST stays held by it (log 8). -/
def execWarmResetPinAssert (s : State) : Host.Outcome State Fault Refusal :=
  run (fun t => if t.phase = .running then { t with phase := .warmHeld } else t) s

/-- WARM_RESET_PIN_RELEASE (R192). -/
def execWarmResetPinRelease (s : State) : Host.Outcome State Fault Refusal :=
  run (fun t => if t.phase = .warmHeld then warmReset detailPin 0 t else t) s

/-! ## The link status (R178) -/

/-- LINK_STATUS_READ (R178): both transceivers are read, port A before port B, which is also the order of their events when
both change (log 41). Nothing is read while NRST is low (log 8). -/
def execLinkStatusRead (upA upB : Bool) (s : State) : Host.Outcome State Fault Refusal :=
  run (fun t => if t.phase = .coldHeld then t else readLink .b upB (readLink .a upA t)) s

end Sys2Proof.Machine
end

