-- ==== Sys2Proof/Machine/Layouts.lean ====
section
/-!
DEFINITION. The octet layouts the part sends (R199, R200): the entry of each table, the Status Beacon body, the READ_SHEET
content and the Event Record entry.
-/

namespace Sys2Proof.Machine

/-- An absent quantity reads as 0 (R199). -/
def putSignedOr0 (x : Option Int) : Octets := putSigned (x.getD 0)

def putOr0 (put : Nat → Octets) (x : Option Nat) : Octets := put (x.getD 0)

/-- R199: a remaining time in milliseconds, 0 while its timer is idle. -/
def putTimer (t : Timer) : Octets := put32 (t.getD 0)

/-- R197: the code of an order kind held by Dispatch, 0xFF for none. -/
def heldKindCode : Option OrderKind → Nat
  | some k => codeIn orderKindsByCode k
  | none => 0xFF

/-! ## Table entries (R199) -/

def sourceEntry (e : SourceEntry) : Octets :=
  put16 e.publisher.toNat ++ put8 (codeIn rolesByCode e.role) ++ put8 e.target ++ [e.staleLimit] ++ putZeros 1 ++
    sourceFlags e ++ putZeros 1 ++ put16 ((e.lastSeq.map BitVec.toNat).getD 0) ++ putZeros 2 ++
    put32 ((e.lastArrival.map BitVec.toNat).getD 0) ++ putOr0 put32 e.f ++ putOr0 put16 e.u ++ putOr0 put16 e.press

/-- The genset configuration of a UNIT entry, octets 6 to 12. -/
def gensetConfigOctets (r : UnitRec) : Octets :=
  put8 r.minLoad ++ put8 r.startRank ++ [r.warmUp] ++ [r.cooldown] ++ put8 r.startProfile.val ++
    put8 r.breakerProfile.val ++ put8 r.stopProfile.val

/-- The second quantity of a UNIT entry, by kind. -/
def secondQuantity (r : UnitRec) : Octets :=
  match r.kind with
  | .genset => putOr0 put32 r.f
  | .pv => putSignedOr0 r.avail
  | .store => putSignedOr0 r.dis
  | .unused => put32 0

/-- The genset control fields of a UNIT entry, octets 32 to 43. -/
def gensetControlOctets (g : GensetControl) : Octets :=
  put8 (codeIn gensetStatesByCode g.state) ++ put8 g.startCause.code ++ put8 g.attempts ++ put8 g.lockout.code ++
    put8 (heldKindCode g.outstanding) ++ put8 (heldKindCode g.owed) ++ gensetFlags g ++ putZeros 1 ++ putTimer g.timer

/-- The PV fields of a UNIT entry, octets 44 to 52. -/
def pvOctets (p : PvControl) : Octets :=
  put16 p.mirror ++ putOr0 put16 p.lastSent ++ put32 ((p.mirrorExpiry.map BitVec.toNat).getD 0) ++ pvFlags p

/-- R199: fields that the record's kind does not have read as 0. A record of kind NONE reads out the breaker state, LOCAL and INHIBIT
that it holds (log 60). -/
def unitEntry (r : UnitRec) (fresh : Bool) : Octets :=
  put8 (codeIn unitKindsByCode r.kind) ++ put8 (codeIn modesByCode r.mode) ++ put16 r.device.toNat ++ put16 r.rated ++
    (if r.kind = .genset then gensetConfigOctets r else putZeros 7) ++
    put8 (if r.kind = .pv then r.limitProfile.val else 0) ++ putZeros 2 ++ unitFlags r (!fresh) ++
    put8 (codeIn breakersByCode r.breaker) ++ put8 (if r.kind = .genset then codeIn enginesByCode r.engine else 0) ++ putZeros 1 ++ putSignedOr0 r.p ++
    secondQuantity r ++ putSignedOr0 r.chg ++
    (if r.kind = .genset then gensetControlOctets r.genset else putZeros 12) ++
    (if r.kind = .pv then pvOctets r.pv else putZeros 9) ++ putZeros 3

def feederEntry (r : FeederRec) (fresh : Bool) : Octets :=
  put8 r.used.toNat ++ put8 (codeIn modesByCode r.mode) ++ put16 r.device.toNat ++ put8 r.profile.val ++ putZeros 3 ++
    feederFlags r (!fresh) ++ put8 (codeIn breakersByCode r.breaker) ++ put8 (codeIn feederOwnersByCode r.owner) ++
    putZeros 1 ++ putSignedOr0 r.p ++ putOr0 put32 r.shedLoad ++ putTimer r.holdOff

def profileEntry (p : Profile) : Octets :=
  [p.setup, p.pulse, p.cycle, p.holdOff] ++ put8 p.attempts ++ [p.inhibitLimit] ++
    put8 (codeIn waitModesByCode p.waitMode) ++ putZeros 1

/-- Octet 1 holds the stage as it is numbered in the manual, 1 … 8. An unused entry holds no other field (R124), and they
read as 0. -/
def shedEntry (e : ShedEntry) : Octets :=
  match e.feeder with
  | none => put8 0xFF ++ putZeros 3
  | some f => put8 f.val ++ put8 (e.stage.val + 1) ++ putFlags [e.deficit] ++ put8 (codeIn shedConditionsByCode e.condition)

def programEntry (r : StepRec) : Octets :=
  put8 (codeIn stepKindsByCode r.kind) ++ put8 (codeIn onFailsByCode r.onFail) ++ put16 r.operand ++ [r.time] ++ putZeros 3

/-- R199: a frequency of a bank is carried as its excess over 30,000 mHz. -/
def putBankFreq (f : Nat) : Octets := put16 (f - 30000)

def bankEntry (b : Bank) : Octets :=
  b.threshold.toList.flatMap putBankFreq ++ b.delay.toList ++ put16 b.hysteresis ++ putBankFreq b.restoreFreq ++
    [b.restoreDelay, b.stepInterval] ++ put16 b.restoreMargin ++ put16 b.deficitTrigger ++ putBankFreq b.deficitArming ++
    put8 b.inertia ++ put8 b.window ++ put16 b.baseReserve ++ put16 b.coverFactor ++ put16 b.startMargin ++
    put16 b.stopMargin ++ [b.stopDelay, b.dispatchInterval, b.curtailInterval] ++ put16 b.rampStep ++ put16 b.deadband ++
    putBankFreq b.fOfc ++ putBankFreq b.fMax ++ [b.mirrorLife] ++ put16 b.deadBusVoltage ++ [b.deadBusTime] ++ putZeros 3

def settingsEntry (x : Settings) (fNom : Nat) : Octets :=
  put16 x.ownId.toNat ++ put16 x.etherType.toNat ++ [x.beacon] ++ put8 x.queueOffset ++ put8 x.eventOffset ++ putZeros 1 ++
    put16 x.airReady ++ put32 fNom ++ putZeros 2

def managerEntry (m : Manager) : Octets :=
  put16 m.id.toNat ++ putFlags [m.lastSeq.isSome] ++ putZeros 1 ++ put16 ((m.lastSeq.map BitVec.toNat).getD 0) ++ putZeros 2

/-- R186: the entry of a table as it stands, none for an index beyond the table. -/
def readEntryOctets (s : State) (t : TableId) (i : Nat) : Option Octets :=
  match t with
  | .source => (index? 64 i).map fun k => sourceEntry s.sources[k]
  | .unit => (index? 16 i).map fun k => unitEntry s.units[k] (s.unitFresh k)
  | .feeder => (index? 32 i).map fun k => feederEntry s.feeders[k] (s.feederFresh k)
  | .profile => (index? 16 i).map fun k => profileEntry s.profiles[k]
  | .shed => (index? 32 i).map fun k => shedEntry s.shed.table[k]
  | .program => (index? 48 i).map fun k => programEntry s.seq.program[k]
  | .bank => (index? 4 i).map fun k => bankEntry s.banks[k]
  | .settings => if i = 0 then some (settingsEntry s.settings s.fNom) else none
  | .managers => (index? 4 i).map fun k => managerEntry s.managers[k]

/-! ## Status Beacon, READ_SHEET and events (R200) -/

/-- R200: the set of stages, bit n − 1 for stage n. -/
def putStages (p : Fin 8 → Bool) : Octets := putFlags ((List.finRange 8).map p)

def beaconBody (s : State) : Octets :=
  let b := s.sheet
  put32 s.partTime.toNat ++ put8 s.activeBank.val ++ beaconFlags s ++ putStages (fun i => s.shed.latches[i]) ++
    putStages (fun i => s.shed.stageTimers[i].isSome) ++
    [b.l, b.gd, b.gpv, b.gb, b.cd, b.res, b.req, b.margin].flatMap putSigned ++ putOr0 put32 b.freq ++
    putSignedOr0 b.rocof ++ put8 s.shed.stack.length ++ put8 (codeIn seqStatesByCode s.seq.state) ++
    put8 s.seq.position.val ++ put8 s.orders.queue.length ++ put8 s.orders.tracker.length ++ putZeros 1 ++
    put16 s.record.unread

def putCounter (c : Counter) : Octets := put32 c.toNat

/-- R189, R200: one port in the READ_SHEET content. -/
def portOctets (p : PortState) : Octets :=
  put8 p.link.toNat ++ putZeros 3 ++ [p.forwarded, p.forwardDrops, p.ownDrops, p.malformed].flatMap putCounter

def sheetContent (s : State) : Octets :=
  let b := s.sheet
  let c := s.orders.counters
  [b.l, b.gd, b.cd, b.dmin, b.gpv, b.gb, b.q, b.chgSum, b.res, b.req, b.margin, b.exp].flatMap putSigned ++
    putOr0 put32 b.freq ++ putSignedOr0 b.rocof ++ sheetFlags s ++ put8 s.activeBank.val ++
    put8 s.orders.queue.length ++ put8 s.orders.tracker.length ++
    [c.accepted, c.sent, c.confirmed, c.refused, c.timedOut, c.inhibited, c.superseded, c.cancelled, c.dropped].flatMap
      putCounter ++
    put8 (codeIn seqStatesByCode s.seq.state) ++ put8 s.seq.position.val ++ put8 s.seq.stack.length ++ putZeros 1 ++
    portOctets s.portA ++ portOctets s.portB

def eventOctets (e : Event) : Octets :=
  put32 e.seq.toNat ++ put32 e.time.toNat ++ put8 e.kind.code ++
    put8 ((e.subject.map fun x => x.table.code).getD 0) ++ put8 ((e.subject.map Subject.index).getD 0) ++ put8 e.detail ++
    putSigned e.value

end Sys2Proof.Machine
end

