-- ==== Sys2Proof/Machine/Tables.lean ====
section
/-!
DEFINITION. Writing the tables (R4, R44, R54, R78, R120, R123, R125, R148, R183, R184, R186, R199): for each table the
entry read from the octets of a write, the checks in their order, and what a taken write does.
-/

namespace Sys2Proof.Machine

/-- R199: the entry length of each table. -/
def entryLength : TableId → Nat
  | .source => 24
  | .unit => 56
  | .feeder => 24
  | .profile => 8
  | .shed => 4
  | .program => 8
  | .bank => 64
  | .settings => 16
  | .managers => 8

/-- A taken write is logged with the table and index as subject and the manager's station ID as value (R186). -/
def logWrite (t : TableId) (i : Nat) (by_ : StationId) (s : State) : State :=
  s.log .tableWrite (some { table := t, index := i }) by_.toNat detailNone

/-- The first check that fails gives the status (R4, R44, R54, R125, R148, R184, R186). -/
def firstFailure : List (Bool × Status) → Status
  | [] => .ok
  | (passes, status) :: rest => if passes then firstFailure rest else status

/-- A write as its checks answer it: the status, and the state changed when it is OK. -/
def taken (checks : List (Bool × Status)) (act : State → State) (s : State) : State × Status :=
  match firstFailure checks with
  | .ok => (act s, .ok)
  | status => (s, status)

/-! ## SOURCE (R4) -/

/-- R199: a SOURCE entry read from a write; none for a role code that names no role. A target index belongs to UNIT and
FEEDER alone (R3). -/
def sourceFrom (o : Octets) : Option SourceEntry :=
  (ofCode rolesByCode (read8 o 2)).map fun role =>
    { publisher := BitVec.ofNat 16 (read16 o 0), role := role, staleLimit := octet o 4,
      target := match role with
        | .unit | .feeder => read8 o 3
        | _ => 0 }

/-- The used entries other than this one. -/
def otherSources (s : State) (i : Fin 64) : List SourceEntry :=
  ((List.finRange 64).filter fun j => j ≠ i).map (fun j => s.sources[j]) |>.filter SourceEntry.used

/-- R4: the checks of a SOURCE entry that is not a clearing one. R4 gives its cases no order; the model takes them in the order
of its table, so of two that fail the first there gives the status (log 42). -/
def sourceChecks (s : State) (i : Fin 64) (e : SourceEntry) : List (Bool × Status) :=
  let others := otherSources s i
  let sameTarget := others.any fun x => x.role = e.role && x.target = e.target
  [ (e.publisher ≠ 0xFFFF, .badContent),
    ((e.role ≠ .unit || e.target ≤ 15) && (e.role ≠ .feeder || e.target ≤ 31), .badContent),
    (!others.any fun x => x.publisher = e.publisher, .duplicate),
    (!((e.role = .unit || e.role = .feeder) && sameTarget), .duplicate),
    (!(e.role = .reference && 2 ≤ (others.filter fun x => x.role = .reference).length), .badContent) ]

/-- R4, R11, R18, R20: a taken SOURCE write starts the entry afresh, logs STALE for one that was FRESH, and is handed on.
TABLE_WRITE stands before STALE (log 53). -/
def replaceSource (i : Fin 64) (e : SourceEntry) (by_ : StationId) (s : State) : State :=
  let old := s.sources[i]
  let logged := logWrite .source i.val by_ (s.modSource i fun _ => e)
  let stale := if old.fresh && old.role ≠ .gateway then logged.log .stale (sourceSubject i) old.eventValue detailNone
    else logged
  let chosen := chooseSource (recompute stale)
  let changed := s.primaryRef ≠ chosen.primaryRef
  if changed || s.primaryRef = some i then chosen.post [.deadBusTest changed] else chosen

def writeSourceEntry (i : Nat) (o : Octets) (by_ : StationId) (s : State) : State × Status :=
  match index? 64 i with
  | none => (s, .badIndex)
  | some k =>
    if read16 o 0 = 0 then (replaceSource k {} by_ s, .ok)
    else match sourceFrom o with
      | none => (s, .badContent)
      | some e => taken (sourceChecks s k e) (replaceSource k e by_) s

/-! ## Device station IDs (R15, R186) -/

/-- R15: the station ID names no used record other than this one. -/
def deviceFree (s : State) (t : Target) (id : StationId) : Bool :=
  id = 0 ||
    (!((List.finRange 16).any fun u => t ≠ .unit u && s.units[u].used && s.units[u].device = id) &&
     !((List.finRange 32).any fun f => t ≠ .feeder f && s.feeders[f].used && s.feeders[f].device = id))

/-- R59, R187: a mode set to AUTO withdraws every queued OPERATOR order for the record. For a unit that is done before Dispatch
or Curtailment takes the mode (log 47). -/
def withdrawOperator (t : Target) (mode : Mode) (s : State) : State :=
  if mode = .auto then withdraw [.operator] t none s else s

/-! ## UNIT (R78, R120, R186) -/

/-- R186: the configuration of a UNIT write lies within its ranges. -/
def unitContentOk (kind : UnitKind) (o : Octets) : Bool :=
  match kind with
  | .unused => true
  | _ =>
    read8 o 1 < 2 && read16 o 4 ≠ 0 &&
    (kind ≠ .genset || (read8 o 6 ≤ 80 && 1 ≤ read8 o 7 && read8 o 7 ≤ 16 && read8 o 10 < 16 && read8 o 11 < 16 &&
      read8 o 12 < 16)) &&
    (kind ≠ .pv || read8 o 13 < 16)

/-- A profile index of an entry. -/
def profileIndex (o : Octets) (i : Nat) : Fin 16 := Fin.ofNat 16 (read8 o i)

/-- R199: the configuration fields of a used unit record, read from a write; those of other kinds are 0. -/
def unitConfig (kind : UnitKind) (o : Octets) (r : UnitRec) : UnitRec :=
  let base := { r with kind := kind, mode := (ofCode modesByCode (read8 o 1)).getD .auto, device := BitVec.ofNat 16 (read16 o 2),
                       rated := read16 o 4, minLoad := 0, startRank := 0, warmUp := 0, cooldown := 0, startProfile := 0,
                       breakerProfile := 0, stopProfile := 0, limitProfile := 0 }
  match kind with
  | .genset => { base with minLoad := read8 o 6, startRank := read8 o 7, warmUp := octet o 8, cooldown := octet o 9,
                           startProfile := profileIndex o 10, breakerProfile := profileIndex o 11,
                           stopProfile := profileIndex o 12 }
  | .pv => { base with limitProfile := profileIndex o 13 }
  | .store => base
  | .unused => { base with mode := .auto, device := 0, rated := 0 }

/-- R78: the genset control fields after a taken write. -/
def gensetAfterWrite (old new : UnitRec) : GensetControl :=
  if new.kind ≠ .genset then {}
  else if old.kind = .genset && (old.device = new.device || old.genset.state = .lockedOut) then old.genset
  else
    let g := if old.kind = .genset then old.genset else {}
    { g with state := if new.mode = .manual then .unavailable else .unknown, attempts := 0, startCause := .absent,
             lockout := .absent, timer := none }

/-- R120: the PV fields after a taken write. -/
def pvAfterWrite (old new : UnitRec) : PvControl :=
  if new.kind ≠ .pv || old.kind ≠ .pv then {}
  else
    let p := old.pv
    let moved := if old.device ≠ new.device then { p with mirrorValid := false, mirrorExpiry := none } else p
    let rated := if old.rated ≠ new.rated then { moved with mirror := min moved.mirror new.rated } else moved
    if old.device ≠ new.device || old.rated ≠ new.rated || (old.mode ≠ new.mode && (new.mode = .manual || new.device ≠ 0))
    then { rated with lastSent := none,
                      outOfStep := rated.outOfStep && old.device = new.device && old.rated = new.rated && new.mode ≠ .manual }
    else rated

/-- R11, R15, R78, R120: the whole record after a taken write. Engine state and UNLOADED are a genset's alone (R16); a record
that stops being one drops them (log 13). Breaker state, LOCAL and INHIBIT stay, also in a record written as kind NONE (log 60). -/
def unitAfterWrite (kind : UnitKind) (o : Octets) (old : UnitRec) : UnitRec :=
  let cfg := unitConfig kind o old
  let measured := if old.kind ≠ kind || kind = .unused then
      { cfg with p := none, f := none, avail := none, dis := none, chg := none, clamped := false } else cfg
  { measured with
    engine := if kind = .genset then old.engine else .absent
    unloaded := kind = .genset && old.unloaded
    lastPos := if old.device ≠ cfg.device || kind = .unused then none else old.lastPos
    genset := gensetAfterWrite old cfg
    pv := pvAfterWrite old cfg }

/-- R78, R102: what a taken write hands to the Crank Arbiter and the Sequencer for a record that was a genset. A grant withdrawn
here starts the hold-off of the start profile as the write leaves it, profile 0 in a record that is no genset any more
(log 38). -/
def dropGenset (u : Fin 16) (old : UnitRec) (stays : Bool) (s : State) : State :=
  if old.kind ≠ .genset then s else
    let withdrawn := withdrawCrank (fun _ => true) u s
    if !stays && old.genset.want then withdrawn.post [.startAnswer u false] else withdrawn

/-- R119, R120: what a taken write does to the queue for a PV plant. -/
def plantQueue (u : Fin 16) (old : UnitRec) (s : State) : State :=
  if s.units[u].kind ≠ .pv then s
  else
    let lowered := if s.units[u].rated < old.rated then lowerQueued u s else s
    withdrawLimits u lowered

/-- The Dispatch state of a record that is a genset. -/
def UnitRec.gensetState (r : UnitRec) : Option GensetState := if r.kind = .genset then some r.genset.state else none

/-- R97: the stop timer's conditions are tested at a UNIT write whose record is a genset in another state than before it, or none
before it (log 48). -/
def writtenStateTest (old new : UnitRec) (s : State) : State :=
  if new.kind = .genset && old.gensetState ≠ new.gensetState then s.post [.stopTest] else s

/-- R78, R120, R186: a taken UNIT write. The OPERATOR orders that AUTO withdraws end before Dispatch takes the mode (log 47). -/
def replaceUnit (u : Fin 16) (kind : UnitKind) (o : Octets) (by_ : StationId) (s : State) : State :=
  let old := s.units[u]
  let new := unitAfterWrite kind o old
  let logged := logWrite .unit u.val by_ (s.modUnit u fun _ => new)
  let released := if old.kind ≠ new.kind || old.device ≠ new.device || kind = .unused then releaseTarget (.unit u) logged
    else logged
  let dropped := dropGenset u old (kind = .genset) released
  let freed := if new.used then withdrawOperator (.unit u) new.mode dropped else dropped
  let chosen := chooseSource (recompute freed)
  let moded := if kind = .genset then gensetMode u chosen else chosen
  writtenStateTest old new (plantQueue u old moded)

/-- R78, R186: the checks of a UNIT write after its index and kind. -/
def unitChecks (s : State) (u : Fin 16) (kind : UnitKind) (o : Octets) : List (Bool × Status) :=
  let old := s.units[u]
  let device := BitVec.ofNat 16 (read16 o 2)
  [ (unitContentOk kind o, .badContent),
    (device ≠ 0xFFFF, .badContent),
    (deviceFree s (.unit u) device, .duplicate),
    (old.kind ≠ .genset || old.genset.state = .stopped || old.genset.state = .unavailable || old.genset.state = .lockedOut,
      .refusedState) ]

def writeUnitEntry (i : Nat) (o : Octets) (by_ : StationId) (s : State) : State × Status :=
  match index? 16 i with
  | none => (s, .badIndex)
  | some u =>
    match ofCode unitKindsByCode (read8 o 0) with
    | none => (s, .badContent)
    | some kind => taken (unitChecks s u kind o) (replaceUnit u kind o by_) s

/-! ## FEEDER (R123, R186) -/

/-- R11, R15, R123: the whole record after a taken write, its owner and shed-time load apart. A write that sets AUTO clears FAILED,
also where it changes the device station ID (log 51). -/
def feederAfterWrite (used : Bool) (o : Octets) (old : FeederRec) : FeederRec :=
  if used then
    let device := BitVec.ofNat 16 (read16 o 2)
    let mode := (ofCode modesByCode (read8 o 1)).getD .auto
    { old with used := true, mode := mode, device := device, profile := profileIndex o 4,
               lastPos := if old.device ≠ device then none else old.lastPos,
               failed := old.failed && mode ≠ .auto }
  else
    { old with used := false, mode := .auto, device := 0, profile := 0, lastPos := none, failed := false,
               p := none, clamped := false }

/-- R123: a TRIP of Shedding for the feeder. -/
def Order.isShedTrip (o : Order) (f : Fin 32) : Bool :=
  o.target = .feeder f && o.kind = .trip && (o.cause = .stageShed || o.cause = .deficitShed)

/-- R59, R123: what a FEEDER write that rewrites the record hands on: the CANCELLED of a queued shed TRIP is taken first, then
what is left of the feeder leaves the stack and, where the write says so, the Sequencer, and only then is the end of each of
its other orders taken. A TRIP of the Sequencer is therefore judged after owner SEQUENCER has become NONE (log 40). The orders that
are cancelled are those that wait when the write is taken: a TRIP that the make-up walk submits for the rewritten feeder itself is
none of them, and runs on while its stack entry is removed (log 45). -/
def rewriteFeeder (f : Fin 32) (dropSequencer : Bool) (s : State) : State :=
  let tripped := cancelWhere (fun o => o.isShedTrip f) false (idleTarget (.feeder f) s)
  cancelTarget (.feeder f) (tripped.post [.feederRewritten f dropSequencer])

/-- R59, R123, R186: a taken FEEDER write. The sheet is formed again after the feeder has been taken from the jobs, so that no
restore test comes between. -/
def replaceFeeder (f : Fin 32) (used : Bool) (o : Octets) (by_ : StationId) (s : State) : State :=
  let old := s.feeders[f]
  let new := feederAfterWrite used o old
  let logged := logWrite .feeder f.val by_ (s.modFeeder f fun _ => new)
  let freed := if used then withdrawOperator (.feeder f) new.mode logged else logged
  if old.device ≠ new.device || !used then recompute (rewriteFeeder f (new.device = 0 || !used) freed)
  else feederMode f (recompute freed)

/-- R186, R199: the checks of a FEEDER write after its index. -/
def feederChecks (s : State) (f : Fin 32) (o : Octets) : List (Bool × Status) :=
  let device := BitVec.ofNat 16 (read16 o 2)
  [ (read8 o 0 < 2, .badContent),
    (read8 o 0 = 0 || (read8 o 1 < 2 && read8 o 4 < 16), .badContent),
    (device ≠ 0xFFFF, .badContent),
    (deviceFree s (.feeder f) device, .duplicate) ]

def writeFeederEntry (i : Nat) (o : Octets) (by_ : StationId) (s : State) : State × Status :=
  match index? 32 i with
  | none => (s, .badIndex)
  | some f => taken (feederChecks s f o) (replaceFeeder f (read8 o 0 = 1) o by_) s

/-! ## PROFILE (R54) -/

def profileFrom (o : Octets) : Profile :=
  { setup := octet o 0, pulse := octet o 1, cycle := octet o 2, holdOff := octet o 3, attempts := read8 o 4,
    inhibitLimit := octet o 5, waitMode := (ofCode waitModesByCode (read8 o 6)).getD .plain }

def writeProfileEntry (i : Nat) (o : Octets) (by_ : StationId) (s : State) : State × Status :=
  match index? 16 i with
  | none => (s, .badIndex)
  | some k =>
    taken [ (1 ≤ read8 o 4 && read8 o 4 ≤ 6 && read8 o 6 < 4, .badContent),
            (!s.orders.tracker.any fun x => x.order.profile = k, .busy) ]
      (fun t => logWrite .profile i by_ { t with profiles := t.profiles.set k (profileFrom o) }) s

/-! ## SHED (R125) -/

/-- R199: a SHED entry read from a write; a feeder octet of 0xFF clears it. -/
def shedFrom (o : Octets) : ShedEntry :=
  if read8 o 0 = 0xFF then {}
  else { feeder := some (Fin.ofNat 32 (read8 o 0)), stage := Fin.ofNat 8 (read8 o 1 - 1), deficit := (octet o 2).getLsbD 0,
         condition := (ofCode shedConditionsByCode (read8 o 3)).getD .plain }

/-- R125: a shed TRIP is in the Order Tracker. -/
def shedTripSent (s : State) : Bool := s.orders.tracker.any fun x =>
  x.order.kind = .trip && (x.order.cause = .stageShed || x.order.cause = .deficitShed)

def shedChecks (s : State) (k : Fin 32) (o : Octets) : List (Bool × Status) :=
  let clears := read8 o 0 = 0xFF
  let e := shedFrom o
  [ (clears || (read8 o 0 < 32 && 1 ≤ read8 o 1 && read8 o 1 ≤ 8 && read8 o 3 < 3), .badContent),
    (clears || !((List.finRange 32).any fun j => j ≠ k && s.shed.table[j].feeder.isSome && s.shed.table[j].feeder = e.feeder),
      .duplicate),
    (!(s.shed.stageTimers.toList.any Option.isSome) && !shedTripSent s, .busy) ]

def writeShedEntry (i : Nat) (o : Octets) (by_ : StationId) (s : State) : State × Status :=
  match index? 32 i with
  | none => (s, .badIndex)
  | some k =>
    taken (shedChecks s k o)
      (fun t => logWrite .shed i by_ (t.modShed fun x => { x with table := x.table.set k (shedFrom o), progress := none })) s

/-! ## PROGRAM (R148) -/

/-- R147: the operand lies in the range of its kind. -/
def operandOk (kind : StepKind) (operand : Nat) : Bool :=
  match kind with
  | .startGenset => operand ≤ 15
  | .closeFeeder => operand ≤ 31
  | .checkReserve => operand ≤ 65535
  | .selectBank => operand ≤ 3
  | _ => operand = 0

def writeProgramEntry (i : Nat) (o : Octets) (by_ : StationId) (s : State) : State × Status :=
  match index? 48 i with
  | none => (s, .badIndex)
  | some k =>
    match ofCode stepKindsByCode (read8 o 0), ofCode onFailsByCode (read8 o 1) with
    | some kind, some onFail =>
      taken [(operandOk kind (read16 o 2), .badContent), (!s.inRun, .busy)]
        (fun t => logWrite .program i by_ (t.modSeq fun q =>
          { q with program := q.program.set k ⟨kind, read16 o 2, octet o 4, onFail⟩ })) s
    | _, _ => (s, .badContent)

/-! ## BANK (R44, R45) -/

/-- R199: a frequency of a bank as it is carried. -/
def readBankFreq (o : Octets) (i : Nat) : Nat := read16 o i + 30000

/-- R199: a stage threshold as it is carried, 0 for a disabled stage. -/
def readThreshold (o : Octets) (i : Nat) : Nat := if read16 o i = 0 then 0 else readBankFreq o i

def bankFrom (o : Octets) : Bank where
  threshold      := mapIndexed (fun i _ => readThreshold o (2 * i.val)) (Vector.replicate 8 0)
  delay          := mapIndexed (fun i _ => octet o (16 + i.val)) (Vector.replicate 8 0)
  hysteresis     := read16 o 24
  restoreFreq    := readBankFreq o 26
  restoreDelay   := octet o 28
  stepInterval   := octet o 29
  restoreMargin  := read16 o 30
  deficitTrigger := read16 o 32
  deficitArming  := readBankFreq o 34
  inertia        := read8 o 36
  window         := read8 o 37
  baseReserve    := read16 o 38
  coverFactor    := read16 o 40
  startMargin    := read16 o 42
  stopMargin     := read16 o 44
  stopDelay      := octet o 46
  dispatchInterval := octet o 47
  curtailInterval  := octet o 48
  rampStep       := read16 o 49
  deadband       := read16 o 51
  fOfc           := readBankFreq o 53
  fMax           := readBankFreq o 55
  mirrorLife     := octet o 57
  deadBusVoltage := read16 o 58
  deadBusTime    := octet o 60

def writeBankEntry (i : Nat) (o : Octets) (by_ : StationId) (s : State) : State × Status :=
  match index? 4 i with
  | none => (s, .badIndex)
  | some k =>
    taken [(k ≠ s.activeBank, .activeBank), ((bankFrom o).valid, .badContent)]
      (fun t => logWrite .bank i by_ { t with banks := t.banks.set k (bankFrom o) }) s

/-! ## SETTINGS (R183) -/

def settingsFrom (o : Octets) : Settings :=
  { ownId := BitVec.ofNat 16 (read16 o 0), etherType := BitVec.ofNat 16 (read16 o 2), beacon := octet o 4,
    queueOffset := read8 o 5, eventOffset := read8 o 6, airReady := read16 o 8 }

/-- R183: every writable field lies within its range. -/
def Settings.valid (x : Settings) : Bool :=
  x.ownId ≠ 0xFFFF && 0x0600 ≤ x.etherType.toNat && 1 ≤ x.queueOffset && x.queueOffset ≤ 31 && 1 ≤ x.eventOffset &&
  x.eventOffset ≤ 255 && x.airReady ≤ 4000

/-- R183: a taken write replaces the fields but for the identity, which takes effect after the response, and hands each
changed field to its user. -/
def replaceSettings (new : Settings) (by_ : StationId) (s : State) : State :=
  let old := s.settings
  let kept := { new with ownId := old.ownId, etherType := old.etherType }
  let logged := logWrite .settings 0 by_ { s with settings := kept }
  let queue := if new.queueOffset ≠ old.queueOffset then testQueueHigh logged else logged
  let events := if new.eventOffset ≠ old.eventOffset then queue.testRecordHigh else queue
  if new.beacon ≠ old.beacon then { events with beaconTimer := timeOrSecond new.beacon } else events

def writeSettingsEntry (i : Nat) (o : Octets) (by_ : StationId) (s : State) : State × Status :=
  if i ≠ 0 then (s, .badIndex)
  else taken [((settingsFrom o).valid, .badContent)] (replaceSettings (settingsFrom o) by_) s

/-- R180, R183: the new identity takes effect once the response has been placed, and the old one is retired for 1 s. -/
def changeIdentity (ownId : StationId) (etherType : BitVec 16) (s : State) : State :=
  let out := { s with settings := { s.settings with ownId := ownId, etherType := etherType } }
  if out.ownId = s.ownId ∧ etherType = s.settings.etherType then out
  else { out with retired := some ⟨s.ownId, s.settings.etherType, Config.retiredLife⟩ }

/-! ## MANAGERS (R184) -/

/-- R184: a taken write; the open record becomes unused when an entry of the list is used. A write of the sender's own entry makes
the sequence of that very request absent, so its second copy is served again (log 54). -/
def replaceManager (k : Fin 4) (id by_ : StationId) (s : State) : State :=
  let out := logWrite .managers k.val by_ { s with managers := s.managers.set k { id := id } }
  if out.managers.toList.any fun m => m.id ≠ 0 then { out with openRecord := none } else out

def writeManagersEntry (i : Nat) (o : Octets) (by_ : StationId) (s : State) : State × Status :=
  match index? 4 i with
  | none => (s, .badIndex)
  | some k =>
    let id : StationId := BitVec.ofNat 16 (read16 o 0)
    taken [ (id ≠ 0xFFFF, .badContent),
            (id = 0 || !((List.finRange 4).any fun j => j ≠ k && s.managers[j].id = id), .duplicate) ]
      (replaceManager k id by_) s

end Sys2Proof.Machine
end

