-- ==== Sys2Proof/Machine/Requests.lean ====
section
/-!
DEFINITION. The Management Agent (R84, R149, R152, R164, R174, R175, R184 to R190, R198): admission of a request, what each
kind does and answers, the response, and the Status Beacon.
-/

namespace Sys2Proof.Machine

/-- R185: what takes effect once the response has been placed in the own queues. -/
inductive AfterEffect where
  | nothing
  | identity (ownId : StationId) (etherType : BitVec 16)
  | warmReset
  deriving DecidableEq, Repr

/-- What serving a request gives: the state, the status, the content of the response and what follows it. -/
structure Answer where
  state   : State
  status  : Status
  content : Octets := []
  after   : AfterEffect := .nothing

/-- An answer that changes nothing. -/
def refuse (s : State) (status : Status) : Answer := { state := s, status := status }

/-- An answer OK without content. -/
def accept (s : State) : Answer := { state := s, status := .ok }

/-! ## Admission (R184) -/

/-- R184: the list has no used entry. -/
def managersEmpty (s : State) : Bool := s.managers.toList.all fun m => m.id = 0

/-- R184, steps 1 to 3: the request is admitted and its sequence recorded, or dropped (none). -/
def admitRequest (r : Request) (s : State) : Option State :=
  if managersEmpty s then
    if s.openRecord = some ⟨r.sender, r.seq⟩ then none
    else some { s with openRecord := some ⟨r.sender, r.seq⟩ }
  else match findIndex s.managers fun m => m.id = r.sender with
    | none => none
    | some k =>
      if s.managers[k].lastSeq = some r.seq then none
      else some { s with managers := modifyAt s.managers k fun m => { m with lastSeq := some r.seq } }

/-! ## READ_ENTRY and WRITE_ENTRY (R186) -/

def serveReadEntry (r : Request) (s : State) : Answer :=
  match ofCodeFromOne tableIdsFromOne r.table with
  | none => refuse s .badTable
  | some t =>
    match readEntryOctets s t r.index with
    | none => refuse s .badIndex
    | some o => { accept s with content := o }

/-- The rule of each table (R186). -/
def writeEntry (t : TableId) (i : Nat) (o : Octets) (by_ : StationId) (s : State) : State × Status :=
  match t with
  | .source => writeSourceEntry i o by_ s
  | .unit => writeUnitEntry i o by_ s
  | .feeder => writeFeederEntry i o by_ s
  | .profile => writeProfileEntry i o by_ s
  | .shed => writeShedEntry i o by_ s
  | .program => writeProgramEntry i o by_ s
  | .bank => writeBankEntry i o by_ s
  | .settings => writeSettingsEntry i o by_ s
  | .managers => writeManagersEntry i o by_ s

/-- R183: the identity of a taken SETTINGS write takes effect after the response. -/
def afterWrite (t : TableId) (o : Octets) (status : Status) : AfterEffect :=
  if t = .settings && status = .ok then .identity (settingsFrom o).ownId (settingsFrom o).etherType else .nothing

def serveWriteEntry (r : Request) (s : State) : Answer :=
  match ofCodeFromOne tableIdsFromOne r.table with
  | none => refuse s .badTable
  | some t =>
    if r.content.length ≠ entryLength t then refuse s .badContent
    else
      let out := writeEntry t r.index r.content r.sender s
      { state := out.1, status := out.2, after := afterWrite t r.content out.2 }

/-! ## Sheet and events (R174, R175, R189) -/

def serveReadSheet (s : State) : Answer := { accept s with content := sheetContent s }

/-- R174: how many entries a READ_EVENTS returns. -/
def readCount (count unread : Nat) : Nat := min (min count Config.readEventsMost) unread

def serveReadEvents (r : Request) (s : State) : Answer :=
  let n := readCount r.count s.record.unread
  let from_ := s.record.entries.length - s.record.unread
  let returned := (s.record.entries.drop from_).take n
  let moved := { s with record := { s.record with unread := s.record.unread - n } }
  { accept moved.testRecordHigh with content := returned.flatMap eventOctets }

/-- R175: every retained entry becomes unread. -/
def serveRewindEvents (s : State) : Answer :=
  accept { s with record := { s.record with unread := s.record.entries.length } }.testRecordHigh

/-! ## Banks, modes and lockouts (R48, R84, R187) -/

def serveSelectBank (r : Request) (s : State) : Answer :=
  match index? 4 r.index with
  | none => refuse s .badIndex
  | some b => accept (selectBank b .request s)

/-- R187: a unit takes a mode; one that it already has is taken in the same way. The OPERATOR orders that AUTO withdraws end before
Dispatch or Curtailment takes the mode (log 47). -/
def setUnitMode (u : Fin 16) (mode : Mode) (s : State) : State :=
  let old := s.units[u]
  let summed := recompute (s.modUnit u fun r => { r with mode := mode })
  let freed := withdrawOperator (.unit u) mode summed
  match old.kind with
  | .genset => gensetMode u (if mode = .auto then operatorWithdraw u freed else freed)
  | .pv => pvMode u freed
  | _ => freed

/-- R187: a feeder takes a mode. -/
def setFeederMode (f : Fin 32) (mode : Mode) (s : State) : State :=
  let summed := recompute (s.modFeeder f fun r => { r with mode := mode })
  feederMode f (withdrawOperator (.feeder f) mode summed)

/-- R187: a record named by table and index: a unit or a feeder, or the status that refuses it. -/
def namedRecord (table index : Nat) : Except Status Target :=
  match ofCodeFromOne tableIdsFromOne table with
  | some .unit =>
    match index? 16 index with
    | some u => .ok (.unit u)
    | none => .error .badIndex
  | some .feeder =>
    match index? 32 index with
    | some f => .ok (.feeder f)
    | none => .error .badIndex
  | _ => .error .badTable

def State.recordUsed (s : State) : Target → Bool
  | .unit u => s.units[u].used
  | .feeder f => s.feeders[f].used

def State.recordMode (s : State) : Target → Mode
  | .unit u => s.units[u].mode
  | .feeder f => s.feeders[f].mode

/-- R187, R198. -/
def serveSetMode (r : Request) (s : State) : Answer :=
  match namedRecord r.table r.index with
  | .error status => refuse s status
  | .ok t =>
    if r.content.length < 1 then refuse s .badContent
    else match ofCode modesByCode (read8 r.content 0) with
      | none => refuse s .badContent
      | some mode =>
        if !s.recordUsed t then refuse s .refusedState
        else match t with
          | .unit u => accept (setUnitMode u mode s)
          | .feeder f => accept (setFeederMode f mode s)

def serveClearLockout (r : Request) (s : State) : Answer :=
  match index? 16 r.index with
  | none => refuse s .badIndex
  | some u => if s.inState u .lockedOut then accept (clearLockout u s) else refuse s .refusedState

/-! ## OPERATE (R104, R188) -/

/-- R55, R188: the order kinds that suit a record. -/
def suits (s : State) (t : Target) (kind : OrderKind) : Bool :=
  match t with
  | .feeder _ => kind = .trip || kind = .close
  | .unit u =>
    match s.units[u].kind with
    | .genset => kind = .close || kind = .opn || kind = .crank || kind = .unload || kind = .load || kind = .stop
    | .pv => kind = .limit
    | _ => false

/-- R188: the profile of an operator order. -/
def operateProfile (s : State) (t : Target) (kind : OrderKind) : Fin 16 :=
  match t with
  | .feeder f => s.feeders[f].profile
  | .unit u => if kind = .limit then s.units[u].limitProfile else s.units[u].profileFor kind

/-- R119, R188: the value of an operator order. -/
def operateValue (s : State) (t : Target) (kind : OrderKind) (value : Int) : Int :=
  match t with
  | .unit u => if kind = .limit then clamp 0 s.units[u].limitBound value else 0
  | .feeder _ => 0

/-- R188, step 4: a lockout or an UNKNOWN genset stands against the order. -/
def operateBarred (s : State) (t : Target) (kind : OrderKind) : Bool :=
  match t with
  | .unit u => s.inState u .unknown || (s.inState u .lockedOut && (kind = .crank || kind = .close))
  | .feeder _ => false

/-- R104: an OPERATE request for a CRANK. -/
def operateCrank (u : Fin 16) (value : Int) (s : State) : Answer :=
  if !s.inState u .unavailable || s.units[u].isLocal then refuse s .refusedState
  else if s.arbiter.present u then refuse s .busy
  else accept (s.post [.crankRequest { unit := u, cls := .operator, value := value }])

/-- R188: the order is submitted. -/
def operateSubmit (t : Target) (kind : OrderKind) (value : Int) (s : State) : Answer :=
  let o : Order := { target := t, device := 0, kind := kind, cls := .routine, value := operateValue s t kind value,
                     cause := .operator, profile := operateProfile s t kind }
  match submitRoutine o s with
  | (_, .full) => refuse s .busy
  | (out, _) => accept out

/-- R188, steps 2 to 4, for a request of this kind and value. R198 gives BAD_CONTENT for an order kind octet that names no value
(`kind` is none then) without a place among R188's checks; it is tested with step 3, so an unused record, one with no device and one
in AUTO answer REFUSED_STATE to it (log 64). -/
def operateRecord (t : Target) (kind : Option OrderKind) (value : Int) (s : State) : Answer :=
  if !s.recordUsed t || s.targetDevice t = 0 || s.recordMode t = .auto then refuse s .refusedState
  else match kind with
    | none => refuse s .badContent
    | some k =>
      if !suits s t k then refuse s .badContent
      else if operateBarred s t k then refuse s .refusedState
      else match k, t with
        | .crank, .unit u => operateCrank u value s
        | _, _ => operateSubmit t k value s

def serveOperate (r : Request) (s : State) : Answer :=
  match namedRecord r.table r.index with
  | .error status => refuse s status
  | .ok t =>
    if r.content.length < 8 then refuse s .badContent
    else operateRecord t (ofCode orderKindsByCode (read8 r.content 0)) (readSigned r.content 4) s

/-! ## The Sequencer's requests (R149, R152, R164) -/

def serveArm (on : Bool) (s : State) : Answer := if s.inRun then refuse s .refusedState else accept (setArmed on s)

def serveBeginRestore (s : State) : Answer :=
  if s.inRun || s.seq.program[(0 : Fin 48)].kind = .finish then refuse s .refusedState else accept (startRun .request s)

def serveHold (s : State) : Answer := if s.inRun then accept (suspendRun .operator s) else refuse s .refusedState

def serveResume (s : State) : Answer :=
  if s.seq.state ≠ .suspended then refuse s .refusedState
  else match s.seq.stack.getLast? with
    | some top => if top.cause = .operator then accept (popTop s) else refuse s .wrongResume
    | none => refuse s .refusedState

/-! ## Serving and answering (R185, R193) -/

/-- R185: the request kind is tested and acts. -/
def serve (r : Request) (s : State) : Answer :=
  match ofCodeFromOne requestKindsFromOne r.kind with
  | none => refuse s .badContent
  | some .readEntry => serveReadEntry r s
  | some .writeEntry => serveWriteEntry r s
  | some .readSheet => serveReadSheet s
  | some .readEvents => serveReadEvents r s
  | some .rewindEvents => serveRewindEvents s
  | some .selectBank => serveSelectBank r s
  | some .setMode => serveSetMode r s
  | some .operate => serveOperate r s
  | some .clearLockout => serveClearLockout r s
  | some .arm => serveArm true s
  | some .disarm => serveArm false s
  | some .beginRestore => serveBeginRestore s
  | some .hold => serveHold s
  | some .resume => serveResume s
  | some .warmReset => { accept s with after := .warmReset }

/-- R195: the body of a Management Response. -/
def responseBody (r : Request) (status : Status) (content : Octets) : Octets :=
  put16 r.seq.toNat ++ put8 (codeIn statusesByCode status) ++ putZeros 1 ++ content

/-- R185: what follows the response. -/
def takeAfter (a : AfterEffect) (manager : StationId) (s : State) : State :=
  match a with
  | .nothing => s
  | .identity ownId etherType => changeIdentity ownId etherType s
  | .warmReset => warmReset detailRequest manager s

/-- R184, R185: a request taken in. Its effects are taken whole, then the response is formed, then what follows it takes
effect. -/
def takeRequest (r : Request) (s : State) : State :=
  match admitRequest r s with
  | none => s
  | some admitted =>
    let a := serve r admitted
    let answered := formTelegram kindResponse r.sender (responseBody r a.status a.content) (settle a.state)
    takeAfter a.after r.sender answered

/-! ## The Status Beacon (R190) -/

/-- R190: the beacon timer expires, if it is due: it starts again, and a Status Beacon is formed for all stations. -/
def beaconExpires (s : State) : State :=
  if s.beaconTimer = 0 then
    let timed := { s with beaconTimer := timeOrSecond s.settings.beacon }
    formTelegram kindBeacon 0xFFFF (beaconBody timed) timed
  else s

end Sys2Proof.Machine
end

