-- ==== Sys2Proof/Machine/Reception.lean ====
section
/-!
DEFINITION. A frame arrives at a port (R178 to R181), and the commands that are the arrival of a frame. The rows of the
table name what the frame turns out to be; the part finds that out from the frame's own octets, so every one of these
commands hands its frame to `receive` (log 6).
-/

namespace Sys2Proof.Machine

/-- R180: the frame is removed on arrival, as the part's own or as its retired identity's. -/
def removed (s : State) (f : Frame) : Bool :=
  let sender := senderOf f.payload
  (f.etherType = s.settings.etherType && sender = some s.ownId) ||
    s.retired.any fun r => f.etherType = r.etherType && sender = some r.id

/-- R181: a well-formed telegram is taken in by the block its kind belongs to. -/
def takeIn (t : Telegram) (s : State) : State :=
  if t.kind = kindSampleReport then takeSampleReport (sampleOf t) s
  else if t.kind = kindPositionReport then takePositionReport (positionOf t) s
  else if t.kind = kindSetpointOrder then takeSetpoint t s
  else if t.kind = kindRequest && t.dest = s.ownId then takeRequest (requestOf t) s
  else s

/-- R181: a telegram failing the checks is counted as malformed by the port it arrived on, and forwarded. -/
def malformed (p : Port) (f : Frame) (s : State) : State :=
  forward p f (s.modPort p fun q => { q with malformed := q.malformed + 1 })

/-- R178 to R181, R192: a frame with a right check sequence has arrived. While WRST is low it is forwarded or removed as
usual and not taken in. -/
def receive (p : Port) (f : Frame) (s : State) : State :=
  if s.phase = .coldHeld || !(s.port p).link || removed s f then s
  else if f.etherType ≠ s.settings.etherType then forward p f s
  else match parseTelegram f.payload with
    | none => malformed p f s
    | some t =>
      let passed := if t.dest = s.ownId then s else forward p f s
      if s.phase = .running then takeIn t passed else passed

/-- BAD_FCS_FRAME (R179): the frame is discarded without being forwarded or counted. -/
def execBadFcsFrame (_port : Port) (_frame : Frame) (s : State) : Host.Outcome State Fault Refusal := run (fun t => t) s

/-- FRAME_TRANSMIT (R179): a free port transmits one frame; none leaves while NRST is low (R191). -/
def execFrameTransmit (port : Port) (s : State) : Host.Outcome State Fault Refusal :=
  run (fun t => if t.phase = .coldHeld then t else t.modPort port PortState.transmit) s

/-- FORWARD_FRAME (R179): a good frame of another EtherType is forwarded. -/
def execForwardFrame (port : Port) (frame : Frame) (s : State) : Host.Outcome State Fault Refusal := run (receive port frame) s

/-- REMOVE_OWN_TELEGRAM (R180): a telegram of the part's own, or of its retired identity, is removed. -/
def execRemoveOwnTelegram (port : Port) (frame : Frame) (s : State) : Host.Outcome State Fault Refusal := run (receive port frame) s

/-- MALFORMED_TELEGRAM (R181): the telegram is forwarded and counted, and not taken in. -/
def execMalformedTelegram (port : Port) (frame : Frame) (s : State) : Host.Outcome State Fault Refusal := run (receive port frame) s

/-- FORWARD_TELEGRAM (R181): a well-formed telegram that no block takes in is forwarded. -/
def execForwardTelegram (port : Port) (frame : Frame) (s : State) : Host.Outcome State Fault Refusal := run (receive port frame) s

/-- SAMPLE_REPORT (R5 to R10): forwarded, and taken in by Sample Intake. -/
def execSampleReport (port : Port) (frame : Frame) (s : State) : Host.Outcome State Fault Refusal := run (receive port frame) s

/-- POSITION_REPORT (R15 to R17): forwarded, and taken in by Sample Intake. -/
def execPositionReport (port : Port) (frame : Frame) (s : State) : Host.Outcome State Fault Refusal := run (receive port frame) s

/-- SETPOINT_ORDER (R14): forwarded, and taken in by Sample Intake. -/
def execSetpointOrder (port : Port) (frame : Frame) (s : State) : Host.Outcome State Fault Refusal := run (receive port frame) s

/-- READ_ENTRY (R186): taken in by the Management Agent when addressed to the part. -/
def execReadEntry (port : Port) (frame : Frame) (s : State) : Host.Outcome State Fault Refusal := run (receive port frame) s

/-- WRITE_ENTRY_SOURCE (R4). -/
def execWriteEntrySource (port : Port) (frame : Frame) (s : State) : Host.Outcome State Fault Refusal := run (receive port frame) s

/-- WRITE_ENTRY_UNIT (R78, R120, R186). -/
def execWriteEntryUnit (port : Port) (frame : Frame) (s : State) : Host.Outcome State Fault Refusal := run (receive port frame) s

/-- WRITE_ENTRY_FEEDER (R123, R186). -/
def execWriteEntryFeeder (port : Port) (frame : Frame) (s : State) : Host.Outcome State Fault Refusal := run (receive port frame) s

/-- WRITE_ENTRY_PROFILE (R54). -/
def execWriteEntryProfile (port : Port) (frame : Frame) (s : State) : Host.Outcome State Fault Refusal := run (receive port frame) s

/-- WRITE_ENTRY_SHED (R125). -/
def execWriteEntryShed (port : Port) (frame : Frame) (s : State) : Host.Outcome State Fault Refusal := run (receive port frame) s

/-- WRITE_ENTRY_PROGRAM (R148). -/
def execWriteEntryProgram (port : Port) (frame : Frame) (s : State) : Host.Outcome State Fault Refusal := run (receive port frame) s

/-- WRITE_ENTRY_BANK (R44, R45). -/
def execWriteEntryBank (port : Port) (frame : Frame) (s : State) : Host.Outcome State Fault Refusal := run (receive port frame) s

/-- WRITE_ENTRY_SETTINGS (R183). -/
def execWriteEntrySettings (port : Port) (frame : Frame) (s : State) : Host.Outcome State Fault Refusal := run (receive port frame) s

/-- WRITE_ENTRY_MANAGERS (R184). -/
def execWriteEntryManagers (port : Port) (frame : Frame) (s : State) : Host.Outcome State Fault Refusal := run (receive port frame) s

/-- READ_SHEET (R189). -/
def execReadSheet (port : Port) (frame : Frame) (s : State) : Host.Outcome State Fault Refusal := run (receive port frame) s

/-- READ_EVENTS (R174). -/
def execReadEvents (port : Port) (frame : Frame) (s : State) : Host.Outcome State Fault Refusal := run (receive port frame) s

/-- REWIND_EVENTS (R175). -/
def execRewindEvents (port : Port) (frame : Frame) (s : State) : Host.Outcome State Fault Refusal := run (receive port frame) s

/-- SELECT_BANK (R48). -/
def execSelectBank (port : Port) (frame : Frame) (s : State) : Host.Outcome State Fault Refusal := run (receive port frame) s

/-- SET_MODE (R187). -/
def execSetMode (port : Port) (frame : Frame) (s : State) : Host.Outcome State Fault Refusal := run (receive port frame) s

/-- OPERATE (R188). -/
def execOperate (port : Port) (frame : Frame) (s : State) : Host.Outcome State Fault Refusal := run (receive port frame) s

/-- OPERATE for a CRANK (R104, R188). -/
def execOperateCrank (port : Port) (frame : Frame) (s : State) : Host.Outcome State Fault Refusal := run (receive port frame) s

/-- CLEAR_LOCKOUT (R84). -/
def execClearLockout (port : Port) (frame : Frame) (s : State) : Host.Outcome State Fault Refusal := run (receive port frame) s

/-- ARM (R149). -/
def execArm (port : Port) (frame : Frame) (s : State) : Host.Outcome State Fault Refusal := run (receive port frame) s

/-- DISARM (R149). -/
def execDisarm (port : Port) (frame : Frame) (s : State) : Host.Outcome State Fault Refusal := run (receive port frame) s

/-- BEGIN_RESTORE (R152). -/
def execBeginRestore (port : Port) (frame : Frame) (s : State) : Host.Outcome State Fault Refusal := run (receive port frame) s

/-- HOLD (R164). -/
def execHold (port : Port) (frame : Frame) (s : State) : Host.Outcome State Fault Refusal := run (receive port frame) s

/-- RESUME (R164). -/
def execResume (port : Port) (frame : Frame) (s : State) : Host.Outcome State Fault Refusal := run (receive port frame) s

/-- WARM_RESET (R193). -/
def execWarmReset (port : Port) (frame : Frame) (s : State) : Host.Outcome State Fault Refusal := run (receive port frame) s

/-- UNKNOWN_REQUEST (R185): answered BAD_CONTENT. -/
def execUnknownRequest (port : Port) (frame : Frame) (s : State) : Host.Outcome State Fault Refusal := run (receive port frame) s

end Sys2Proof.Machine
end

