-- ==== Sys2Proof/Machine/Timers.lean ====
section
/-!
DEFINITION. Time. One tick is one millisecond of part time: every running timer counts down, and each that is due sends
its expiry command to the back of the queue (log 1, log 3). An expiry command acts when its timer is due at the moment it
is taken, so a timer that was restarted or stopped in between does not expire (log 2). While WRST is low every timer
stands but part time and the retired identity's second (R180, R192); while NRST is low nothing runs.
-/

namespace Sys2Proof.Machine

/-! ## The expiry commands -/

/-- STALE_TIMER_EXPIRY (R12). -/
def execStaleTimerExpiry (entry : Fin 64) (s : State) : Host.Outcome State Fault Refusal := runWhenUp (staleExpires entry) s

/-- DEADLINE_EXPIRY (R69). -/
def execDeadlineExpiry (tag : Octet) (s : State) : Host.Outcome State Fault Refusal := runWhenUp (deadlineExpires tag) s

/-- INHIBIT_TIMER_EXPIRY (R70). -/
def execInhibitTimerExpiry (tag : Octet) (s : State) : Host.Outcome State Fault Refusal := runWhenUp (inhibitExpires tag) s

/-- CYCLE_TIMER_EXPIRY (R64). -/
def execCycleTimerExpiry (target : Target) (s : State) : Host.Outcome State Fault Refusal := runWhenUp (cycleExpires target) s

/-- HOLD_OFF_EXPIRY (R65). -/
def execHoldOffExpiry (target : Target) (s : State) : Host.Outcome State Fault Refusal := runWhenUp (holdOffExpires target) s

/-- DISPATCH_TIMER_EXPIRY (R86). -/
def execDispatchTimerExpiry (s : State) : Host.Outcome State Fault Refusal := runWhenUp dispatchTimerExpires s

/-- AIR_HOLD_OFF_EXPIRY (R103). -/
def execAirHoldOffExpiry (s : State) : Host.Outcome State Fault Refusal := runWhenUp airHoldOffExpires s

/-- CRANK_REST_EXPIRY (R93). -/
def execCrankRestExpiry (unit : Fin 16) (s : State) : Host.Outcome State Fault Refusal := runWhenUp (stateTimerExpires .crankRest unit) s

/-- WARM_UP_EXPIRY (R94). -/
def execWarmUpExpiry (unit : Fin 16) (s : State) : Host.Outcome State Fault Refusal := runWhenUp (stateTimerExpires .warming unit) s

/-- STOP_TIMER_EXPIRY (R97). -/
def execStopTimerExpiry (s : State) : Host.Outcome State Fault Refusal := runWhenUp stopTimerExpires s

/-- COOLDOWN_EXPIRY (R99). -/
def execCooldownExpiry (unit : Fin 16) (s : State) : Host.Outcome State Fault Refusal := runWhenUp (stateTimerExpires .cooldown unit) s

/-- CURTAIL_TIMER_EXPIRY (R108). -/
def execCurtailTimerExpiry (s : State) : Host.Outcome State Fault Refusal := runWhenUp curtailTimerExpires s

/-- MIRROR_EXPIRY (R118). -/
def execMirrorExpiry (unit : Fin 16) (s : State) : Host.Outcome State Fault Refusal := runWhenUp (mirrorExpires unit) s

/-- STAGE_TIMER_EXPIRY (R132). -/
def execStageTimerExpiry (stage : Fin 8) (s : State) : Host.Outcome State Fault Refusal := runWhenUp (stageTimerExpires stage) s

/-- RESTORE_DELAY_EXPIRY (R139). -/
def execRestoreDelayExpiry (s : State) : Host.Outcome State Fault Refusal := runWhenUp restoreDelayExpires s

/-- STEP_INTERVAL_EXPIRY (R143). -/
def execStepIntervalExpiry (s : State) : Host.Outcome State Fault Refusal := runWhenUp stepIntervalExpires s

/-- DEAD_BUS_TIMER_EXPIRY (R150). -/
def execDeadBusTimerExpiry (s : State) : Host.Outcome State Fault Refusal := runWhenUp deadBusExpires s

/-- WAIT_TIME_EXPIRY (R158). -/
def execWaitTimeExpiry (s : State) : Host.Outcome State Fault Refusal := runWhenUp waitTimeExpires s

/-- STEP_TIMEOUT_EXPIRY (R160). -/
def execStepTimeoutExpiry (s : State) : Host.Outcome State Fault Refusal := runWhenUp stepTimeoutExpires s

/-- BEACON_TIMER_EXPIRY (R190). -/
def execBeaconTimerExpiry (s : State) : Host.Outcome State Fault Refusal := runWhenUp beaconExpires s

/-- R180: the retired identity is forgotten at the end of its second. -/
def forgetRetired (s : State) : State :=
  if s.retired.any fun r => r.left = 0 then { s with retired := none } else s

/-- RETIRED_IDENTITY_EXPIRY (R180). It belongs to the Ring Ports, which run on while WRST is low (R192). -/
def execRetiredIdentityExpiry (s : State) : Host.Outcome State Fault Refusal :=
  run (fun t => if t.phase = .coldHeld then t else forgetRetired t) s

/-! ## One millisecond -/

/-- A timer one millisecond later. -/
def countDown (t : Timer) : Timer := t.map fun n => n - 1

/-- One tracker slot one millisecond later: the deadline stands while the inhibit timer runs (R70). -/
def Slot.tick (x : Slot) : Slot :=
  match x.inhibit with
  | none => { x with deadline := x.deadline - 1 }
  | some n => { x with inhibit := some (n - 1) }

def UnitRec.tick (r : UnitRec) : UnitRec :=
  { r with cycle := countDown r.cycle, holdOff := countDown r.holdOff,
           genset := { r.genset with timer := countDown r.genset.timer } }

def FeederRec.tick (r : FeederRec) : FeederRec := { r with cycle := countDown r.cycle, holdOff := countDown r.holdOff }

def Barrier.tick : Barrier → Barrier
  | .stepping f owner n => .stepping f owner (n - 1)
  | other => other

def Shedding.tick (x : Shedding) : Shedding :=
  { x with stageTimers := mapTable countDown x.stageTimers, restoreDelay := countDown x.restoreDelay, barrier := x.barrier.tick }

/-- R162: the step timeout and the wait timer stand still while the Sequencer is SUSPENDED. -/
def Sequencer.tick (q : Sequencer) : Sequencer :=
  let timed := { q with deadBusTimer := countDown q.deadBusTimer }
  if q.state = .suspended then timed
  else { timed with stepTimeout := countDown q.stepTimeout,
                    progress := { q.progress with waitTimer := countDown q.progress.waitTimer } }

/-- The retired identity one millisecond later. -/
def tickRetired (s : State) : State := { s with retired := s.retired.map fun r => { r with left := r.left - 1 } }

/-- Every timer of the part one millisecond later. -/
def tickTimers (s : State) : State :=
  tickRetired { s with
    beaconTimer := s.beaconTimer - 1
    sources := mapTable (fun e => { e with staleTimer := countDown e.staleTimer }) s.sources
    units := mapTable UnitRec.tick s.units
    feeders := mapTable FeederRec.tick s.feeders
    orders := { s.orders with tracker := s.orders.tracker.map Slot.tick }
    dispatch := { s.dispatch with
      timer := s.dispatch.timer - 1
      stopTimer := s.dispatch.stopTimer.map fun t => { t with left := t.left - 1 } }
    arbiter := { s.arbiter with holdOff := countDown s.arbiter.holdOff }
    curtailTimer := s.curtailTimer - 1
    shed := s.shed.tick
    seq := s.seq.tick }

/-! ## Which timers are due -/

/-- One command if the timer is due. -/
def dueIf (due : Bool) (c : Instr) : List Instr := if due then [c] else []

/-- The expiry commands of the records' timers that are due, in the order of the table's rows. -/
def dueRecords (s : State) : List Instr :=
  let units := List.finRange 16
  let feeders := List.finRange 32
  ((List.finRange 64).flatMap fun i => dueIf (s.sources[i].staleTimer = some 0) (.staleTimerExpiry i)) ++
  (s.orders.tracker.flatMap fun x => dueIf (x.deadline = 0 && x.inhibit.isNone) (.deadlineExpiry x.tag)) ++
  (s.orders.tracker.flatMap fun x => dueIf (x.inhibit = some 0) (.inhibitTimerExpiry x.tag)) ++
  (units.flatMap fun u => dueIf (s.units[u].cycle = some 0) (.cycleTimerExpiry (.unit u))) ++
  (feeders.flatMap fun f => dueIf (s.feeders[f].cycle = some 0) (.cycleTimerExpiry (.feeder f))) ++
  (units.flatMap fun u => dueIf (s.units[u].holdOff = some 0) (.holdOffExpiry (.unit u))) ++
  (feeders.flatMap fun f => dueIf (s.feeders[f].holdOff = some 0) (.holdOffExpiry (.feeder f)))

/-- A genset's state timer is due in this state. -/
def stateTimerDue (s : State) (state : GensetState) (u : Fin 16) : Bool := s.inState u state && (s.genset u).timer = some 0

/-- The expiry commands of the jobs' timers that are due, in the order of the table's rows. -/
def dueJobs (s : State) : List Instr :=
  let units := List.finRange 16
  dueIf (s.dispatch.timer = 0) .dispatchTimerExpiry ++
  dueIf (s.arbiter.holdOff = some 0) .airHoldOffExpiry ++
  (units.flatMap fun u => dueIf (stateTimerDue s .crankRest u) (.crankRestExpiry u)) ++
  (units.flatMap fun u => dueIf (stateTimerDue s .warming u) (.warmUpExpiry u)) ++
  dueIf (s.dispatch.stopTimer.any fun t => t.left = 0) .stopTimerExpiry ++
  (units.flatMap fun u => dueIf (stateTimerDue s .cooldown u) (.cooldownExpiry u)) ++
  dueIf (s.curtailTimer = 0) .curtailTimerExpiry ++
  (units.flatMap fun u => dueIf (s.units[u].kind = .pv && mirrorDue s s.units[u].pv) (.mirrorExpiry u)) ++
  ((List.finRange 8).flatMap fun i => dueIf (s.shed.stageTimers[i] = some 0) (.stageTimerExpiry i)) ++
  dueIf (s.shed.restoreDelay = some 0) .restoreDelayExpiry ++
  dueIf (match s.shed.barrier with | .stepping _ _ 0 => true | _ => false) .stepIntervalExpiry ++
  dueIf (s.seq.deadBusTimer = some 0) .deadBusTimerExpiry ++
  dueIf (s.seq.state = .waiting && s.seq.progress.waitTimer = some 0) .waitTimeExpiry ++
  dueIf ((s.seq.state = .running || s.seq.state = .waiting) && s.seq.stepTimeout = some 0) .stepTimeoutExpiry ++
  dueIf (s.beaconTimer = 0) .beaconTimerExpiry

/-- The retired identity's expiry, if it is due. -/
def dueRetired (s : State) : List Instr := dueIf (s.retired.any fun r => r.left = 0) .retiredIdentityExpiry

/-- One millisecond of part time (log 1). -/
def tick (s : State) : State :=
  match s.phase with
  | .coldHeld => s
  | .warmHeld =>
    let out := tickRetired { s with partTime := s.partTime + 1 }
    { out with pending := out.pending ++ dueRetired out }
  | .running =>
    let out := tickTimers { s with partTime := s.partTime + 1 }
    { out with pending := out.pending ++ dueRecords out ++ dueJobs out ++ dueRetired out }

end Sys2Proof.Machine
end

