-- ==== Sys2Proof/Machine/Dispatch.lean ====
section
/-!
DEFINITION. Which meaning each command has: one arm per row of spec/opcode_table.json, in the table's order.
-/

namespace Sys2Proof.Machine

def exec (i : Instr) (s : State) : Host.Outcome State Fault Refusal :=
  match i with
  | .coldResetAssert => Sys2Proof.Machine.execColdResetAssert s
  | .coldResetRelease fsel sid => Sys2Proof.Machine.execColdResetRelease fsel sid s
  | .warmResetPinAssert => Sys2Proof.Machine.execWarmResetPinAssert s
  | .warmResetPinRelease => Sys2Proof.Machine.execWarmResetPinRelease s
  | .linkStatusRead upA upB => Sys2Proof.Machine.execLinkStatusRead upA upB s
  | .badFcsFrame port frame => Sys2Proof.Machine.execBadFcsFrame port frame s
  | .forwardFrame port frame => Sys2Proof.Machine.execForwardFrame port frame s
  | .frameTransmit port => Sys2Proof.Machine.execFrameTransmit port s
  | .removeOwnTelegram port frame => Sys2Proof.Machine.execRemoveOwnTelegram port frame s
  | .malformedTelegram port frame => Sys2Proof.Machine.execMalformedTelegram port frame s
  | .forwardTelegram port frame => Sys2Proof.Machine.execForwardTelegram port frame s
  | .sampleReport port frame => Sys2Proof.Machine.execSampleReport port frame s
  | .positionReport port frame => Sys2Proof.Machine.execPositionReport port frame s
  | .setpointOrder port frame => Sys2Proof.Machine.execSetpointOrder port frame s
  | .readEntry port frame => Sys2Proof.Machine.execReadEntry port frame s
  | .writeEntrySource port frame => Sys2Proof.Machine.execWriteEntrySource port frame s
  | .writeEntryUnit port frame => Sys2Proof.Machine.execWriteEntryUnit port frame s
  | .writeEntryFeeder port frame => Sys2Proof.Machine.execWriteEntryFeeder port frame s
  | .writeEntryProfile port frame => Sys2Proof.Machine.execWriteEntryProfile port frame s
  | .writeEntryShed port frame => Sys2Proof.Machine.execWriteEntryShed port frame s
  | .writeEntryProgram port frame => Sys2Proof.Machine.execWriteEntryProgram port frame s
  | .writeEntryBank port frame => Sys2Proof.Machine.execWriteEntryBank port frame s
  | .writeEntrySettings port frame => Sys2Proof.Machine.execWriteEntrySettings port frame s
  | .writeEntryManagers port frame => Sys2Proof.Machine.execWriteEntryManagers port frame s
  | .readSheet port frame => Sys2Proof.Machine.execReadSheet port frame s
  | .readEvents port frame => Sys2Proof.Machine.execReadEvents port frame s
  | .rewindEvents port frame => Sys2Proof.Machine.execRewindEvents port frame s
  | .selectBank port frame => Sys2Proof.Machine.execSelectBank port frame s
  | .setMode port frame => Sys2Proof.Machine.execSetMode port frame s
  | .operate port frame => Sys2Proof.Machine.execOperate port frame s
  | .operateCrank port frame => Sys2Proof.Machine.execOperateCrank port frame s
  | .clearLockout port frame => Sys2Proof.Machine.execClearLockout port frame s
  | .arm port frame => Sys2Proof.Machine.execArm port frame s
  | .disarm port frame => Sys2Proof.Machine.execDisarm port frame s
  | .beginRestore port frame => Sys2Proof.Machine.execBeginRestore port frame s
  | .hold port frame => Sys2Proof.Machine.execHold port frame s
  | .resume port frame => Sys2Proof.Machine.execResume port frame s
  | .warmReset port frame => Sys2Proof.Machine.execWarmReset port frame s
  | .unknownRequest port frame => Sys2Proof.Machine.execUnknownRequest port frame s
  | .staleTimerExpiry entry => Sys2Proof.Machine.execStaleTimerExpiry entry s
  | .deadlineExpiry tag => Sys2Proof.Machine.execDeadlineExpiry tag s
  | .inhibitTimerExpiry tag => Sys2Proof.Machine.execInhibitTimerExpiry tag s
  | .cycleTimerExpiry target => Sys2Proof.Machine.execCycleTimerExpiry target s
  | .holdOffExpiry target => Sys2Proof.Machine.execHoldOffExpiry target s
  | .dispatchTimerExpiry => Sys2Proof.Machine.execDispatchTimerExpiry s
  | .airHoldOffExpiry => Sys2Proof.Machine.execAirHoldOffExpiry s
  | .crankRestExpiry unit => Sys2Proof.Machine.execCrankRestExpiry unit s
  | .warmUpExpiry unit => Sys2Proof.Machine.execWarmUpExpiry unit s
  | .stopTimerExpiry => Sys2Proof.Machine.execStopTimerExpiry s
  | .cooldownExpiry unit => Sys2Proof.Machine.execCooldownExpiry unit s
  | .curtailTimerExpiry => Sys2Proof.Machine.execCurtailTimerExpiry s
  | .mirrorExpiry unit => Sys2Proof.Machine.execMirrorExpiry unit s
  | .stageTimerExpiry stage => Sys2Proof.Machine.execStageTimerExpiry stage s
  | .restoreDelayExpiry => Sys2Proof.Machine.execRestoreDelayExpiry s
  | .stepIntervalExpiry => Sys2Proof.Machine.execStepIntervalExpiry s
  | .deadBusTimerExpiry => Sys2Proof.Machine.execDeadBusTimerExpiry s
  | .waitTimeExpiry => Sys2Proof.Machine.execWaitTimeExpiry s
  | .stepTimeoutExpiry => Sys2Proof.Machine.execStepTimeoutExpiry s
  | .beaconTimerExpiry => Sys2Proof.Machine.execBeaconTimerExpiry s
  | .retiredIdentityExpiry => Sys2Proof.Machine.execRetiredIdentityExpiry s

end Sys2Proof.Machine
end

