-- ==== Sys2Proof/WellFormed.lean ====
section
/-!
DEFINITION. Which commands are well formed: a command that is the arrival of a frame carries a frame that is what the
command's row says it is, as far as the frame alone tells it (R181, R194 to R198), and a tag is one the part gives (R63).
What a frame is under the part's own EtherType and station ID depends on the state and is found when it is taken (log 6).
-/

namespace Sys2Proof

open Machine

/-- The frame is a well-formed telegram that passes a test. -/
def Frame.telegram (f : Frame) (test : Telegram → Bool) : Bool := (parseTelegram f.payload).any test

/-- The frame is a telegram of this kind. -/
def Frame.ofKind (f : Frame) (kind : Nat) : Bool := f.telegram fun t => t.kind = kind

/-- The frame is a Management Request of this kind that passes a test. -/
def Frame.request (f : Frame) (kind : RequestKind) (test : Request → Bool) : Bool :=
  f.telegram fun t => t.kind = kindRequest && ofCodeFromOne requestKindsFromOne (requestOf t).kind = some kind &&
    test (requestOf t)

/-- The frame is a WRITE_ENTRY on this table. -/
def Frame.writes (f : Frame) (table : TableId) : Bool := f.request .writeEntry fun r => r.table = table.code

/-- R63: tag 0 is never given. -/
def tagGiven (tag : Octet) : Bool := tag ≠ 0

/-- A well-formed command. -/
def Instr.wellFormed : Instr → Bool
  | .coldResetAssert => true
  | .coldResetRelease _ _ => true
  | .warmResetPinAssert => true
  | .warmResetPinRelease => true
  | .linkStatusRead _ _ => true
  | .badFcsFrame _ _ => true
  | .forwardFrame _ _ => true
  | .frameTransmit _ => true
  | .removeOwnTelegram _ f => (senderOf f.payload).isSome
  | .malformedTelegram _ f => (parseTelegram f.payload).isNone
  | .forwardTelegram _ f => (parseTelegram f.payload).isSome
  | .sampleReport _ f => f.ofKind kindSampleReport
  | .positionReport _ f => f.ofKind kindPositionReport
  | .setpointOrder _ f => f.ofKind kindSetpointOrder
  | .readEntry _ f => f.request .readEntry fun _ => true
  | .writeEntrySource _ f => f.writes .source
  | .writeEntryUnit _ f => f.writes .unit
  | .writeEntryFeeder _ f => f.writes .feeder
  | .writeEntryProfile _ f => f.writes .profile
  | .writeEntryShed _ f => f.writes .shed
  | .writeEntryProgram _ f => f.writes .program
  | .writeEntryBank _ f => f.writes .bank
  | .writeEntrySettings _ f => f.writes .settings
  | .writeEntryManagers _ f => f.writes .managers
  | .readSheet _ f => f.request .readSheet fun _ => true
  | .readEvents _ f => f.request .readEvents fun _ => true
  | .rewindEvents _ f => f.request .rewindEvents fun _ => true
  | .selectBank _ f => f.request .selectBank fun _ => true
  | .setMode _ f => f.request .setMode fun _ => true
  | .operate _ f => f.request .operate fun r => read8 r.content 0 ≠ codeIn orderKindsByCode .crank
  | .operateCrank _ f => f.request .operate fun r => read8 r.content 0 = codeIn orderKindsByCode .crank
  | .clearLockout _ f => f.request .clearLockout fun _ => true
  | .arm _ f => f.request .arm fun _ => true
  | .disarm _ f => f.request .disarm fun _ => true
  | .beginRestore _ f => f.request .beginRestore fun _ => true
  | .hold _ f => f.request .hold fun _ => true
  | .resume _ f => f.request .resume fun _ => true
  | .warmReset _ f => f.request .warmReset fun _ => true
  | .unknownRequest _ f => f.telegram fun t =>
      t.kind = kindRequest && (ofCodeFromOne requestKindsFromOne (requestOf t).kind).isNone
  | .staleTimerExpiry _ => true
  | .deadlineExpiry tag => tagGiven tag
  | .inhibitTimerExpiry tag => tagGiven tag
  | .cycleTimerExpiry _ => true
  | .holdOffExpiry _ => true
  | .dispatchTimerExpiry => true
  | .airHoldOffExpiry => true
  | .crankRestExpiry _ => true
  | .warmUpExpiry _ => true
  | .stopTimerExpiry => true
  | .cooldownExpiry _ => true
  | .curtailTimerExpiry => true
  | .mirrorExpiry _ => true
  | .stageTimerExpiry _ => true
  | .restoreDelayExpiry => true
  | .stepIntervalExpiry => true
  | .deadBusTimerExpiry => true
  | .waitTimeExpiry => true
  | .stepTimeoutExpiry => true
  | .beaconTimerExpiry => true
  | .retiredIdentityExpiry => true

end Sys2Proof
end

