-- ==== Sys2Proof/Safety.lean ====
section
/-!
DEFINITION. What counts as a sound state of the part, block by block, as the manual's whole-machine sentences put it, and
the words in which the statements speak of a command's effect. Every predicate here is an `abbrev` of a decidable one, so that
a concrete state can be tested for it.
-/

namespace Sys2Proof.Machine

/-! ## What every step keeps -/

/-- R170, R171, R176: the Event Record never holds more than 256 entries, the unread entries are retained ones, and
RECORD_HIGH stands at the unread count. -/
abbrev RecordKept (s : State) : Prop :=
  s.record.entries.length ≤ 256 ∧ s.record.unread ≤ s.record.entries.length ∧
    s.record.recordHigh = recordHighAt s.settings.eventOffset s.record.unread

/-- R56: the queue holds at most 32 orders, the PROTECTIVE ones ahead of the ROUTINE ones, no two of one class, target and
kind. PROTECTIVE orders are TRIPs to feeders (R58). -/
abbrev QueueKept (s : State) : Prop :=
  s.orders.queue.length ≤ 32 ∧
    s.orders.queue.Pairwise (fun a b => ¬ (a.cls = .routine ∧ b.cls = .protective)) ∧
    s.orders.queue.Pairwise (fun a b => a.sameSlot b = false) ∧
    (∀ o ∈ s.orders.queue, o.cls = .protective → o.kind = .trip ∧ ∃ f, o.target = .feeder f)

/-- R63, R67: at most 16 orders in the tracker, at most 12 of them ROUTINE, each under a tag of its own other than 0, and no
device with more than one. -/
abbrev TrackerKept (s : State) : Prop :=
  s.orders.tracker.length ≤ 16 ∧ (s.orders.tracker.filter fun x => x.order.cls = .routine).length ≤ 12 ∧
    (s.orders.tracker.map Slot.tag).Nodup ∧ (∀ x ∈ s.orders.tracker, x.tag ≠ 0) ∧
    (s.orders.tracker.map fun x => x.order.target).Nodup

/-- R75: orders accepted equal those queued plus sent plus cancelled plus dropped, and orders sent equal those in the tracker
plus the five outcomes, modulo 2^32. -/
abbrev BooksBalance (s : State) : Prop :=
  let c := s.orders.counters
  c.accepted = BitVec.ofNat 32 s.orders.queue.length + c.sent + c.cancelled + c.dropped ∧
    c.sent = BitVec.ofNat 32 s.orders.tracker.length + c.confirmed + c.refused + c.timedOut + c.inhibited + c.superseded

/-- R60: QUEUE_HIGH stands at the occupancy. -/
abbrev QueueHighKept (s : State) : Prop :=
  s.orders.queueHigh = queueHighAt s.settings.queueOffset s.orders.queue.length

/-- R161: the Suspension Stack holds at most 4 records and is not empty exactly while the Sequencer is SUSPENDED. -/
abbrev SuspensionKept (s : State) : Prop :=
  s.seq.stack.length ≤ 4 ∧ (s.seq.stack ≠ [] ↔ s.seq.state = .suspended)

/-- R100: the gensets present in the Crank Arbiter. -/
def Arbiter.units (a : Arbiter) : List (Fin 16) := (a.grant.toList ++ a.batch ++ a.waiting).map CrankRequest.unit

/-- R100: the grant is held in GRANTED alone, the hold-off timer runs in HOLDOFF alone, and no genset stands in the arbiter
more than once. -/
abbrev ArbiterKept (s : State) : Prop :=
  (s.arbiter.grant.isSome ↔ s.arbiter.state = .granted) ∧ (s.arbiter.holdOff.isSome ↔ s.arbiter.state = .holdoff) ∧
    s.arbiter.units.Nodup

/-- R123, R127: no feeder stands in the Shed Stack twice, and a feeder is in it exactly while its owner is SHED. -/
abbrev StackKept (s : State) : Prop :=
  (s.shed.stack.map StackEntry.feeder).Nodup ∧
    ∀ f : Fin 32, s.feeders[f].owner = .shed ↔ (s.shed.entryOf f).isSome

/-- R42, R44, R45: every Setting Bank lies within its ranges. -/
abbrev BanksKept (s : State) : Prop := ∀ b : Fin 4, (s.banks[b]).valid = true

/-- R183: Station Settings lie within their ranges. -/
abbrev SettingsKept (s : State) : Prop := s.settings.valid = true

/-- R53: the attempts of every profile lie in 1 … 6. -/
abbrev ProfilesKept (s : State) : Prop := ∀ p : Fin 16, 1 ≤ (s.profiles[p]).attempts ∧ (s.profiles[p]).attempts ≤ 6

/-- R178, R179: a port's queues hold at most 16 frames and 32 telegrams, and nothing while its link is DOWN. -/
abbrev PortKept (p : PortState) : Prop :=
  p.forwardQ.length ≤ 16 ∧ p.ownQ.length ≤ 32 ∧ (p.link = false → p.forwardQ = [] ∧ p.ownQ = [])

abbrev PortsKept (s : State) : Prop := PortKept s.portA ∧ PortKept s.portB

/-- R19: the Frequency History holds at most 16 samples. -/
abbrev HistoryKept (s : State) : Prop := s.history.length ≤ 16

/-- R119: every LIMIT in the queue is for a plant and lies between 0 and its bound, the rated power or, while the mirror is
valid, the smaller of it and the mirror. -/
abbrev LimitsKept (s : State) : Prop :=
  ∀ o ∈ s.orders.queue, o.kind = .limit →
    ∃ u : Fin 16, o.target = .unit u ∧ (s.units[u]).kind = .pv ∧ 0 ≤ o.value ∧ o.value ≤ (s.units[u]).limitBound

/-- R77, R84: a genset has a lockout cause exactly while it is LOCKED_OUT. -/
abbrev LockoutKept (s : State) : Prop :=
  ∀ u : Fin 16, (s.units[u]).kind = .genset →
    ((s.genset u).state = .lockedOut ↔ (s.genset u).lockout ≠ .absent)

/-- R29: the sheet is the one its records, its genset states and the active bank give. -/
abbrev SheetKept (s : State) : Prop := s.sheet = computeSheet s

/-- Between commands nothing waits inside the part (log 4). -/
abbrev Settled (s : State) : Prop := s.handovers = []

/-- R18, R31: the frequency source is the first that qualifies, and the sheet's frequency is the F it last had written. -/
abbrev SourceKept (s : State) : Prop := s.freqSource = sourceChoice s ∧ s.sheet.freq = s.freqOf s.freqSource

/-! ## What a hand-over leaves as it was -/

/-- A unit record without the fields that the jobs and the Order Unit change: its configuration, its measurements and its
device state. -/
def UnitRec.given (r : UnitRec) : UnitRec := { r with cycle := none, holdOff := none, genset := {}, pv := {} }

/-- A feeder record without the fields that the jobs and the Order Unit change. -/
def FeederRec.given (r : FeederRec) : FeederRec :=
  { r with mode := .auto, owner := .free, failed := false, shedLoad := none, cycle := none, holdOff := none }

/-- A port without its own queue and the drops counted there. -/
def PortState.given (p : PortState) : PortState := { p with ownQ := [], ownDrops := 0 }

/-- The part of the state that only the commands themselves change, never a hand-over within one. -/
structure Given where
  phase       : Phase
  fsel        : Bool
  sid         : BitVec 4
  partTime    : PartTime
  settings    : Settings
  retired     : Option Retired
  managers    : Vector Manager 4
  openRecord  : Option OpenRecord
  beaconTimer : Nat
  sources     : Vector SourceEntry 64
  banks       : Vector Bank 4
  profiles    : Vector Profile 16
  pending     : List Instr
  shedTable   : Vector ShedEntry 32
  program     : Vector StepRec 48
  armed       : Bool
  portA       : PortState
  portB       : PortState
  units       : Fin 16 → UnitRec
  feeders     : Fin 32 → FeederRec

/-- What no hand-over changes. -/
def State.given (s : State) : Given where
  phase       := s.phase
  fsel        := s.fsel
  sid         := s.sid
  partTime    := s.partTime
  settings    := s.settings
  retired     := s.retired
  managers    := s.managers
  openRecord  := s.openRecord
  beaconTimer := s.beaconTimer
  sources     := s.sources
  banks       := s.banks
  profiles    := s.profiles
  pending     := s.pending
  shedTable   := s.shed.table
  program     := s.seq.program
  armed       := s.seq.armed
  portA       := s.portA.given
  portB       := s.portB.given
  units       := fun u => (s.units[u]).given
  feeders     := fun f => (s.feeders[f]).given

/-! ## The words of the statements -/

/-- No reset pin holds the part, and nothing waits inside it. -/
abbrev Quiet (s : State) : Prop := s.phase = .running ∧ s.handovers = []

/-- The frame comes in on the port as a well-formed telegram that is not removed (R178 to R181). -/
abbrev Arrives (s : State) (p : Port) (f : Frame) (t : Telegram) : Prop :=
  Quiet s ∧ (s.port p).link = true ∧ removed s f = false ∧ f.etherType = s.settings.etherType ∧
    parseTelegram f.payload = some t

/-- R181: a telegram addressed to another station, or to all, is forwarded. -/
def passedOn (p : Port) (f : Frame) (t : Telegram) (s : State) : State := if t.dest = s.ownId then s else forward p f s

/-- A Management Request of this kind addressed to the part, admitted (R184): `s1` is the state with its sequence recorded. -/
abbrev Requested (s : State) (p : Port) (f : Frame) (t : Telegram) (k : RequestKind) (s1 : State) : Prop :=
  Arrives s p f t ∧ t.kind = kindRequest ∧ t.dest = s.ownId ∧ admitRequest (requestOf t) s = some s1 ∧
    ofCodeFromOne requestKindsFromOne (requestOf t).kind = some k

/-- R185: the response to a request has been formed. -/
def answered (t : Telegram) (status : Status) (content : Octets) (s : State) : State :=
  formTelegram kindResponse t.sender (responseBody (requestOf t) status content) s

/-- Nothing is under way in the jobs: no order waits or is out, no feeder is shed, no barrier and no timer of a job but its
evaluation timer runs, no run is in progress, and no genset is ONLINE. -/
abbrev AtRest (s : State) : Prop :=
  s.orders.queue = [] ∧ s.orders.tracker = [] ∧ s.shed.stack = [] ∧ s.shed.barrier = .idle ∧
    s.shed.restoreDelay = none ∧ (∀ i : Fin 8, s.shed.stageTimers[i] = none) ∧ s.dispatch.stopTimer = none ∧
    s.dispatch.restoreWait = none ∧ s.seq.deadBusTimer = none ∧ s.inRun = false ∧
    ∀ u : Fin 16, s.inState u .online = false

/-- R191, R192: what a warm reset leaves: what each block takes anew and what it keeps. `Sequencer.serial` is the model's own
field (log 9). -/
def WarmLeft (s t : State) : Prop :=
  t.phase = .running ∧ t.handovers = [] ∧ t.partTime = s.partTime ∧ t.settings = s.settings ∧ t.retired = none ∧
    t.banks = s.banks ∧ t.activeBank = s.activeBank ∧ t.profiles = s.profiles ∧ t.pending = s.pending ∧
    t.beaconTimer = timeOrSecond s.settings.beacon ∧
    t.history = [] ∧ t.freqSource = .absent ∧ (SourceKept s → t.sheet.freq = none) ∧ t.sheet.rocof = none ∧ SheetKept t ∧
    t.orders = {} ∧ t.arbiter = {} ∧
    t.dispatch = { timer := timeOrSecond s.bank.dispatchInterval } ∧ t.curtailTimer = timeOrSecond s.bank.curtailInterval ∧
    t.shed = { table := s.shed.table, stack := s.shed.stack.map fun e => { e with done := true } } ∧
    t.seq = { state := if s.seq.armed then .armed else .disarmed, armed := s.seq.armed, program := s.seq.program,
              serial := s.seq.serial + 1 } ∧
    (∀ i : Fin 64, t.sources[i] = { s.sources[i] with fresh := false, staleTimer := none }) ∧
    (∀ u : Fin 16, (t.units[u]).given =
      { (s.units[u]).given with
        breaker := .unknown, engine := .absent, isLocal := false, inhibit := false, unloaded := false, lastPos := none }) ∧
    (∀ u : Fin 16, (t.units[u]).cycle = none ∧ (t.units[u]).holdOff = none) ∧
    (∀ u : Fin 16, (s.units[u]).kind = .genset → t.genset u =
      if (s.genset u).state = .lockedOut then { state := .lockedOut, lockout := (s.genset u).lockout } else {}) ∧
    (∀ u : Fin 16,
      let old := (s.units[u]).pv
      let due := old.mirrorValid = true ∧ ∃ e, old.mirrorExpiry = some e ∧ (s.partTime - e).toNat < 2 ^ 31
      (due → (t.units[u]).pv = { mirror := old.mirror }) ∧
      (¬ due → (t.units[u]).pv = { old with lastSent := none, outOfStep := false })) ∧
    (∀ f : Fin 32, (t.feeders[f]).given =
      { (s.feeders[f]).given with breaker := .unknown, inhibit := false, lastPos := none }) ∧
    (∀ f : Fin 32, (t.feeders[f]).cycle = none ∧ (t.feeders[f]).holdOff =
      if (s.feeders[f]).holdOff ≠ none ∨ ((s.shed.entryOf f).any fun e => !e.done) = true then
        startTimer (timeMs (s.profiles[(s.feeders[f]).profile]).holdOff)
      else none) ∧
    (∀ f : Fin 32, (s.feeders[f]).owner = .sequencer → (t.feeders[f]).owner = .free ∧ (t.feeders[f]).mode = .manual ∧
      (t.feeders[f]).failed = (s.feeders[f]).failed ∧ (t.feeders[f]).shedLoad = (s.feeders[f]).shedLoad) ∧
    (∀ f : Fin 32, (s.feeders[f]).owner ≠ .sequencer →
      (t.feeders[f]).owner = (s.feeders[f]).owner ∧ (t.feeders[f]).mode = (s.feeders[f]).mode ∧
        (t.feeders[f]).failed = (s.feeders[f]).failed ∧ (t.feeders[f]).shedLoad = (s.feeders[f]).shedLoad)

/-- R171: what a block gives of an event it logs: its kind, subject, value and detail. -/
abbrev Logged := EventKind × Option Subject × Int × Nat

/-- R171: the Event Record once these events have been logged in turn. -/
def State.recordWith (s : State) (events : List Logged) : EventRecord :=
  events.foldl (fun r e => r.append s.settings.eventOffset ⟨r.nextSeq, s.partTime, e.1, e.2.1, e.2.2.1, e.2.2.2⟩) s.record

/-! ### Orders -/

/-- R57, R58: the order is accepted into an empty queue. -/
def State.queuesAlone (o : Order) (s : State) : State :=
  { s with orders := { s.orders with
      queue := [o], counters := { s.orders.counters with accepted := s.orders.counters.accepted + 1 } } }

/-- R53, R62 to R64: the only order of the queue is sent while none is out: under the next tag, with the deadline of its profile,
its target's cycle timer started, and its telegram formed. -/
def State.sendsAlone (o : Order) (s : State) : State :=
  let profile := s.profiles[o.profile]
  let tag := if s.orders.tagCounter = 255 then 1 else s.orders.tagCounter + 1
  let out := { s with orders := { s.orders with
      queue := [], tracker := [{ order := o, tag := tag, deadline := profile.deadline }], tagCounter := tag
      counters := { s.orders.counters with sent := s.orders.counters.sent + 1 } } }
  (formTelegram kindActionOrder o.device (orderBody tag o) out).setCycle o.target
    (some (max (timeMs profile.cycle) profile.deadline))

/-- R57, R61, R62: a ROUTINE order submitted to an empty queue waits while its target's cycle timer or hold-off runs, and is
sent at once otherwise. -/
def State.submitsAlone (o : Order) (s : State) : State :=
  if s.cycleOf o.target ≠ none ∨ s.holdOffOf o.target ≠ none then s.queuesAlone o else (s.queuesAlone o).sendsAlone o

/-- No order waits, and one for this target would wait for its timers, or is the only one out and its device shows no INHIBIT. One
waiting order does not set QUEUE_HIGH. -/
abbrev TakesAlone (s : State) (x : Target) : Prop :=
  s.orders.queue = [] ∧ s.orders.queueHigh = false ∧ s.settings.queueOffset ≤ 30 ∧
    (s.cycleOf x ≠ none ∨ s.holdOffOf x ≠ none ∨ (s.orders.tracker = [] ∧ s.targetInhibit x = false))

/-- R74, R75: the order in a slot has ended with an outcome, the counters are these, and the outcome is logged with the tag unless
it is CONFIRMED. -/
def State.slotFreed (x : Slot) (e : OrderEnd) (counters : OrderCounters) (s : State) : State :=
  { s with
      orders := { s.orders with tracker := s.orders.tracker.filter (fun y => y.tag ≠ x.tag), counters := counters }
      record := if e = .confirmed then s.record
        else s.recordWith [(.orderOutcome, targetSubject x.order.target, x.tag.toNat, e.detail)] }

/-- R65, R74, R75: the order in a slot, which is no CRANK, has ended with an outcome, and its target's hold-off has started
afresh. -/
def State.slotEnds (x : Slot) (e : OrderEnd) (counters : OrderCounters) (s : State) : State :=
  (s.slotFreed x e counters).setHoldOff x.order.target (startTimer (timeMs (s.profiles[x.order.profile]).holdOff))

/-- R69, R70: this command ends the order in the slot of this tag with this outcome, its deadline or its inhibit timer having run
out. -/
abbrev SlotExpires (s : State) (tag : Octet) (x : Slot) (e : OrderEnd) (c : Instr) : Prop :=
  Quiet s ∧ s.orders.tracker.find? (fun y => y.tag = tag) = some x ∧
    ((c = .deadlineExpiry tag ∧ x.deadline = 0 ∧ x.inhibit = none ∧
        e = if x.seen = true ∧ (s.profileOf x.order).waitMode.confirmsAtOnce = false then .confirmed else .timedOut) ∨
      (c = .inhibitTimerExpiry tag ∧ x.inhibit = some 0 ∧ e = .inhibited))

/-! ### Reports -/

/-- R15: the sequence of the last Position Report admitted for a record. -/
def State.lastPosOf (s : State) : Target → Option TelSeq
  | .unit u => (s.units[u]).lastPos
  | .feeder f => (s.feeders[f]).lastPos

/-- The breaker state of a record. -/
def State.breakerOf (s : State) : Target → Breaker
  | .unit u => (s.units[u]).breaker
  | .feeder f => (s.feeders[f]).breaker

/-- R16, R196: the device state an admitted Position Report writes, an unknown breaker or engine code leaving that field. -/
def State.deviceReported (x : Target) (t : Telegram) (s : State) : State :=
  let breaker := fun (old : Breaker) => ([.opened, .closed, .moving, .unknown][read8 t.body 1]?).getD old
  let engine := fun (old : Engine) =>
    ([.absent, .stopped, .prelube, .cranking, .firing, .cooling, .faulted][read8 t.body 2]?).getD old
  let flag := fun n => (octet t.body 3).getLsbD n
  match x with
  | .unit u => s.modUnit u fun r => { r with
      lastPos := some t.seq, breaker := breaker r.breaker, isLocal := flag 2, inhibit := flag 0
      engine := if r.kind = .genset then engine r.engine else r.engine
      unloaded := if r.kind = .genset then flag 3 else r.unloaded }
  | .feeder k => s.modFeeder k fun r => { r with
      lastPos := some t.seq, breaker := breaker r.breaker, inhibit := flag 0 }

/-- R5, R6, R8, R10, R19: the telegram is an accepted Sample Report of the FRESH reference that gives the frequency, with an F item
of this value and no U item. -/
abbrev FreqReport (s : State) (p : Port) (f : Frame) (t : Telegram) (i : Fin 64) (v : Int) : Prop :=
  Arrives s p f t ∧ t.kind = kindSampleReport ∧
    findIndex s.sources (fun e => e.used && e.publisher = t.sender) = some i ∧ s.freqSource = .reference i ∧
    (s.sources[i]).role = .reference ∧ (s.sources[i]).fresh = true ∧ (s.sources[i]).f ≠ none ∧ read8 t.body 4 = 0 ∧
    ((sampleItems t.body).find? fun x => x.1 = 2) = some (2, v) ∧ (∀ x ∈ sampleItems t.body, x.1 ≠ 3)

/-- R10, R19, R31, R32: the sample at Sample Intake and the Balance Engine: the entry takes the clamped value, the Frequency
History takes the sample in the place of its oldest of 16, and RoCoF is formed over the window of the active bank, from the newest
sample and the one a window back. -/
def State.sampleTaken (i : Fin 64) (t : Telegram) (v : Int) (s : State) : State :=
  let freq := (max 0 (min 99999 v)).toNat
  let stamp := BitVec.ofNat 32 (read32 t.body 0)
  let history := (if s.history.length < 16 then s.history else s.history.drop 1) ++ [⟨freq, stamp⟩]
  let window := s.bank.window
  let rocof := if history.length < window then none
    else match history[history.length - window]? with
      | none => none
      | some old =>
        let dt := (stamp - old.time).toNat
        if 1 ≤ dt ∧ dt ≤ 2000000 then
          some (max (-32767) (min 32767 ((((freq : Int) - old.freq) * 1000000).tdiv dt)))
        else none
  { s.modSource i (fun e => { e with
      lastSeq := some t.seq, lastArrival := some s.partTime, staleTimer := some (timeOrSecond e.staleLimit)
      f := some freq, clamped := decide ((freq : Int) ≠ v) }) with
    history := history, sheet := { s.sheet with freq := some freq, rocof := rocof } }

/-- No stage acts on a frequency sample of this value, no WAIT_FREQ step waits for one, it is not above f_ofc, and no order
waits. -/
abbrev StagesQuiet (s : State) (freq : Nat) : Prop :=
  (∀ i : Fin 8, s.bank.threshold[i] ≤ freq ∧ s.shed.latches[i] = false ∧ s.shed.stageTimers[i] = none) ∧
    s.seq.state ≠ .waiting ∧ freq ≤ s.bank.fOfc ∧ s.orders.queue = []

/-! ### Gensets -/

/-- A report of this genset has no one else act: a reference gives the frequency, no order or shed feeder waits, no other genset is
ONLINE, none has an owed order, no plant participates, and the genset is neither in the Crank Arbiter nor wanted. -/
abbrev DispatchCalm (s : State) (u : Fin 16) : Prop :=
  (∃ i, sourceChoice s = .reference i) ∧ s.freqSource = sourceChoice s ∧ s.orders.queue = [] ∧ s.shed.stack = [] ∧
    s.dispatch.stopTimer = none ∧ s.dispatch.restoreWait = none ∧ u ∉ s.arbiter.units ∧ (s.genset u).want = false ∧
    ∀ v : Fin 16, (s.genset v).owed = none ∧ (s.units[v]).participating = false ∧ (v ≠ u → s.inState v .online = false)

/-- R97: the five conditions of the stop timer hold for this candidate. -/
abbrev StopHolds (s : State) (c : Fin 16) : Prop :=
  stopCandidate s = some c ∧ (∀ u : Fin 16, (s.units[u]).inStartingSet = false) ∧
    (∀ u : Fin 16, s.inState u .unloading = false ∧ s.inState u .opening = false) ∧ s.shed.stack = [] ∧
    (s.bank.stopMargin : Int) ≤ s.sheet.margin - (s.units[c]).rated

/-- R103: this request has been granted, with these left in the Current Batch and the Waiting Set, and CRANK_GRANT is logged. -/
def State.grantsNext (r : CrankRequest) (batch waiting : List CrankRequest) (s : State) : State :=
  { s with
    arbiter := { state := .granted, grant := some r, batch := batch, waiting := waiting, holdOff := none }
    record := s.recordWith [(.crankGrant, some ⟨.unit, r.unit.val⟩,
      if r.cls = .operator then 0 else ((s.genset r.unit).attempts + 1 : Nat), r.cls.code)] }

/-- R85, R91, R92, R97: a genset in START_QUEUED has been granted the crank: it is in CRANKING, its attempt is counted, its CRANK has
been submitted to an empty queue and is the outstanding order, and the stop timer is idle. -/
def State.cranksAlone (u : Fin 16) (s : State) : State :=
  let r := s.units[u]
  let cranking := (s.modGenset u fun g => { g with state := .cranking, attempts := g.attempts + 1, timer := none }).submitsAlone
    { target := .unit u, device := r.device, kind := .crank, cls := .routine
      value := ((s.profiles[r.startProfile]).pulse.toNat : Int), cause := .dispatch, profile := r.startProfile }
  { cranking.modGenset u (fun g => { g with outstanding := some .crank, owed := none }) with
    dispatch := { s.dispatch with stopTimer := none } }

/-! ### Runs -/

/-- The program has a WAIT_TIME step of some duration at this place. -/
abbrev WaitStep (q : Sequencer) (n : Fin 48) : Prop := (q.program[n]).kind = .waitTime ∧ timeMs (q.program[n]).time ≠ 0

/-- R154, R158: the WAIT_TIME step at this place has begun. `serial` is the model's own count (log 9). -/
def Sequencer.waitsAt (q : Sequencer) (n : Fin 48) : Sequencer :=
  { q with
    state := .waiting, position := n, stepTimeout := none, progress := { waitTimer := some (timeMs (q.program[n]).time) }
    serial := q.serial + 1 }

/-- R154: the step at this place has begun in this state of the Sequencer, its step timeout started when its kind is `timed` and the
count is not 0. `serial` is the model's own count (log 9). -/
def Sequencer.beginsAt (n : Fin 48) (state : SeqState) (timed : Bool) (q : Sequencer) : Sequencer :=
  { q with
    state := state, position := n, progress := {}, serial := q.serial + 1
    stepTimeout := if timed then startTimer (timeMs (q.program[n]).time) else none }

/-- R161: a run has been suspended by a record of this cause; outside a run nothing is. -/
def State.suspendedBy (cause : SuspendCause) (s : State) : Sequencer :=
  if s.inRun then
    { s.seq with state := .suspended, stack := s.seq.stack ++ [⟨cause, s.activeBank, s.seq.stepTimeout⟩] }
  else s.seq

/-- R161: what the Event Record takes for such a record. -/
def State.suspendEvents (cause : SuspendCause) (s : State) : List Logged :=
  if s.inRun then [(.seqSuspend, none, (s.seq.stack.length + 1 : Nat), cause.detail)] else []

/-- R138, R153: a run has started with a first step WAIT_TIME: every used feeder in AUTO with a device is owned by SEQUENCER, the
Suspension Stack is empty, PV released is clear, nothing is under restoration or posted to Dispatch, and step 0 has begun. -/
def State.runBegins (s : State) : State :=
  { s with
    feeders := mapTable (fun r => if r.used ∧ r.mode = .auto ∧ r.device ≠ 0 then { r with owner := .sequencer } else r) s.feeders
    shed := { s.shed with underRestore := none }
    dispatch := { s.dispatch with restoreWait := none }
    seq := ({ s.seq with pvReleased := false, stack := [], serial := s.seq.serial + 1 } : Sequencer).waitsAt 0 }

/-- A run can start without another block acting on it: no order waits, no feeder is shed, no barrier runs, no plant
participates, and the program begins with a WAIT_TIME. -/
abbrev RunReady (s : State) : Prop :=
  WaitStep s.seq 0 ∧ s.orders.queue = [] ∧ s.shed.stack = [] ∧ s.shed.barrier = .idle ∧
    ∀ u : Fin 16, (s.units[u]).participating = false

end Sys2Proof.Machine

namespace Sys2Proof

/-- The port and frame of a command that is the arrival of a good frame. -/
def Instr.arrival : Instr → Option (Port × Frame)
  | .forwardFrame p f | .removeOwnTelegram p f | .malformedTelegram p f | .forwardTelegram p f | .sampleReport p f
  | .positionReport p f | .setpointOrder p f | .readEntry p f | .writeEntrySource p f | .writeEntryUnit p f
  | .writeEntryFeeder p f | .writeEntryProfile p f | .writeEntryShed p f | .writeEntryProgram p f | .writeEntryBank p f
  | .writeEntrySettings p f | .writeEntryManagers p f | .readSheet p f | .readEvents p f | .rewindEvents p f
  | .selectBank p f | .setMode p f | .operate p f | .operateCrank p f | .clearLockout p f | .arm p f | .disarm p f
  | .beginRestore p f | .hold p f | .resume p f | .warmReset p f | .unknownRequest p f => some (p, f)
  | _ => none

/-- A command that is the expiry of a timer that stands while WRST is low: every one but the retired identity's. -/
def Instr.expiry : Instr → Bool
  | .staleTimerExpiry _ | .deadlineExpiry _ | .inhibitTimerExpiry _ | .cycleTimerExpiry _ | .holdOffExpiry _
  | .dispatchTimerExpiry | .airHoldOffExpiry | .crankRestExpiry _ | .warmUpExpiry _ | .stopTimerExpiry | .cooldownExpiry _
  | .curtailTimerExpiry | .mirrorExpiry _ | .stageTimerExpiry _ | .restoreDelayExpiry | .stepIntervalExpiry
  | .deadBusTimerExpiry | .waitTimeExpiry | .stepTimeoutExpiry | .beaconTimerExpiry => true
  | _ => false

end Sys2Proof
end

