-- ==== Sys2Proof/Certificates/Slice0/Obligations.lean ====
section
/-!
DEFINITION. The statements for the provers: what each command does, what it leaves as it was, what every step keeps, and that
the octets the part sends are read back as they were meant. A docstring names the rules of spec/ its statement follows, and says
so where a statement rests on a choice of the model.
-/

open Sys2Proof Sys2Proof.Machine

/-! ## Steps -/

/-- A step takes the command at the front of the queue and runs it on the state with the queue's rest. The queue is the
model's own (log 1). -/
def Obligations.StepTakesFrontCommand : Prop :=
  ∀ (c : Instr) (s : State), step { s with pending := c :: s.pending } = exec c s

/-- Log 1, R180, R192: on an empty queue one millisecond passes. Nothing moves under NRST (log 8); under WRST part time and the
retired identity's second (log 28) run on; otherwise part time and every timer of every block do, but for the deadline of an
order whose inhibit timer runs and the Sequencer's step timeout and wait timer while it is SUSPENDED (R70, R162), and nothing else
changes but the queue. -/
def Obligations.IdleStepPassesOneMillisecond : Prop :=
  ∀ s : State, s.pending = [] →
    let retired := s.retired.map fun r => { r with left := r.left - 1 }
    (s.phase = .coldHeld → step s = .next s) ∧
    (s.phase = .warmHeld → ∃ t, step s = .next t ∧
      t = { s with partTime := s.partTime + 1, retired := retired, pending := t.pending } ∧
      t.pending = if retired.any fun r => r.left = 0 then [.retiredIdentityExpiry] else []) ∧
    (s.phase = .running → ∃ t, step s = .next t ∧
      t = { s with
        partTime := s.partTime + 1, retired := retired, beaconTimer := s.beaconTimer - 1, sources := t.sources
        units := t.units, feeders := t.feeders, orders := t.orders
        dispatch := { s.dispatch with
          timer := s.dispatch.timer - 1, stopTimer := s.dispatch.stopTimer.map fun x => { x with left := x.left - 1 } }
        arbiter := { s.arbiter with holdOff := countDown s.arbiter.holdOff }
        curtailTimer := s.curtailTimer - 1
        shed := { s.shed with
          stageTimers := t.shed.stageTimers, restoreDelay := countDown s.shed.restoreDelay
          barrier := match s.shed.barrier with
            | .stepping f owner n => .stepping f owner (n - 1)
            | other => other }
        seq := t.seq, pending := t.pending } ∧
      (∀ i : Fin 64, t.sources[i] = { s.sources[i] with staleTimer := countDown s.sources[i].staleTimer }) ∧
      (∀ u : Fin 16, t.units[u] = { s.units[u] with
        cycle := countDown s.units[u].cycle, holdOff := countDown s.units[u].holdOff,
        genset := { s.genset u with timer := countDown (s.genset u).timer } }) ∧
      (∀ f : Fin 32, t.feeders[f] = { s.feeders[f] with
        cycle := countDown s.feeders[f].cycle, holdOff := countDown s.feeders[f].holdOff }) ∧
      t.orders = { s.orders with tracker := s.orders.tracker.map (fun x => match x.inhibit with
        | none => { x with deadline := x.deadline - 1 }
        | some n => { x with inhibit := some (n - 1) }) } ∧
      (∀ i : Fin 8, t.shed.stageTimers[i] = countDown s.shed.stageTimers[i]) ∧
      (s.seq.state = .suspended → t.seq = { s.seq with deadBusTimer := countDown s.seq.deadBusTimer }) ∧
      (s.seq.state ≠ .suspended → t.seq = { s.seq with
        deadBusTimer := countDown s.seq.deadBusTimer, stepTimeout := countDown s.seq.stepTimeout
        progress := { s.seq.progress with waitTimer := countDown s.seq.progress.waitTimer } }))

/-- Log 1, log 3: at a tick each timer that has run out sends its expiry command to the queue, and no other does. A mirror is due
once part time minus its expiry, modulo 2^32, is below 2^31 (log 20). -/
def Obligations.DueTimersSendTheirCommands : Prop :=
  ∀ s t : State, s.pending = [] → s.phase = .running → step s = .next t →
    (∀ i, .staleTimerExpiry i ∈ t.pending ↔ (t.sources[i]).staleTimer = some 0) ∧
    (∀ g, .deadlineExpiry g ∈ t.pending ↔ ∃ x ∈ t.orders.tracker, x.tag = g ∧ x.deadline = 0 ∧ x.inhibit = none) ∧
    (∀ g, .inhibitTimerExpiry g ∈ t.pending ↔ ∃ x ∈ t.orders.tracker, x.tag = g ∧ x.inhibit = some 0) ∧
    (∀ x, .cycleTimerExpiry x ∈ t.pending ↔ t.cycleOf x = some 0) ∧
    (∀ x, .holdOffExpiry x ∈ t.pending ↔ t.holdOffOf x = some 0) ∧
    (.dispatchTimerExpiry ∈ t.pending ↔ t.dispatch.timer = 0) ∧
    (.airHoldOffExpiry ∈ t.pending ↔ t.arbiter.holdOff = some 0) ∧
    (∀ u, .crankRestExpiry u ∈ t.pending ↔ t.inState u .crankRest = true ∧ (t.genset u).timer = some 0) ∧
    (∀ u, .warmUpExpiry u ∈ t.pending ↔ t.inState u .warming = true ∧ (t.genset u).timer = some 0) ∧
    (.stopTimerExpiry ∈ t.pending ↔ ∃ x, t.dispatch.stopTimer = some x ∧ x.left = 0) ∧
    (∀ u, .cooldownExpiry u ∈ t.pending ↔ t.inState u .cooldown = true ∧ (t.genset u).timer = some 0) ∧
    (.curtailTimerExpiry ∈ t.pending ↔ t.curtailTimer = 0) ∧
    (∀ u, .mirrorExpiry u ∈ t.pending ↔ (t.units[u]).kind = .pv ∧ (t.units[u]).pv.mirrorValid = true ∧
      ∃ e, (t.units[u]).pv.mirrorExpiry = some e ∧ (t.partTime - e).toNat < 2 ^ 31) ∧
    (∀ i, .stageTimerExpiry i ∈ t.pending ↔ t.shed.stageTimers[i] = some 0) ∧
    (.restoreDelayExpiry ∈ t.pending ↔ t.shed.restoreDelay = some 0) ∧
    (.stepIntervalExpiry ∈ t.pending ↔ ∃ f owner, t.shed.barrier = .stepping f owner 0) ∧
    (.deadBusTimerExpiry ∈ t.pending ↔ t.seq.deadBusTimer = some 0) ∧
    (.waitTimeExpiry ∈ t.pending ↔ t.seq.state = .waiting ∧ t.seq.progress.waitTimer = some 0) ∧
    (.stepTimeoutExpiry ∈ t.pending ↔ (t.seq.state = .running ∨ t.seq.state = .waiting) ∧ t.seq.stepTimeout = some 0) ∧
    (.beaconTimerExpiry ∈ t.pending ↔ t.beaconTimer = 0) ∧
    (.retiredIdentityExpiry ∈ t.pending ↔ ∃ r, t.retired = some r ∧ r.left = 0) ∧
    (∀ c ∈ t.pending, c.expiry = true ∨ c = .retiredIdentityExpiry)

/-! ## Resets and links -/

/-- R191: COLD_RESET_ASSERT holds the part with both LINK outputs low; COLD_RESET_RELEASE samples the straps and starts every
block from its cold-reset values (R21, R41, R52, R76, R105, R121, R144, R168, R177); R192: WARM_RESET_PIN_ASSERT holds a running
part. A pin that changes nothing leaves the state (log 8). -/
def Obligations.ResetPinsHoldAndColdResetStarts : Prop :=
  ∀ (s : State) (fsel : Bool) (sid : BitVec 4), s.handovers = [] →
    exec .coldResetAssert s = .next { s with
      phase := .coldHeld, portA := { s.portA with linkPin := false }, portB := { s.portB with linkPin := false } } ∧
    exec .warmResetPinAssert s = .next { s with phase := if s.phase = .running then .warmHeld else s.phase } ∧
    (s.phase ≠ .warmHeld → exec .warmResetPinRelease s = .next s) ∧
    (s.phase ≠ .coldHeld → exec (.coldResetRelease fsel sid) s = .next s) ∧
    (s.phase = .coldHeld → ∃ t, exec (.coldResetRelease fsel sid) s = .next t ∧
      t.phase = .running ∧ t.fsel = fsel ∧ t.sid = sid ∧ t.pending = s.pending ∧ t.partTime = 0 ∧ t.telSeq = 0 ∧
      t.portA = {} ∧ t.portB = {} ∧ t.settings = {} ∧ t.retired = none ∧ t.openRecord = none ∧ t.beaconTimer = 1000 ∧
      (∀ k : Fin 4, t.managers[k] = {}) ∧ (∀ i : Fin 64, t.sources[i] = {}) ∧ t.freqSource = .absent ∧
      t.history = [] ∧ (∀ u : Fin 16, t.units[u] = {}) ∧ (∀ f : Fin 32, t.feeders[f] = {}) ∧
      t.sheet = { req := 500, margin := -500 } ∧ (∀ b : Fin 4, t.banks[b] = defaultBank fsel) ∧ t.activeBank = 0 ∧
      (∀ p : Fin 16, t.profiles[p] = {}) ∧ t.orders = {} ∧ t.dispatch = { timer := 1000 } ∧ t.arbiter = {} ∧
      t.curtailTimer = 1000 ∧ t.shed.stack = [] ∧ (∀ k : Fin 32, (t.shed.table[k]).feeder = none) ∧
      t.shed.permission = false ∧ t.shed.deficitLatch = false ∧ t.shed.barrier = .idle ∧
      (∀ i : Fin 8, t.shed.stageTimers[i] = none ∧ t.shed.latches[i] = false) ∧ t.shed = {} ∧
      t.seq.state = .disarmed ∧ t.seq.armed = false ∧ (∀ k : Fin 48, t.seq.program[k] = {}) ∧ t.seq = {} ∧ t.record = {} ∧
      t.handovers = [] ∧ t.overrun = false)

/-- R22, R76, R106, R122, R145, R169, R192, R193: WARM_RESET_PIN_RELEASE takes the warm reset, and a WARM_RESET request
takes it once its response has been formed. WARM_RESET is logged, every block takes its warm-reset values, and configuration,
tables, part time, the telegram sequence and what waits at the ports are kept; the counters of the ports become 0. The serial
number of the Sequencer's steps is the model's own field (log 9). Whether a mirror's expiry has passed is log 20. -/
def Obligations.WarmResetKeepsAndClears : Prop :=
  (∀ s : State, s.phase = .warmHeld → s.handovers = [] →
    ∃ t, exec .warmResetPinRelease s = .next t ∧ WarmLeft s t ∧ t.telSeq = s.telSeq ∧ t.managers = s.managers ∧
      t.openRecord = s.openRecord ∧
      t.portA = { s.portA with forwarded := 0, forwardDrops := 0, ownDrops := 0, malformed := 0 } ∧
      t.portB = { s.portB with forwarded := 0, forwardDrops := 0, ownDrops := 0, malformed := 0 } ∧
      ⟨s.record.nextSeq, s.partTime, .warmReset, none, 0, 1⟩ ∈ t.record.entries) ∧
  (∀ (s : State) (p : Port) (f : Frame) (r : Telegram) (s1 : State), Requested s p f r .warmReset s1 →
    ∃ t, exec (.warmReset p f) s = .next t ∧ WarmLeft s t ∧ t.telSeq = s.telSeq + 1 ∧
      t.managers = s1.managers ∧ t.openRecord = s1.openRecord ∧
      t.portA = ((answered r .ok [] s1).portA).warm ∧ t.portB = ((answered r .ok [] s1).portB).warm ∧
      ⟨s.record.nextSeq, s.partTime, .warmReset, none, r.sender.toNat, 2⟩ ∈ t.record.entries)

/-- R178: LINK_STATUS_READ changes a port whose state it shows otherwise: it is logged, the LINK output follows, and a port that
goes DOWN discards what waits to leave by it, counted as drops of each queue. That port A's event stands first when both change is
log 41, and that no link is read under NRST is log 8. -/
def Obligations.LinkStatusReadFollowsTransceivers : Prop :=
  ∀ (s : State) (upA upB : Bool), s.handovers = [] →
    let down := fun (q : PortState) =>
      ({ q with link := false, linkPin := false, forwardQ := [], ownQ := [],
                forwardDrops := q.forwardDrops + BitVec.ofNat 32 q.forwardQ.length,
                ownDrops := q.ownDrops + BitVec.ofNat 32 q.ownQ.length } : PortState)
    let read := fun (q : PortState) (up : Bool) =>
      if q.link = up then q else if up then { q with link := true, linkPin := true } else down q
    let events := fun (q : PortState) (up : Bool) (detail : Nat) =>
      if q.link = up then [] else [(if up then EventKind.portUp else .portDown, (none : Option Subject), (0 : Int), detail)]
    (s.phase = .coldHeld → exec (.linkStatusRead upA upB) s = .next s) ∧
    (s.phase ≠ .coldHeld → exec (.linkStatusRead upA upB) s = .next { s with
      portA := read s.portA upA, portB := read s.portB upB
      record := s.recordWith (events s.portA upA 1 ++ events s.portB upB 2) })

/-! ## Frames (R179 to R182) -/

/-- R179 to R181: a bad frame, a frame at a port that is DOWN, and a removed frame leave no trace; a frame of another EtherType,
a malformed telegram (which is counted) and a telegram that no block takes in are forwarded: they join the forward queue of the
other port, or are counted as a drop when it is full, or are discarded while that port is DOWN. R179: a free port transmits the
front of its own queue, or else the front of its forward queue, which is counted as forwarded; a port that is DOWN, or with
nothing waiting, transmits nothing. R191: a part held by NRST transmits nothing, and an arriving frame leaves no trace. The frame
that left last is kept in a field of the model's own (log 11). R180: a frame is removed when the EtherType in force goes with the own
station ID as sender, or the EtherType and station ID of the retired identity do; the own station ID is the one set, or 0x7F00 plus the
SID straps. The sender is octets 2 and 3 of the payload, of a frame that is no telegram too (log 25). -/
def Obligations.FramesAreForwardedOrDiscarded : Prop :=
  (∀ (s : State) (p : Port) (f : Frame), s.handovers = [] → s.phase ≠ .coldHeld →
      let forwarded := fun (x : State) => x.modPort p.other fun q =>
        if q.link = false then q
        else if q.forwardQ.length < 16 then { q with forwardQ := q.forwardQ ++ [f] }
        else { q with forwardDrops := q.forwardDrops + 1 }
      exec (.badFcsFrame p f) s = .next s ∧
      (∀ c : Instr, c.arrival = some (p, f) → (s.port p).link = false ∨ removed s f = true → exec c s = .next s) ∧
      (removed s f = true → exec (.removeOwnTelegram p f) s = .next s) ∧
      ((s.port p).link = true → removed s f = false →
        (f.etherType ≠ s.settings.etherType → exec (.forwardFrame p f) s = .next (forwarded s)) ∧
        (f.etherType = s.settings.etherType → parseTelegram f.payload = none →
          exec (.malformedTelegram p f) s =
            .next (forwarded (s.modPort p fun q => { q with malformed := q.malformed + 1 }))) ∧
        (∀ t, f.etherType = s.settings.etherType → parseTelegram f.payload = some t →
          t.kind = kindActionOrder ∨ t.kind = kindResponse ∨ t.kind = kindBeacon ∨
            (t.kind = kindRequest ∧ t.dest ≠ s.ownId) →
          exec (.forwardTelegram p f) s = .next (if t.dest = s.ownId then s else forwarded s)))) ∧
  (∀ (c : Instr) (s : State) (p : Port) (f : Frame), s.handovers = [] → s.phase = .coldHeld →
      c = .badFcsFrame p f ∨ c.arrival = some (p, f) → exec c s = .next s) ∧
  (∀ (s : State) (p : Port), s.handovers = [] →
      (s.phase = .coldHeld ∨ (s.port p).link = false ∨ ((s.port p).ownQ = [] ∧ (s.port p).forwardQ = []) →
        exec (.frameTransmit p) s = .next s) ∧
      (s.phase ≠ .coldHeld → (s.port p).link = true →
        (∀ f rest, (s.port p).ownQ = f :: rest →
          exec (.frameTransmit p) s = .next (s.modPort p fun q => { q with ownQ := rest, lastOut := some f })) ∧
        (∀ f rest, (s.port p).ownQ = [] → (s.port p).forwardQ = f :: rest →
          exec (.frameTransmit p) s =
            .next (s.modPort p fun q => { q with forwardQ := rest, forwarded := q.forwarded + 1, lastOut := some f })))) ∧
  (∀ (s : State) (f : Frame),
      let names := fun (etherType : BitVec 16) (id : StationId) =>
        f.etherType = etherType ∧ 4 ≤ f.payload.length ∧ read16 f.payload 2 = id.toNat
      s.ownId = (if s.settings.ownId = 0 then 0x7F00 + s.sid.setWidth 16 else s.settings.ownId) ∧
      (removed s f = true ↔ names s.settings.etherType s.ownId ∨ ∃ r, s.retired = some r ∧ names r.etherType r.id) ∧
      (∀ t, parseTelegram f.payload = some t → (removed s f = true ↔
        (f.etherType = s.settings.etherType ∧ t.sender = s.ownId) ∨
          ∃ r, s.retired = some r ∧ f.etherType = r.etherType ∧ t.sender = r.id)))

/-- R192: while WRST is low no arriving frame is taken in, whatever it is, and no timer of a block expires: only the ports
change. -/
def Obligations.WarmHeldPartTakesNothingIn : Prop :=
  ∀ (c : Instr) (s : State), s.phase = .warmHeld → s.handovers = [] →
    (c.expiry = true → exec c s = .next s) ∧
    (∀ p f, c.arrival = some (p, f) → ∃ t, exec c s = .next t ∧ t = { s with portA := t.portA, portB := t.portB } ∧
      (∀ q, (t.port q).ownQ = (s.port q).ownQ ∧ (t.port q).link = (s.port q).link ∧ (t.port q).lastOut = (s.port q).lastOut) ∧
      ((t.port p.other).forwardQ = (s.port p.other).forwardQ ∨
        (t.port p.other).forwardQ = (s.port p.other).forwardQ ++ [f]))

/-- R178, R182: a telegram the part forms takes the next telegram sequence, joins the own queue of each port that is UP, with the
broadcast destination, the source address of the own station ID and the EtherType in force, and is counted as an own drop by a
port whose own queue is full; nothing else changes. R194, R195: it is read back, from the octets of its frame, with exactly the
kind, sender, destination, sequence and body it was formed with, and reaches the Ethernet minimum. -/
def Obligations.FormedTelegramJoinsBothOwnQueues : Prop :=
  (∀ (kind : Nat) (dest : StationId) (body : Octets) (s : State),
    let t := formTelegram kind dest body s
    let f : Frame := ⟨0xFFFFFFFFFFFF, 0x020000000000 + s.ownId.setWidth 48, s.settings.etherType,
      telegramOctets kind s.ownId dest (s.telSeq + 1) body⟩
    t = { s with telSeq := s.telSeq + 1, portA := t.portA, portB := t.portB } ∧
    ∀ p, ((s.port p).link = false → t.port p = s.port p) ∧
      ((s.port p).link = true → (s.port p).ownQ.length < 32 →
        t.port p = { s.port p with ownQ := (s.port p).ownQ ++ [f] }) ∧
      ((s.port p).link = true → 32 ≤ (s.port p).ownQ.length →
        t.port p = { s.port p with ownDrops := (s.port p).ownDrops + 1 })) ∧
  (∀ (kind : Nat) (sender dest : StationId) (seq : TelSeq) (body : Octets),
    sender ≠ 0 → sender ≠ 0xFFFF → dest ≠ 0 → body.length < 65536 → bodyFits kind body = true →
    parseTelegram (telegramOctets kind sender dest seq body) = some ⟨kind, sender, dest, seq, body⟩ ∧
    46 ≤ (telegramOctets kind sender dest seq body).length ∧
    senderOf (telegramOctets kind sender dest seq body) = some sender)

/-! ## Sample Intake (R5 to R20) -/

/-- R5, R6: a Sample Report from no publisher, from a GATEWAY, or no newer than the last of a FRESH entry leaves no trace but its
forwarding; an admitted one of quality SUSPECT has its sequence and arrival recorded and nothing else. R2: newer is the forward
half of the circle of 65,536 sequences, so of two different sequences exactly one is newer than the other unless they are 32,768
apart, when neither is. -/
def Obligations.SampleReportSetAside : Prop :=
  (∀ (s : State) (p : Port) (f : Frame) (t : Telegram), Arrives s p f t → t.kind = kindSampleReport →
    (findIndex s.sources (fun e => e.used && e.publisher = t.sender) = none →
      exec (.sampleReport p f) s = .next (passedOn p f t s)) ∧
    (∀ i, findIndex s.sources (fun e => e.used && e.publisher = t.sender) = some i →
      ((s.sources[i]).role = .gateway ∨
          ((s.sources[i]).fresh = true ∧ ∃ l, (s.sources[i]).lastSeq = some l ∧ newer t.seq l = false) →
        exec (.sampleReport p f) s = .next (passedOn p f t s)) ∧
      ((s.sources[i]).role ≠ .gateway →
        ((s.sources[i]).fresh = false ∨ (s.sources[i]).lastSeq = none ∨
          ∃ l, (s.sources[i]).lastSeq = some l ∧ newer t.seq l = true) → read8 t.body 4 ≠ 0 →
        exec (.sampleReport p f) s = .next ((passedOn p f t s).modSource i fun e =>
          { e with lastSeq := some t.seq, lastArrival := some s.partTime })))) ∧
  (∀ a b : TelSeq,
    (newer b a = true ↔ 1 ≤ (b.toNat + 65536 - a.toNat) % 65536 ∧ (b.toNat + 65536 - a.toNat) % 65536 ≤ 32767) ∧
    ¬ (newer b a = true ∧ newer a b = true) ∧
    (a ≠ b → newer b a = false → newer a b = false → b = a + 32768))

/-- R5, R7, R8, R9, R10: an accepted Sample Report records its sequence and arrival, makes its entry FRESH with a full stale
timer, and writes, of each quantity its record takes, the first item, clamped to the quantity's range; every other field that
only commands change is as it was. R19, R31, R32, R33: one of the reference that gives the frequency joins the Frequency History,
is the frequency of the sheet and forms RoCoF over the window. R130, R131, R139: it clears the latches of the stages that have
recovered and, at or above the restore frequency, the deficit latch and its progress; each enabled stage below its threshold starts
its timer (a delay of 0 trips it at once), a running one runs on below threshold plus hysteresis and stops there; the restore delay
starts, runs on or, with a count of 0, grants permission at or above the restore frequency, and below it stops and takes permission
away. Stated with no order waiting, no deficit to shed, no feeder to restore, no WAIT_FREQ step and, for a stage that trips, no entry
and no run. R102, R103: a PRESS of an AIR entry at or above the air ready pressure ends the hold-off
early: the next crank is granted, or the arbiter is FREE; submissions are stated with no order waiting. R143: a report for the feeder
that the freshness barrier counts is the first, or ends COUNTING and starts the step interval, here of some duration. Both are stated
for a FRESH entry. -/
def Obligations.AcceptedSampleWritesItsRecord : Prop :=
  (∀ (s : State) (p : Port) (f : Frame) (t : Telegram) (i : Fin 64), Arrives s p f t → t.kind = kindSampleReport →
    findIndex s.sources (fun e => e.used && e.publisher = t.sender) = some i → (s.sources[i]).role ≠ .gateway →
    ((s.sources[i]).fresh = false ∨ newerOrFirst t.seq (s.sources[i]).lastSeq = true) → read8 t.body 4 = 0 →
    let e := s.sources[i]
    let item := fun (kind : Nat) (lo hi : Int) (old : Option Int) =>
      match (sampleItems t.body).find? fun x => x.1 = kind with
      | some x => some (max lo (min hi x.2))
      | none => old
    let count := fun (kind : Nat) (hi : Int) (old : Option Nat) => (item kind 0 hi (old.map Int.ofNat)).map Int.toNat
    ∃ t', exec (.sampleReport p f) s = .next t' ∧ t'.handovers = [] ∧
      t'.given = { s.given with
        portA := (passedOn p f t s).portA.given, portB := (passedOn p f t s).portB.given, sources := t'.sources
        units := t'.given.units, feeders := t'.given.feeders } ∧
      (∀ j, j ≠ i → t'.sources[j] = s.sources[j]) ∧
      t'.sources[i] = { e with
        lastSeq := some t.seq, lastArrival := some s.partTime, fresh := true, staleTimer := some (timeOrSecond e.staleLimit)
        f := if e.role = .reference then count 2 99999 e.f else e.f
        u := if e.role = .reference then count 3 2000 e.u else e.u
        press := if e.role = .air then count 7 4000 e.press else e.press
        clamped := (t'.sources[i]).clamped } ∧
      (∀ u : Fin 16, e.role ≠ .unit ∨ e.target ≠ u.val → (t'.units[u]).given = (s.units[u]).given) ∧
      (∀ u : Fin 16, e.role = .unit → e.target = u.val →
        let r := s.units[u]
        (t'.units[u]).given = { r.given with
          p := if r.kind = .unused then r.p else item 1 (-65535) 65535 r.p
          f := if r.kind = .genset then count 2 99999 r.f else r.f
          avail := if r.kind = .pv then item 4 (-65535) 65535 r.avail else r.avail
          dis := if r.kind = .store then item 5 (-65535) 65535 r.dis else r.dis
          chg := if r.kind = .store then item 6 (-65535) 65535 r.chg else r.chg
          clamped := (t'.units[u]).clamped }) ∧
      (∀ k : Fin 32, e.role ≠ .feeder ∨ e.target ≠ k.val → (t'.feeders[k]).given = (s.feeders[k]).given) ∧
      (∀ k : Fin 32, e.role = .feeder → e.target = k.val →
        (t'.feeders[k]).given = { (s.feeders[k]).given with
          p := item 1 (-65535) 65535 (s.feeders[k]).p, clamped := (t'.feeders[k]).clamped })) ∧
  (∀ (s : State) (p : Port) (f : Frame) (t : Telegram) (i : Fin 64) (v : Int), FreqReport s p f t i v →
    ((s.sources[i]).lastSeq = none ∨ ∃ l, (s.sources[i]).lastSeq = some l ∧ newer t.seq l = true) →
    let freq := (max 0 (min 99999 v)).toNat
    let sampled := (passedOn p f t s).sampleTaken i t v
    let bank := s.bank
    let recovered := decide (bank.restoreFreq ≤ freq)
    let delay := timeMs bank.restoreDelay
    let latch := fun (k : Fin 8) =>
      s.shed.latches[k] && decide (bank.threshold[k] ≠ 0 ∧ freq < bank.threshold[k] + bank.hysteresis)
    let starts := fun (k : Fin 8) => decide (freq < bank.threshold[k] ∧ latch k = false ∧ s.shed.stageTimers[k] = none)
    let trips := fun (k : Fin 8) => starts k && decide (timeMs bank.delay[k] = 0)
    s.orders.queue = [] → s.seq.state ≠ .waiting → freq ≤ bank.fOfc →
    (∀ k : Fin 8, trips k = true → s.inRun = false ∧
      ∀ j : Fin 32, (s.shed.table[j]).feeder = none ∨ (s.shed.table[j]).stage ≠ k) →
    (recovered = true → s.shed.stack = [] ∨ (s.shed.permission = false ∧ delay ≠ 0)) → (delay = 0 → s.seq.stack = []) →
    bank.deficitArming ≤ freq ∨ (∀ r, sampled.sheet.rocof = some r → -(bank.deficitTrigger : Int) < r) →
    ∃ t', exec (.sampleReport p f) s = .next t' ∧
      t' = { sampled with
        shed := { s.shed with
          stageTimers := t'.shed.stageTimers, latches := t'.shed.latches
          deficitLatch := s.shed.deficitLatch && !recovered
          progress := if recovered = true then none else s.shed.progress
          restoreDelay := if recovered = false then none
            else if s.shed.permission = true ∨ s.shed.restoreDelay ≠ none then s.shed.restoreDelay else startTimer delay
          permission := recovered && (s.shed.permission || decide (s.shed.restoreDelay = none ∧ delay = 0)) }
        dispatch := { s.dispatch with
          restoreWait := if s.inRun = true ∧ recovered = true then s.dispatch.restoreWait else none }
        record := s.recordWith (((List.finRange 8).filter trips).map fun k =>
          (EventKind.stageTrip, (none : Option Subject), (freq : Int), k.val + 1)) } ∧
      (∀ k : Fin 8, t'.shed.latches[k] = (latch k || trips k)) ∧
      (∀ k : Fin 8, t'.shed.stageTimers[k] =
        if starts k = true then startTimer (timeMs bank.delay[k])
        else if latch k = true ∨ freq < bank.threshold[k] + bank.hysteresis ∨ bank.threshold[k] = 0 then s.shed.stageTimers[k]
        else none)) ∧
  (∀ (s : State) (p : Port) (f : Frame) (t : Telegram) (i : Fin 64), Arrives s p f t → t.kind = kindSampleReport →
    findIndex s.sources (fun e => e.used && e.publisher = t.sender) = some i → (s.sources[i]).fresh = true →
    newerOrFirst t.seq (s.sources[i]).lastSeq = true → read8 t.body 4 = 0 →
    let admitted := fun (e : SourceEntry) =>
      { e with lastSeq := some t.seq, lastArrival := some s.partTime, staleTimer := some (timeOrSecond e.staleLimit) }
    (∀ v : Int, (s.sources[i]).role = .air → (sampleItems t.body).find? (fun x => x.1 = 7) = some (7, v) →
      let press := (max 0 (min 4000 v)).toNat
      let s0 := (passedOn p f t s).modSource i fun e =>
        { admitted e with press := some press, clamped := decide ((press : Int) ≠ v) }
      let ready := s.arbiter.state = .holdoff ∧ s.settings.airReady ≠ 0 ∧ s.settings.airReady ≤ press
      (¬ ready → exec (.sampleReport p f) s = .next s0) ∧
      (ready → s.arbiter.batch = [] → s.arbiter.waiting = [] → exec (.sampleReport p f) s = .next { s0 with arbiter := {} }) ∧
      (∀ r rest, ready → s.arbiter.batch = r :: rest → r.cls ≠ .operator →
        let granted := s0.grantsNext r rest s.arbiter.waiting
        (s.inState r.unit .startQueued = false → exec (.sampleReport p f) s = .next granted) ∧
        (s.inState r.unit .startQueued = true → SheetKept s → TakesAlone s (.unit r.unit) →
          exec (.sampleReport p f) s = .next (granted.cranksAlone r.unit)))) ∧
    (∀ k : Fin 32, (s.sources[i]).role = .feeder → (s.sources[i]).target = k.val → SheetKept s →
      timeMs s.bank.stepInterval ≠ 0 →
      ∃ t', exec (.sampleReport p f) s = .next t' ∧
        t' = { (passedOn p f t s).modSource i admitted with feeders := t'.feeders, sheet := t'.sheet, shed := t'.shed } ∧
        ((s.feeders[k]).used = false ∨ (∀ owner n, s.shed.barrier ≠ .counting k owner n) → t'.shed = s.shed) ∧
        (∀ owner n, (s.feeders[k]).used = true → s.shed.barrier = .counting k owner n →
          (n = 0 → t'.shed = { s.shed with barrier := .counting k owner 1 }) ∧
          (n ≠ 0 → t'.shed = { s.shed with barrier := .stepping k owner (timeMs s.bank.stepInterval) }))))

/-- R15, R16, R196: a Position Report from no device, or no newer than the last one admitted, leaves no trace but its
forwarding; an admitted one writes the device state of its record, an unknown breaker or engine code leaving that field. -/
def Obligations.PositionReportWritesDeviceState : Prop :=
  ∀ (s : State) (p : Port) (f : Frame) (t : Telegram), Arrives s p f t → t.kind = kindPositionReport →
    let breaker := fun (old : Breaker) => ([.opened, .closed, .moving, .unknown][read8 t.body 1]?).getD old
    let engine := fun (old : Engine) =>
      ([.absent, .stopped, .prelube, .cranking, .firing, .cooling, .faulted][read8 t.body 2]?).getD old
    let flag := fun n => (octet t.body 3).getLsbD n
    let rest := fun (t' : State) => t'.handovers = [] ∧ t'.given = { s.given with
      portA := (passedOn p f t s).portA.given, portB := (passedOn p f t s).portB.given
      units := t'.given.units, feeders := t'.given.feeders }
    (recordOf s t.sender = none → exec (.positionReport p f) s = .next (passedOn p f t s)) ∧
    (∀ u l, recordOf s t.sender = some (.unit u) → (s.units[u]).lastPos = some l → newer t.seq l = false →
      exec (.positionReport p f) s = .next (passedOn p f t s)) ∧
    (∀ k l, recordOf s t.sender = some (.feeder k) → (s.feeders[k]).lastPos = some l → newer t.seq l = false →
      exec (.positionReport p f) s = .next (passedOn p f t s)) ∧
    (∀ u, recordOf s t.sender = some (.unit u) → newerOrFirst t.seq (s.units[u]).lastPos = true →
      ∃ t', exec (.positionReport p f) s = .next t' ∧ rest t' ∧
        (∀ v : Fin 16, v ≠ u → (t'.units[v]).given = (s.units[v]).given) ∧
        (∀ k : Fin 32, (t'.feeders[k]).given = (s.feeders[k]).given) ∧
        (t'.units[u]).given = { (s.units[u]).given with
          lastPos := some t.seq, breaker := breaker (s.units[u]).breaker, isLocal := flag 2, inhibit := flag 0
          engine := if (s.units[u]).kind = .genset then engine (s.units[u]).engine else (s.units[u]).engine
          unloaded := if (s.units[u]).kind = .genset then flag 3 else (s.units[u]).unloaded }) ∧
    (∀ k, recordOf s t.sender = some (.feeder k) → newerOrFirst t.seq (s.feeders[k]).lastPos = true →
      ∃ t', exec (.positionReport p f) s = .next t' ∧ rest t' ∧
        (∀ u : Fin 16, (t'.units[u]).given = (s.units[u]).given) ∧
        (∀ j : Fin 32, j ≠ k → (t'.feeders[j]).given = (s.feeders[j]).given) ∧
        (t'.feeders[k]).given = { (s.feeders[k]).given with
          lastPos := some t.seq, breaker := breaker (s.feeders[k]).breaker, inhibit := flag 0 })

/-- R12 to R14, R115, R116, R117, R119: a Setpoint Order of a GATEWAY that is its first or a newer one makes its entry FRESH, with
FRESH logged for one that was STALE (log 19) and no stale timer, and sets or releases the mirror of the plant it is sent to: the value
clamped to 0 … rated, for the mirror life, and MIRROR_SET is logged. A limit queued above the plant's bound is lowered to it. A
participating plant's last-sent follows the copy, unless the copy is a release or lies above last-sent, when it is submitted again and
the plant is out of step (log 33); that re-assert is stated for an empty queue with the plant in its cycle time. The order of the
entries that one event logs is log 24. -/
def Obligations.SetpointOrderSetsTheMirror : Prop :=
  ∀ (s : State) (p : Port) (f : Frame) (t : Telegram) (i : Fin 64), Arrives s p f t →
    t.kind = kindSetpointOrder →
    findIndex s.sources (fun e => e.used && e.role = .gateway && e.publisher = t.sender) = some i →
    let last := (s.sources[i]).lastSeq
    (∀ l, last = some l → newer t.seq l = false → exec (.setpointOrder p f) s = .next (passedOn p f t s)) ∧
    (last = none ∨ (∃ l, last = some l ∧ newer t.seq l = true) → s.freqSource = sourceChoice s →
      let value := readSigned t.body 0
      let freshened : List Logged :=
        if (s.sources[i]).fresh then [] else [(.fresh, some ⟨.source, i.val⟩, -1, 0)]
      let s0 := { (passedOn p f t s).modSource i (fun e =>
          { e with lastSeq := some t.seq, lastArrival := some s.partTime, fresh := true, staleTimer := none }) with
        record := s.recordWith freshened }
      (plantOf s t.dest = none → exec (.setpointOrder p f) s = .next s0) ∧
      (∀ u : Fin 16, plantOf s t.dest = some u →
        let r := s.units[u]
        let clamped := max 0 (min (r.rated : Int) value)
        let mirrored : PvControl :=
          if value = 0x7FFFFFFF then { r.pv with mirrorValid := false, mirrorExpiry := none }
          else { r.pv with mirror := clamped.toNat, mirrorValid := true, mirrorExpiry := mirrorExpiryFrom s }
        let event : Logged := (.mirrorSet, some ⟨.unit, u.val⟩,
          if value = 0x7FFFFFFF then 0 else clamped, if value = 0x7FFFFFFF then 3 else if clamped = value then 1 else 2)
        ((r.participating = false ∨ (value ≠ 0x7FFFFFFF ∧ ∀ last, r.pv.lastSent = some last → clamped ≤ last) ∨
            (value = 0x7FFFFFFF ∧ r.pv.lastSent = none)) →
          ∃ t', exec (.setpointOrder p f) s = .next t' ∧
            t' = { s0 with units := t'.units, record := s.recordWith (freshened ++ [event]), orders := t'.orders } ∧
            (∀ v : Fin 16, v ≠ u → t'.units[v] = s.units[v]) ∧
            t'.units[u] = { r with pv := { mirrored with
              lastSent := if r.participating = true ∧ value ≠ 0x7FFFFFFF then some mirrored.mirror else r.pv.lastSent } } ∧
            t'.orders = { s.orders with queue := s.orders.queue.map fun o =>
              if value ≠ 0x7FFFFFFF ∧ o.kind = .limit ∧ o.target = .unit u ∧ clamped < o.value then { o with value := clamped }
              else o }) ∧
        (∀ last, r.participating = true → r.pv.lastSent = some last → (value = 0x7FFFFFFF ∨ (last : Int) < clamped) →
          s.orders.queue = [] → r.cycle ≠ none → s.settings.queueOffset ≤ 30 → s.orders.queueHigh = false →
          ∃ t' o, exec (.setpointOrder p f) s = .next t' ∧
            t' = { s0 with
              units := t'.units, orders := t'.orders
              record := s.recordWith (freshened ++ [event, (.reassert, some ⟨.unit, u.val⟩, last, 0)]) } ∧
            (∀ v : Fin 16, v ≠ u → t'.units[v] = s.units[v]) ∧
            t'.units[u] = { r with pv := { mirrored with outOfStep := true } } ∧
            t'.orders = { s.orders with
              queue := [o], counters := { s.orders.counters with accepted := s.orders.counters.accepted + 1 } } ∧
            o.kind = .limit ∧ o.target = .unit u ∧ o.cause = .curtail ∧ o.device = r.device ∧
            o.value = min (last : Int) (if value = 0x7FFFFFFF then r.rated else min (r.rated : Int) clamped))))

/-- R12: at the end of its stale time a publisher's entry goes STALE, and no other entry changes; STALE is logged with the entry
as subject and the target of a UNIT or FEEDER entry as value, or −1, and one of the primary reference stops the dead-bus timer
and clears the declared blackout (R150). The log is stated for an entry whose staleness leaves the frequency source as it is. R18,
R31, R33, R130, R139: with the reference that gives the frequency, and no other source left, the frequency and RoCoF become
invalid, FREQ_SOURCE is logged, the history is emptied, the stage timers stop and permission is withdrawn; stated with no order
waiting. A command for a timer that is not due acts on nothing (log 2). The order of the entries that one event logs is log 24. -/
def Obligations.StaleTimerExpiryMakesStale : Prop :=
  ∀ (s : State) (i : Fin 64), Quiet s →
    let e := s.sources[i]
    let stale := s.modSource i (fun e => { e with fresh := false, staleTimer := none })
    let seq := if s.primaryRef = some i then { s.seq with deadBusTimer := none, declared := false } else s.seq
    let event : Logged :=
      (.stale, some ⟨.source, i.val⟩, if e.role = .unit ∨ e.role = .feeder then (e.target : Int) else -1, 0)
    (e.staleTimer ≠ some 0 → exec (.staleTimerExpiry i) s = .next s) ∧
    (e.staleTimer = some 0 →
      (∃ t, exec (.staleTimerExpiry i) s = .next t ∧ t.handovers = [] ∧
        t.given = { s.given with sources := t.sources } ∧ (∀ j, j ≠ i → t.sources[j] = s.sources[j]) ∧
        t.sources[i] = { e with fresh := false, staleTimer := none }) ∧
      (SheetKept s → sourceChoice stale = s.freqSource → exec (.staleTimerExpiry i) s =
        .next { stale with seq := seq, record := s.recordWith [event] }) ∧
      (e.role = .reference → s.freqSource = .reference i → sourceChoice stale = .absent → s.orders.queue = [] →
        exec (.staleTimerExpiry i) s = .next { stale with
          seq := seq, record := s.recordWith [event, (.freqSource, none, 0, 4)], freqSource := .absent, history := []
          sheet := { s.sheet with freq := none, rocof := none }
          shed := { s.shed with stageTimers := Vector.replicate 8 none, restoreDelay := none, permission := false }
          dispatch := { s.dispatch with restoreWait := none } }))

/-! ## The Balance Sheet and the PV limits (R23 to R40) -/

/-- R24 to R28: each quantity of the sheet is the exact sum of its definition over the records, clamped to its range, whatever the
records hold, and RES, REQ, MARGIN and EXP are formed from terms as they stand on the sheet; the frequency and RoCoF stay. A genset is
in the online set by its state, or by its reports where Dispatch does not drive it, and an absent quantity is 0. -/
def Obligations.SheetStaysInRange : Prop :=
  ∀ s : State,
    let b := computeSheet s
    (∀ x ∈ [b.l, b.gd, b.gpv, b.gb, b.res, b.margin, b.exp], -1048575 ≤ x ∧ x ≤ 1048575) ∧
    (∀ x ∈ [b.cd, b.dmin, b.q, b.chgSum, b.req], 0 ≤ x ∧ x ≤ 1048575) ∧
    b.res = max (-1048575) (min 1048575 (b.cd - b.gd + b.q)) ∧
    b.margin = max (-1048575) (min 1048575 (b.res - b.req)) ∧
    b.res ≤ b.exp ∧ b.freq = s.sheet.freq ∧ b.rocof = s.sheet.rocof ∧
    let signed := fun (x : Int) => max (-1048575) (min 1048575 x)
    let atLeast0 := fun (x : Int) => max 0 (min 1048575 x)
    let units := fun (q : UnitRec → Int) => ((List.finRange 16).map fun u => q s.units[u]).sum
    let feeders := fun (q : FeederRec → Int) => ((List.finRange 32).map fun k => q s.feeders[k]).sum
    let online := fun (r : UnitRec) => r.kind = .genset ∧ (r.genset.state ∈ [.online, .unloading, .opening] ∨
      (r.genset.state ∈ [.unknown, .unavailable, .lockedOut] ∧ r.breaker = .closed ∧ r.engine = .firing))
    let starting := fun (r : UnitRec) =>
      r.kind = .genset ∧ r.genset.state ∈ [.startQueued, .cranking, .crankRest, .warming, .closing]
    b.l = signed (feeders fun f => if f.used = true ∧ (f.breaker = .closed ∨ f.breaker = .unknown) then f.p.getD 0 else 0) ∧
    b.gd = signed (units fun r => if online r then r.p.getD 0 else 0) ∧
    b.cd = atLeast0 (units fun r => if online r then (r.rated : Int) else 0) ∧
    b.dmin = atLeast0 (units fun r => if online r then ((r.rated * r.minLoad / 100 : Nat) : Int) else 0) ∧
    b.gpv = signed (units fun r => if r.kind = .pv then r.p.getD 0 else 0) ∧
    b.gb = signed (units fun r => if r.kind = .store then r.p.getD 0 else 0) ∧
    b.q = atLeast0 (units fun r => if r.kind = .store then max 0 (max 0 (r.dis.getD 0) - r.p.getD 0) else 0) ∧
    b.chgSum = atLeast0 (units fun r => if r.kind = .store then max 0 (r.chg.getD 0) else 0) ∧
    b.req = atLeast0 (s.bank.baseReserve + s.bank.coverFactor * max 0 b.gpv / 256) ∧
    b.exp = signed (b.res + units fun r => if starting r then (r.rated : Int) else 0)

/-- R36 to R40: an evaluation gives exactly the participating plants a limit, in index order, each between 0 and the plant's
rated power, never above a valid mirror nor more than one ramp step above last-sent, and 0 while the forced zero is in effect;
the shares together never exceed the ceiling. Each limit is its plant's share of the final ceiling by weight, with 1 kW of the
remainder for the first plants below their rating, clamped to the rating, then the mirror minimum and the ramp; the ceiling is
L + CHGsum − Dmin − N within 0 … S, reduced by the over-frequency droop and the forced zero. -/
def Obligations.PvLimitsStayInBounds : Prop :=
  (∀ (s : State) (bank : Bank),
    (pvLimits s bank).map Prod.fst = (List.finRange 16).filter (fun i => (s.units[i]).participating) ∧
    ∀ x ∈ pvLimits s bank, 0 ≤ x.2 ∧ x.2 ≤ (s.units[x.1]).rated ∧
      ((s.units[x.1]).pv.mirrorValid = true → x.2 ≤ (s.units[x.1]).pv.mirror) ∧
      (∀ last, (s.units[x.1]).pv.lastSent = some last → x.2 ≤ (last : Int) + bank.rampStep) ∧
      (s.forcedZero = true → x.2 = 0)) ∧
  (∀ (plants : List UnitRec) (c : Int), 0 ≤ c →
    (shares plants c).sum ≤ c ∧
    ((spread (c - (shares plants c).sum) (plants.zip (shares plants c))).map Prod.snd).sum ≤ c) ∧
  (∀ (s : State) (bank : Bank),
    let takes := fun (r : UnitRec) => r.kind = .pv ∧ r.mode = .auto ∧ r.device ≠ 0
    let plants := (List.finRange 16).filter fun u => decide (takes s.units[u])
    let total := fun (q : Fin 16 → Int) => (plants.map q).sum
    let rated := fun (u : Fin 16) => ((s.units[u]).rated : Int)
    let fixed := ((List.finRange 16).map fun u =>
      if (s.units[u]).kind = .pv ∧ ¬ takes s.units[u] then max 0 ((s.units[u]).p.getD 0) else 0).sum
    let base := max 0 (min (total rated) (s.sheet.l + s.sheet.chgSum - s.sheet.dmin - fixed))
    let drooped := match s.sheet.freq with
      | none => base
      | some f => if f ≤ bank.fOfc then base else if bank.fMax ≤ f then 0
        else base * ((bank.fMax : Int) - f) / ((bank.fMax : Int) - bank.fOfc)
    let ceiling := if s.inRun = true ∧ s.seq.pvReleased = false then 0 else drooped
    let weight := fun (u : Fin 16) => match (s.units[u]).avail with
      | none => rated u
      | some a => max 0 a
    let share := fun (u : Fin 16) =>
      if 0 < total weight then ceiling * weight u / total weight else ceiling * rated u / total rated
    let rest := ceiling - total share
    let below := fun (u : Fin 16) => decide (share u < rated u)
    let spreadTo := fun (u : Fin 16) => share u +
      if below u = true ∧ (((plants.filter fun v => decide (v < u) && below v).length : Nat) : Int) < rest then 1 else 0
    let capped := fun (u : Fin 16) =>
      let x := max 0 (min (rated u) (spreadTo u))
      if (s.units[u]).pv.mirrorValid = true then min x ((s.units[u]).pv.mirror : Int) else x
    pvLimits s bank = plants.map fun u => (u, match (s.units[u]).pv.lastSent with
      | none => capped u
      | some last => min (capped u) ((last : Int) + bank.rampStep)))

/-! ## Setting Banks (R42 to R50) -/

/-- R45: the thresholds of a written bank pass exactly when each enabled stage's lies strictly below that of every enabled stage
of lower number, and a bank that fails this is not taken. -/
def Obligations.StageThresholdsDescend : Prop :=
  (∀ b : Bank, descending (b.threshold.toList.filter fun x => x ≠ 0) = true ↔
    ∀ i j : Fin 8, i < j → b.threshold[i] ≠ 0 → b.threshold[j] ≠ 0 → b.threshold[j] < b.threshold[i]) ∧
  (∀ (s : State) (k : Fin 4) (o : Octets) (manager : StationId) (i j : Fin 8), k ≠ s.activeBank → i < j →
    (bankFrom o).threshold[i] ≠ 0 → (bankFrom o).threshold[j] ≠ 0 →
    (bankFrom o).threshold[i] ≤ (bankFrom o).threshold[j] →
    writeBankEntry k.val o manager s = (s, .badContent))

/-- R47, R48, R50: SELECT_BANK of the active bank is answered OK and is no switch, an index above 3 is answered BAD_INDEX, and
with nothing under way in the jobs a selection of another bank makes it active, logs BANK_SWITCH with the old number, recomputes
the sheet and starts the dispatch and curtail timers with the new bank's intervals. R50: each timer of the jobs that runs at a
switch starts again with the new bank's duration, and a stage timer whose stage is disabled there stops; stated with no order
waiting, a reserve that the switch leaves as it was, and no duration of 0 for a timer that runs. -/
def Obligations.SelectBankSwitches : Prop :=
  ∀ (s : State) (p : Port) (f : Frame) (t : Telegram) (s1 : State), Requested s p f t .selectBank s1 →
    (3 < (requestOf t).index → exec (.selectBank p f) s = .next (answered t .badIndex [] s1)) ∧
    (∀ b : Fin 4, (requestOf t).index = b.val →
      (b = s.activeBank → exec (.selectBank p f) s = .next (answered t .ok [] s1)) ∧
      (b ≠ s.activeBank → AtRest s →
        exec (.selectBank p f) s = .next (answered t .ok [] { s1 with
          activeBank := b
          record := s.record.append s.settings.eventOffset
            ⟨s.record.nextSeq, s.partTime, .bankSwitch, some ⟨.bank, b.val⟩, s.activeBank.val, 1⟩
          sheet := computeSheet { s1 with activeBank := b }
          dispatch := { s.dispatch with timer := timeOrSecond (s.banks[b]).dispatchInterval }
          curtailTimer := timeOrSecond (s.banks[b]).curtailInterval })) ∧
      (b ≠ s.activeBank → s.orders.queue = [] →
        let bank := s.banks[b]
        let sheet := computeSheet { s1 with activeBank := b }
        let again := fun (x : Timer) (code : TimeCode) => x.map fun _ => timeMs code
        sheet.res = s.sheet.res ∧ sheet.req = s.sheet.req ∧ sheet.margin = s.sheet.margin ∧ sheet.exp = s.sheet.exp →
        (∀ i : Fin 8, s.shed.stageTimers[i] = none ∨ bank.threshold[i] = 0 ∨ timeMs bank.delay[i] ≠ 0) →
        (s.shed.restoreDelay = none ∨ timeMs bank.restoreDelay ≠ 0) →
        (s.dispatch.stopTimer = none ∨ timeMs bank.stopDelay ≠ 0) →
        (s.seq.deadBusTimer = none ∨ timeMs bank.deadBusTime ≠ 0) → timeMs bank.stepInterval ≠ 0 →
        ∃ a, exec (.selectBank p f) s = .next (answered t .ok [] a) ∧
          a = { s1 with
            activeBank := b, sheet := sheet
            record := s.recordWith [(.bankSwitch, some ⟨.bank, b.val⟩, s.activeBank.val, 1)]
            dispatch := { s.dispatch with
              timer := timeOrSecond bank.dispatchInterval
              stopTimer := s.dispatch.stopTimer.map fun x => { x with left := timeMs bank.stopDelay } }
            curtailTimer := timeOrSecond bank.curtailInterval
            shed := { s.shed with
              stageTimers := a.shed.stageTimers, restoreDelay := again s.shed.restoreDelay bank.restoreDelay
              barrier := match s.shed.barrier with
                | .stepping k owner _ => .stepping k owner (timeMs bank.stepInterval)
                | other => other }
            seq := { s.seq with deadBusTimer := again s.seq.deadBusTimer bank.deadBusTime } } ∧
          ∀ i : Fin 8, a.shed.stageTimers[i] =
            if bank.threshold[i] = 0 then none else again s.shed.stageTimers[i] bank.delay[i]))

/-! ## Action Orders (R53 to R75) -/

/-- R63: the tag given at a send is the first after the counter, with 255 followed by 1, that no slot holds; it is never 0, and
with at most 16 tags held it is found within 17 steps. -/
def Obligations.NextTagIsFirstFree : Prop :=
  ∀ (held : List Octet) (counter : Octet), held.length ≤ 16 →
    let tag := nextFreeTag held held.length counter
    tag ∉ held ∧ tag ≠ 0 ∧
      ∃ k ≤ held.length, tag = tagAfter^[k + 1] counter ∧ ∀ j < k, tagAfter^[j + 1] counter ∈ held

/-- R57, R58: a ROUTINE submission is answered FULL, and changes nothing, exactly when the queue holds 32 orders and none of the
same class, target and kind; it is MERGED, and nothing is counted, exactly when such an order of the same cause waits; otherwise
it is TAKEN and one order is counted as accepted. A PROTECTIVE order is merged into one that waits or counted as accepted. -/
def Obligations.SubmissionIsAnswered : Prop :=
  ∀ (o : Order) (s : State),
    let new := { o with cls := .routine, device := s.targetDevice o.target }
    let out := submitRoutine o s
    let accepted := s.orders.counters.accepted
    (s.orders.queue.find? new.sameSlot = none → 32 ≤ s.orders.queue.length → out = (s, .full)) ∧
    (s.orders.queue.find? new.sameSlot = none → s.orders.queue.length < 32 →
      out.2 = .taken ∧ out.1.orders.counters.accepted = accepted + 1) ∧
    (∀ q, s.orders.queue.find? new.sameSlot = some q → q.cause = o.cause →
      out.2 = .merged ∧ out.1.orders.counters.accepted = accepted) ∧
    (∀ q, s.orders.queue.find? new.sameSlot = some q → q.cause ≠ o.cause →
      out.2 = .taken ∧ out.1.orders.counters.accepted = accepted + 1) ∧
    (submitProtective o s).orders.counters.accepted =
      if (s.orders.queue.find? ({ new with cls := .protective } : Order).sameSlot).isSome then accepted else accepted + 1

/-- R65, R69, R70, R74, R75: an order whose deadline expires ends TIMED_OUT, or CONFIRMED when its expected report was seen under
a wait mode that waits, and one whose inhibit timer expires ends INHIBITED: its slot is freed, it is counted and, unless
CONFIRMED, logged with its tag, and its target's hold-off starts, a count of 0 leaving it idle (log 16). That part is stated for
an operator's order. A tag that no slot holds, a frozen deadline and a timer that is not due change nothing (log 2). Then the
owners, for each of these three outcomes. R92, R102: a CRANK releases the grant it had and takes its genset to WARMING,
CRANK_REST, LOCKED_OUT, COOLDOWN or STOPPED, START_FAIL carrying the attempts of the start, 0 for one taken from COOLDOWN (its
flag is log 46); R94, R98, R99: a CLOSE takes it to ONLINE or LOCKED_OUT, an UNLOAD to OPENING with an OPEN submitted or back to
ONLINE, an OPEN to COOLDOWN or LOCKED_OUT, a STOP to STOPPED or LOCKED_OUT; a LOAD, or an order its genset's state does not call
for, only stops being outstanding (R84). R142: a RESTORE CLOSE takes its feeder off the Shed Stack and starts the barrier, or
marks it FAILED and MANUAL. R155, R157, R161: a CLOSE_FEEDER that is CONFIRMED starts the barrier, also while SUSPENDED (log 23),
the last TRIP of an OPEN_FEEDERS ends it, and a failed order fails its step. All with an empty queue; the gensets with a calm
Dispatch and no timer of duration 0, the restoration with no genset ONLINE, and its failure while permission is not granted; the
steps that end with an idle barrier, going on to a WAIT_TIME or under HOLD. The order of the entries that one event logs is log
24, step serials and `ended` are log 9. -/
def Obligations.OrderTimersEndTheirOrders : Prop :=
  (∀ (s : State) (tag : Octet), Quiet s →
    ((∀ x ∈ s.orders.tracker, x.tag ≠ tag) →
      exec (.deadlineExpiry tag) s = .next s ∧ exec (.inhibitTimerExpiry tag) s = .next s) ∧
    (∀ x, s.orders.tracker.find? (fun y => y.tag = tag) = some x →
      let counters := s.orders.counters
      let quietOwner := x.order.cause = .operator ∧ x.order.kind ≠ .crank ∧ s.orders.queue = []
      (x.deadline ≠ 0 ∨ x.inhibit ≠ none → exec (.deadlineExpiry tag) s = .next s) ∧
      (x.inhibit ≠ some 0 → exec (.inhibitTimerExpiry tag) s = .next s) ∧
      (x.deadline = 0 → x.inhibit = none → quietOwner →
        (x.seen = true ∧ (s.profileOf x.order).waitMode.confirmsAtOnce = false → exec (.deadlineExpiry tag) s =
          .next (s.slotEnds x .confirmed { counters with confirmed := counters.confirmed + 1 })) ∧
        (x.seen = false ∨ (s.profileOf x.order).waitMode.confirmsAtOnce = true → exec (.deadlineExpiry tag) s =
          .next (s.slotEnds x .timedOut { counters with timedOut := counters.timedOut + 1 }))) ∧
      (x.inhibit = some 0 → quietOwner → exec (.inhibitTimerExpiry tag) s =
        .next (s.slotEnds x .inhibited { counters with inhibited := counters.inhibited + 1 })))) ∧
  (∀ (s : State) (tag : Octet) (x : Slot) (u : Fin 16) (e : OrderEnd) (c : Instr), SlotExpires s tag x e c →
    x.order.target = .unit u → x.order.cause = .dispatch → (s.units[u]).kind = .genset → SheetKept s →
    DispatchCalm { s with arbiter := {} } u →
    let r := s.units[u]
    let ended := s.slotEnds x e (s.orders.counters.ended e)
    let g := { s.genset u with
      outstanding := if (s.genset u).outstanding = some x.order.kind then none else (s.genset u).outstanding }
    let moves := fun (y : State) (new : GensetControl) (events : List (EventKind × Int × Nat)) =>
      let moved := y.modGenset u fun _ => new
      exec c s = .next { moved with
        sheet := computeSheet moved
        record := y.recordWith (events.map fun e => (e.1, some ⟨.unit, u.val⟩, e.2.1, e.2.2))
        seq := if new.state = .online then { s.seq with deadBusTimer := none, declared := false } else s.seq }
    let locked := fun (cause : LockoutCause) =>
      { g with state := .lockedOut, lockout := cause, startCause := .absent, attempts := 0, owed := none, timer := none }
    let trip := fun (cause : LockoutCause) => [(EventKind.gensetTrip, r.p.getD 0, cause.detail)]
    let fail := fun (cause : LockoutCause) =>
      [(EventKind.startFail, if g.fromCooldown then 0 else (g.attempts : Int), cause.detail)]
    let coolingDown := { g with state := .cooldown, timer := some (timeMs r.cooldown) }
    (∀ grant : CrankRequest, x.order.kind = .crank → g.state = .cranking → s.arbiter.grant = some grant → grant.unit = u →
      grant.cls ≠ .operator → (∀ w ∈ s.arbiter.batch ++ s.arbiter.waiting, w.unit ≠ u) →
      timeMs (s.profiles[x.order.profile]).holdOff ≠ 0 →
      let start := s.profiles[r.startProfile]
      let rest := max (timeMs start.cycle) start.deadline - start.deadline
      let released := { s.slotFreed x e (s.orders.counters.ended e) with
        arbiter := { s.arbiter with
          state := .holdoff, grant := none, holdOff := some (timeMs (s.profiles[x.order.profile]).holdOff) } }
      (g.startCause = .absent → e = .confirmed → timeMs r.cooldown ≠ 0 → moves released coolingDown []) ∧
      (g.startCause = .absent → e ≠ .confirmed → moves released { g with state := .stopped, timer := none } []) ∧
      (g.startCause ≠ .absent → e = .confirmed → timeMs r.warmUp ≠ 0 →
        moves released { g with state := .warming, timer := some (timeMs r.warmUp) } []) ∧
      (g.startCause ≠ .absent → e ≠ .confirmed → g.attempts < start.attempts → rest ≠ 0 →
        moves released { g with state := .crankRest, timer := some rest } []) ∧
      (g.startCause ≠ .absent → e ≠ .confirmed → start.attempts ≤ g.attempts →
        moves released (locked .startFail) (fail .startFail))) ∧
    (u ∉ s.arbiter.units →
      (x.order.kind = .close → g.state = .closing →
        (e = .confirmed → moves ended { g with state := .online, timer := none, startCause := .absent, attempts := 0 }
          [(.gensetOnline, r.rated, 0)]) ∧
        (e ≠ .confirmed → moves ended (locked .closeFail) (fail .closeFail))) ∧
      (x.order.kind = .unload → g.state = .unloading →
        (e = .confirmed → TakesAlone ended (.unit u) → exec c s =
          .next (((ended.modGenset u fun _ => { g with state := .opening, timer := none }).submitsAlone
            { target := .unit u, device := r.device, kind := .opn, cls := .routine, cause := .dispatch
              profile := r.breakerProfile }).modGenset u fun h => { h with outstanding := some .opn, owed := none })) ∧
        (e ≠ .confirmed → moves ended { g with state := .online, timer := none } [(.stopAbandoned, 0, e.detail)])) ∧
      (x.order.kind = .opn → g.state = .opening →
        (e = .confirmed → timeMs r.cooldown ≠ 0 → moves ended coolingDown []) ∧
        (e ≠ .confirmed → moves ended (locked .openFail) (trip .openFail))) ∧
      (x.order.kind = .stop → g.state = .stopping →
        (e = .confirmed → moves ended { g with state := .stopped, timer := none } [(.gensetStopped, 0, 0)]) ∧
        (e ≠ .confirmed → moves ended (locked .stopFail) (trip .stopFail))) ∧
      (x.order.kind = .load ∨ (x.order.kind = .close ∧ g.state ≠ .closing) ∨ (x.order.kind = .unload ∧ g.state ≠ .unloading) ∨
          (x.order.kind = .opn ∧ g.state ≠ .opening) ∨ (x.order.kind = .stop ∧ g.state ≠ .stopping) →
        exec c s = .next (ended.modGenset u fun _ => g)))) ∧
  (∀ (s : State) (tag : Octet) (x : Slot) (k : Fin 32) (e : OrderEnd) (c : Instr), SlotExpires s tag x e c →
    x.order.target = .feeder k → s.orders.queue = [] →
    let ended := s.slotEnds x e (s.orders.counters.ended e)
    (x.order.kind = .close → x.order.cause = .restore → (s.shed.underRestore ≠ some k → exec c s = .next ended) ∧
      (s.shed.underRestore = some k → s.dispatch.restoreWait = none → s.dispatch.stopTimer = none →
        (∀ u : Fin 16, s.inState u .online = false) →
        let load := ((s.shed.entryOf k).map fun y => (y.load : Int)).getD 0
        let left := fun (barrier : Barrier) =>
          { s.shed with underRestore := none, stack := s.shed.stack.filter (fun y => y.feeder ≠ k), barrier := barrier }
        (e = .confirmed → exec c s = .next { ended.modFeeder k (fun r => { r with owner := .free, shedLoad := none }) with
          shed := left (.counting k .restoration 0)
          record := ended.recordWith [(.feederRestored, some ⟨.feeder, k.val⟩, load, 0)] }) ∧
        (e ≠ .confirmed → SheetKept s → s.shed.permission = false → exec c s =
          .next { ended.modFeeder k (fun r => { r with owner := .free, shedLoad := none, failed := true, mode := .manual }) with
            shed := left s.shed.barrier
            record := ended.recordWith [(.feederFailed, some ⟨.feeder, k.val⟩, load, 2)] }))) ∧
    (x.order.cause = .sequencer →
      let q := s.seq
      let step := q.program[q.position]
      let orders := q.progress.orders.map fun o => if o.feeder = k ∧ o.ended = none then { o with ended := some e } else o
      let noted := { q with progress := { q.progress with orders := orders } }
      let event : Nat → Logged := fun detail =>
        (.seqStep, some ⟨.program, q.position.val⟩, q.position.val, detail)
      (x.order.step ≠ q.serial ∨ q.progress.ended = true ∨ s.inRun = false → exec c s = .next ended) ∧
      (x.order.step = q.serial → q.progress.ended = false → s.inRun = true →
        (step.kind = .closeFeeder → e = .confirmed → exec c s =
          .next { ended with seq := noted, shed := { s.shed with barrier := .counting k .sequencer 0 } }) ∧
        (step.kind = .openFeeders → e = .confirmed → (∃ o ∈ orders, o.ended = none) → exec c s =
          .next { ended with seq := noted }) ∧
        (∀ n : Fin 48, step.kind = .openFeeders → e = .confirmed → (∀ o ∈ orders, o.ended ≠ none) → q.state = .running →
          s.shed.barrier = .idle → n.val = q.position.val + 1 → WaitStep q n → exec c s = .next { ended with
            seq := ({ q with serial := q.serial + 1 } : Sequencer).waitsAt n, record := s.recordWith [event 1] }) ∧
        (step.kind = .openFeeders ∨ step.kind = .closeFeeder → e ≠ .confirmed → q.state = .running → s.shed.barrier = .idle →
          step.onFail = .hold → q.stack.length < 4 → exec c s = .next { ended with
            seq := { q with
              state := .suspended, stack := q.stack ++ [⟨.operator, s.activeBank, none⟩], stepTimeout := none
              progress := { ended := true }, serial := q.serial + 1 }
            record := ended.recordWith [event 3, (.seqSuspend, none, (q.stack.length + 1 : Nat), 2)] }))))

/-- R62, R64, R65: a cycle timer or hold-off timer that is due becomes idle, and with no eligible order waiting nothing else changes;
the one order that waits for either timer is sent. At the hold-off of the feeder on top of the Shed Stack a restore test follows (R140),
stated while permission is not granted or a run is in progress. A timer that is not due changes nothing (log 2). -/
def Obligations.TargetTimersBecomeIdle : Prop :=
  ∀ (s : State) (x : Target), Quiet s →
    let onTop := ∃ top, s.shed.stack.getLast? = some top ∧ x = .feeder top.feeder
    (s.cycleOf x ≠ some 0 → exec (.cycleTimerExpiry x) s = .next s) ∧
    (s.holdOffOf x ≠ some 0 → exec (.holdOffExpiry x) s = .next s) ∧
    (s.cycleOf x = some 0 →
      ((∀ o ∈ s.orders.queue, eligible (s.setCycle x none) o = false) →
        exec (.cycleTimerExpiry x) s = .next (match x with
          | .unit u => s.modUnit u fun r => { r with cycle := none }
          | .feeder f => s.modFeeder f fun r => { r with cycle := none })) ∧
      (∀ o, s.orders.queue = [o] → o.target = x → o.cls = .routine → s.orders.tracker = [] → s.holdOffOf x = none →
        closeAllowed s o = true → s.targetInhibit x = false → s.orders.queueHigh = false → s.settings.queueOffset ≤ 31 →
        exec (.cycleTimerExpiry x) s = .next (s.sendsAlone o))) ∧
    (s.holdOffOf x = some 0 →
      ((∀ o ∈ s.orders.queue, eligible (s.setHoldOff x none) o = false) →
        (¬ onTop ∨ s.inRun = true → exec (.holdOffExpiry x) s = .next (match x with
          | .unit u => s.modUnit u fun r => { r with holdOff := none }
          | .feeder f => s.modFeeder f fun r => { r with holdOff := none })) ∧
        (onTop → s.inRun = false → s.shed.permission = false → exec (.holdOffExpiry x) s =
          .next { s.setHoldOff x none with dispatch := { s.dispatch with restoreWait := none } })) ∧
      (∀ o, s.orders.queue = [o] → o.target = x → o.cls = .routine → s.orders.tracker = [] → s.cycleOf x = none →
        closeAllowed s o = true → s.targetInhibit x = false → s.orders.queueHigh = false → s.settings.queueOffset ≤ 31 →
        let sent := (s.setHoldOff x none).sendsAlone o
        (¬ onTop ∨ s.inRun = true → exec (.holdOffExpiry x) s = .next sent) ∧
        (onTop → s.inRun = false → s.shed.permission = false → exec (.holdOffExpiry x) s =
          .next { sent with dispatch := { s.dispatch with restoreWait := none } })))

/-- R55, R57, R61 to R64, R185, R188: an OPERATE of a feeder in MANUAL is taken: its order is sent at once when the device is
free, under the next tag and with its cycle timer started, and waits while the cycle timer runs; then the request is answered OK.
The same for a CLOSE, OPEN, UNLOAD, LOAD or STOP to a genset, under the profile of its kind, and for a LIMIT to a PV plant, its
value clamped between 0 and the bound (R119). An unused record, one with no device and one in AUTO are answered REFUSED_STATE, as
are any kind to a genset in UNKNOWN and a CLOSE to one in LOCKED_OUT; for another record a kind that does not suit it is answered
BAD_CONTENT, as is an octet that names no kind (R198). That such an octet is answered REFUSED_STATE for an unused record, one with
no device and one in AUTO is the model's choice (log 64). With a full queue that holds no order of the kind for the record the
answer is BUSY. The rest is stated with no order waiting, for a feeder with none out. -/
def Obligations.OperateSubmitsTheOrder : Prop :=
  (∀ (s : State) (p : Port) (f : Frame) (t : Telegram) (s1 : State) (k : Fin 32) (kind : OrderKind),
    Requested s p f t .operate s1 → (requestOf t).table = 3 → (requestOf t).index = k.val →
    8 ≤ (requestOf t).content.length →
    ((s.feeders[k]).used = false ∨ (s.feeders[k]).device = 0 ∨ (s.feeders[k]).mode = .auto →
      exec (.operate p f) s = .next (answered t .refusedState [] s1)) ∧
    ((s.feeders[k]).used = true → (s.feeders[k]).device ≠ 0 → (s.feeders[k]).mode = .manual →
      1 < read8 (requestOf t).content 0 → exec (.operate p f) s = .next (answered t .badContent [] s1)) ∧
    ((s.feeders[k]).used = true → (s.feeders[k]).device ≠ 0 → (s.feeders[k]).mode = .manual →
      (kind = .trip ∧ read8 (requestOf t).content 0 = 0) ∨ (kind = .close ∧ read8 (requestOf t).content 0 = 1) →
      (32 ≤ s.orders.queue.length → (∀ q ∈ s.orders.queue, ¬ (q.cls = .routine ∧ q.target = .feeder k ∧ q.kind = kind)) →
        exec (.operate p f) s = .next (answered t .busy [] s1)) ∧
      (s.orders.queue = [] → s.orders.tracker = [] → s.orders.queueHigh = false → s.settings.queueOffset ≤ 30 →
        let r := s.feeders[k]
        let profile := s.profiles[r.profile]
        let o : Order := { target := .feeder k, device := r.device, kind := kind, cls := .routine, cause := .operator,
                           profile := r.profile }
        let counters := s.orders.counters
        (r.cycle ≠ none ∨ r.holdOff ≠ none → exec (.operate p f) s = .next (answered t .ok []
          { s1 with orders := { s.orders with queue := [o], counters := { counters with accepted := counters.accepted + 1 } } })) ∧
        (r.cycle = none → r.holdOff = none → closeAllowed s o = true → r.inhibit = false →
          let tag := if s.orders.tagCounter = 255 then 1 else s.orders.tagCounter + 1
          exec (.operate p f) s = .next (answered t .ok [] (formTelegram kindActionOrder r.device (orderBody tag o)
            { s1 with
              orders := { s.orders with
                tracker := [{ order := o, tag := tag, deadline := profile.deadline }], tagCounter := tag
                counters := { counters with accepted := counters.accepted + 1, sent := counters.sent + 1 } }
              feeders := modifyAt s.feeders k fun r => { r with cycle := some (max (timeMs profile.cycle) profile.deadline) } })))))) ∧
  (∀ (s : State) (p : Port) (f : Frame) (t : Telegram) (s1 : State) (u : Fin 16) (kind : OrderKind),
    Requested s p f t .operate s1 → (requestOf t).table = 2 → (requestOf t).index = u.val →
    8 ≤ (requestOf t).content.length →
    ([.trip, .close, .crank, .unload, .load, .opn, .stop, .limit] : List OrderKind)[read8 (requestOf t).content 0]? = some kind →
    let r := s.units[u]
    let state := (s.genset u).state
    let suits := (r.kind = .genset ∧ kind ≠ .trip ∧ kind ≠ .limit) ∨ (r.kind = .pv ∧ kind = .limit)
    let refused := fun (status : Status) => exec (.operate p f) s = .next (answered t status [] s1)
    (r.kind = .unused ∨ r.device = 0 ∨ r.mode = .auto → refused .refusedState) ∧
    (r.kind ≠ .unused → r.device ≠ 0 → r.mode = .manual →
      (¬ suits → refused .badContent) ∧
      (suits → r.kind = .genset → state = .unknown ∨ (state = .lockedOut ∧ kind = .close) → refused .refusedState) ∧
      (suits → kind ≠ .crank → (r.kind = .genset → state ≠ .unknown ∧ ¬ (state = .lockedOut ∧ kind = .close)) →
        (32 ≤ s.orders.queue.length → (∀ q ∈ s.orders.queue, ¬ (q.cls = .routine ∧ q.target = .unit u ∧ q.kind = kind)) →
          refused .busy) ∧
        (TakesAlone s (.unit u) →
          let bound := if r.pv.mirrorValid then min (r.rated : Int) r.pv.mirror else r.rated
          exec (.operate p f) s = .next (answered t .ok [] (s1.submitsAlone
            { target := .unit u, device := r.device, kind := kind, cls := .routine, cause := .operator
              value := if kind = .limit then max 0 (min bound (readSigned (requestOf t).content 4)) else 0
              profile := if kind = .limit then r.limitProfile
                else if kind = .close ∨ kind = .opn then r.breakerProfile else r.stopProfile })))))) ∧
  (∀ (s : State) (p : Port) (f : Frame) (t : Telegram) (s1 : State) (u : Fin 16),
    Requested s p f t .operate s1 → (requestOf t).table = 2 → (requestOf t).index = u.val →
    8 ≤ (requestOf t).content.length → 7 < read8 (requestOf t).content 0 →
    let r := s.units[u]
    exec (.operate p f) s = .next (answered t
      (if r.kind = .unused ∨ r.device = 0 ∨ r.mode = .auto then .refusedState else .badContent) [] s1))

/-- R68, R69, R71, R73: a Position Report under a tag is matched with the tracker: with no order of that tag and target it is
logged LATE_REPORT; REFUSED ends the order; a state that is not the expected one changes nothing more; the expected one ends it
CONFIRMED, or is only noted under a wait mode that waits. R113: a CURTAIL LIMIT that is ACCEPTED moves its plant's last-sent and
clears out-of-step. R136: the Shed Stack entry of a shed TRIP that is CONFIRMED is DONE. R70: under a wait mode that freezes,
INHIBIT freezes the deadline for what is left of the inhibit limit, or ends the order INHIBITED when nothing is, and its clearing
thaws it; a deadline with 0 ms left does not expire within either change (log 61). Stated for a record that is no genset, with no
order waiting and a sheet that the report leaves as it was (when it is formed again is log 43); REFUSED and INHIBITED for an
operator's order, and the shed TRIP while permission is not granted and no feeder stands in the Shed Stack twice. A hold-off of
count 0 is log 16. -/
def Obligations.TaggedReportsJudgeTheirOrder : Prop :=
  ∀ (s : State) (p : Port) (f : Frame) (t : Telegram) (target : Target), Arrives s p f t → t.kind = kindPositionReport →
    recordOf s t.sender = some target →
    (s.lastPosOf target = none ∨ ∃ l, s.lastPosOf target = some l ∧ newer t.seq l = true) →
    (∀ u : Fin 16, target = .unit u → (s.units[u]).kind ≠ .genset) →
    let flag := fun n => (octet t.body 3).getLsbD n
    let tag := octet t.body 0
    let s0 := (passedOn p f t s).deviceReported target t
    let counters := s.orders.counters
    let slots := fun (g : Slot → Slot) (x : Slot) =>
      { s0 with orders := { s.orders with tracker := s.orders.tracker.map fun y => if y.tag = x.tag then g y else y } }
    SheetKept s0 → s.orders.queue = [] →
    (flag 0 = s.targetInhibit target → tag ≠ 0 →
      ((∀ x ∈ s.orders.tracker, x.tag = tag → x.order.target ≠ target) → exec (.positionReport p f) s =
        .next { s0 with record := s.recordWith [(.lateReport, targetSubject target, tag.toNat, 0)] }) ∧
      (∀ x, s.orders.tracker.find? (fun y => y.tag = tag && y.order.target = target) = some x →
        let shown := (x.order.kind = .trip ∧ s0.breakerOf target = .opened) ∨
          (x.order.kind = .close ∧ s0.breakerOf target = .closed) ∨ (x.order.kind = .limit ∧ flag 4 = true)
        let atOnce := (s.profileOf x.order).waitMode = .ready ∨ (s.profileOf x.order).waitMode = .readyFrozen
        let confirmed := s0.slotEnds x .confirmed { counters with confirmed := counters.confirmed + 1 }
        (x.order.kind = .trip ∧ (∃ k, target = .feeder k)) ∨ x.order.kind = .close ∨ x.order.kind = .limit →
        (x.order.cause = .operator → flag 1 = true → exec (.positionReport p f) s =
          .next (s0.slotEnds x .refused { counters with refused := counters.refused + 1 })) ∧
        (flag 1 = false →
          (¬ shown → exec (.positionReport p f) s = .next s0) ∧
          (shown → ¬ atOnce → exec (.positionReport p f) s = .next (slots (fun y => { y with seen := true }) x)) ∧
          (shown → atOnce →
            (x.order.cause = .operator → exec (.positionReport p f) s = .next confirmed) ∧
            (∀ u : Fin 16, target = .unit u → x.order.cause = .curtail → exec (.positionReport p f) s =
              .next (if (s.units[u]).participating
                then confirmed.modPv u fun r => { r with lastSent := some x.order.value.toNat, outOfStep := false }
                else confirmed)) ∧
            (∀ k : Fin 32, target = .feeder k → x.order.kind = .trip →
              x.order.cause = .stageShed ∨ x.order.cause = .deficitShed → StackKept s → s.shed.permission = false →
              s.dispatch.restoreWait = none → exec (.positionReport p f) s = .next { confirmed with
                shed := { s.shed with
                  stack := s.shed.stack.map fun e => if e.feeder = k then { e with done := true } else e } }))))) ∧
    (tag = 0 →
      (s.slotOf target = none → exec (.positionReport p f) s = .next s0) ∧
      (∀ x, s.slotOf target = some x →
        let freezes := (s.profileOf x.order).waitMode = .frozen ∨ (s.profileOf x.order).waitMode = .readyFrozen
        let limit := timeMs (s.profileOf x.order).inhibitLimit
        (¬ freezes ∨ flag 0 = s.targetInhibit target → exec (.positionReport p f) s = .next s0) ∧
        (freezes → s.targetInhibit target = false → flag 0 = true → x.inhibit = none →
          (x.frozenUsed < limit → exec (.positionReport p f) s =
            .next (slots (fun y => { y with inhibit := some (limit - x.frozenUsed) }) x)) ∧
          (limit ≤ x.frozenUsed → x.order.cause = .operator → x.order.kind ≠ .crank → exec (.positionReport p f) s =
            .next (s0.slotEnds x .inhibited { counters with inhibited := counters.inhibited + 1 }))) ∧
        (∀ left, x.inhibit = some left → freezes → s.targetInhibit target = true → flag 0 = false →
          (∀ y ∈ s.orders.tracker, y.tag = x.tag → y = x) → exec (.positionReport p f) s =
            .next (slots (fun y => { y with inhibit := none, frozenUsed := limit - left }) x))))

/-! ## The Crank Arbiter and Diesel Dispatch (R79 to R104) -/

/-- R100, R101, R103, R104, R188: an operator's CRANK of a genset in UNAVAILABLE joins the Waiting Set behind a grant or a
hold-off; with the arbiter FREE it is granted at once, CRANK_GRANT is logged with value 0 and class OPERATOR, and its CRANK is
submitted with the value of the request, stated with no order waiting. The entry keeps that value (log 10). One for a genset
present in the arbiter is answered BUSY, and one for a genset in another state, or LOCAL, REFUSED_STATE. -/
def Obligations.OperatorCrankWaitsItsTurn : Prop :=
  ∀ (s : State) (p : Port) (f : Frame) (t : Telegram) (s1 : State) (u : Fin 16), Requested s p f t .operate s1 →
    (requestOf t).table = 2 → (requestOf t).index = u.val → 8 ≤ (requestOf t).content.length →
    read8 (requestOf t).content 0 = 2 →
    (s.units[u]).kind = .genset → (s.units[u]).device ≠ 0 → (s.units[u]).mode = .manual →
    ((s.genset u).state ≠ .unavailable ∨ (s.units[u]).isLocal = true →
      exec (.operateCrank p f) s = .next (answered t .refusedState [] s1)) ∧
    ((s.genset u).state = .unavailable → (s.units[u]).isLocal = false →
      let r : CrankRequest := { unit := u, cls := .operator, value := readSigned (requestOf t).content 4 }
      (u ∈ s.arbiter.units → exec (.operateCrank p f) s = .next (answered t .busy [] s1)) ∧
      (u ∉ s.arbiter.units → s.arbiter.state ≠ .free →
        exec (.operateCrank p f) s = .next (answered t .ok [] { s1 with
          arbiter := { s.arbiter with waiting := s.arbiter.waiting ++ [r] } })) ∧
      (u ∉ s.arbiter.units → s.arbiter.state = .free → TakesAlone s (.unit u) →
        let granted := { s1 with
          arbiter := { s.arbiter with state := .granted, grant := some r, holdOff := none }
          record := s.recordWith [(.crankGrant, some ⟨.unit, u.val⟩, 0, 4)] }
        exec (.operateCrank p f) s = .next (answered t .ok [] (granted.submitsAlone
          { target := .unit u, device := (s.units[u]).device, kind := .crank, cls := .routine, value := r.value
            cause := .operator, profile := (s.units[u]).startProfile }))))

/-- R103: at the end of the hold-off the first of the Current Batch is granted; with an empty batch the Waiting Set, sorted by
cause class, start rank and unit index, becomes the batch and its first is granted; CRANK_GRANT is logged; with both empty the
arbiter goes to FREE. R92, R104: when the air hold-off expires so, a genset in START_QUEUED goes to CRANKING, its attempt is counted
and its CRANK submitted; under an OPERATOR grant the operator's CRANK is submitted; and a grant to a genset in another state does no
more. Submissions are stated with no order waiting. An expiry that is not due changes nothing (log 2). -/
def Obligations.HoldOffEndGrantsInOrder : Prop :=
  ∀ s : State,
    let before := fun (a b : CrankRequest) => a.cls.code < b.cls.code ∨ (a.cls.code = b.cls.code ∧
      ((s.units[a.unit]).startRank < (s.units[b.unit]).startRank ∨
        ((s.units[a.unit]).startRank = (s.units[b.unit]).startRank ∧ a.unit ≤ b.unit)))
    let next := fun (r : CrankRequest) (batch waiting : List CrankRequest) => nextCrank s = { s.grantsNext r batch waiting with
      handovers := s.handovers ++ [if r.cls = .operator then .operatorGrant r else .grant r.unit] }
    (∀ r rest, s.arbiter.batch = r :: rest → next r rest s.arbiter.waiting) ∧
    (s.arbiter.batch = [] → s.arbiter.waiting ≠ [] →
      ∃ r rest, next r rest [] ∧ (r :: rest).Perm s.arbiter.waiting ∧ (r :: rest).Pairwise before) ∧
    (Quiet s → s.arbiter.holdOff ≠ some 0 → exec .airHoldOffExpiry s = .next s) ∧
    (Quiet s → s.arbiter.holdOff = some 0 →
      (s.arbiter.batch = [] → s.arbiter.waiting = [] → exec .airHoldOffExpiry s = .next { s with arbiter := {} }) ∧
      (∀ r batch waiting, next r batch waiting →
        let u := r.unit
        let granted := s.grantsNext r batch waiting
        (r.cls ≠ .operator → s.inState u .startQueued = false → exec .airHoldOffExpiry s = .next granted) ∧
        (TakesAlone s (.unit u) →
          (r.cls = .operator → exec .airHoldOffExpiry s = .next (granted.submitsAlone
            { target := .unit u, device := (s.units[u]).device, kind := .crank, cls := .routine, value := r.value
              cause := .operator, profile := (s.units[u]).startProfile })) ∧
          (r.cls ≠ .operator → s.inState u .startQueued = true → SheetKept s → exec .airHoldOffExpiry s =
            .next (granted.cranksAlone u)))))

/-- R93, R85, R97, R101: at the end of the rest a genset goes to START_QUEUED, logs START_REQUEST with the attempts made and
its start cause, and its crank request joins the Waiting Set behind a grant or a hold-off; with the arbiter FREE it is granted at once
and the genset cranks (R92, R103). R79, R91, R94, R99: at the end of its warm-up a genset goes to CLOSING and a CLOSE is submitted to
its breaker, DEAD_BUS_OK with no frequency and no other genset ONLINE; at the end of its cooldown it goes to STOPPING and a STOP is
submitted. The order becomes the outstanding one, and the stop timer is idle. Submissions are stated with no order waiting, and the
STOP while the stop conditions hold for no candidate. A genset in another state, or whose timer is not due, is left as it is
(log 2). The order of the entries that one event logs is log 24. -/
def Obligations.StateTimersEndTheirStates : Prop :=
  ∀ (s : State) (u : Fin 16), Quiet s →
    let r := s.units[u]
    let idle := { s.dispatch with stopTimer := none }
    let submitted := fun (x : State) (state : GensetState) (attempts profile : Nat) (kind : OrderKind) (o : Order) =>
      { ((x.modGenset u fun g => { g with state := state, attempts := attempts, timer := none }).submitsAlone
          { o with device := r.device, kind := kind, cause := .dispatch, profile := Fin.ofNat 16 profile }).modGenset u
            (fun g => { g with outstanding := some kind, owed := none }) with
        dispatch := idle }
    let plain : Order := { target := .unit u, device := 0, kind := .stop, cls := .routine, cause := .dispatch, profile := 0 }
    (s.inState u .crankRest = false ∨ (s.genset u).timer ≠ some 0 → exec (.crankRestExpiry u) s = .next s) ∧
    (s.inState u .warming = false ∨ (s.genset u).timer ≠ some 0 → exec (.warmUpExpiry u) s = .next s) ∧
    (s.inState u .cooldown = false ∨ (s.genset u).timer ≠ some 0 → exec (.cooldownExpiry u) s = .next s) ∧
    ((s.genset u).timer = some 0 → SheetKept s →
      (∀ c, s.inState u .crankRest = true → (s.genset u).startCause.cls = some c → u ∉ s.arbiter.units →
        let request : Logged :=
          (.startRequest, some ⟨.unit, u.val⟩, (s.genset u).attempts, (s.genset u).startCause.code)
        (s.arbiter.state ≠ .free → exec (.crankRestExpiry u) s =
          .next { s.modGenset u (fun g => { g with state := .startQueued, timer := none }) with
            arbiter := { s.arbiter with waiting := s.arbiter.waiting ++ [{ unit := u, cls := c }] }
            dispatch := idle, record := s.recordWith [request] }) ∧
        (s.arbiter.state = .free → TakesAlone s (.unit u) → exec (.crankRestExpiry u) s =
          .next (submitted { s with
              arbiter := { s.arbiter with state := .granted, grant := some { unit := u, cls := c }, holdOff := none }
              record := s.recordWith [request,
                (.crankGrant, some ⟨.unit, u.val⟩, ((s.genset u).attempts + 1 : Nat), c.code)] }
            .cranking ((s.genset u).attempts + 1) r.startProfile.val .crank
            { plain with value := ((s.profiles[r.startProfile]).pulse.toNat : Int) }))) ∧
      (TakesAlone s (.unit u) →
        (s.inState u .warming = true → exec (.warmUpExpiry u) s = .next (submitted s .closing (s.genset u).attempts
          r.breakerProfile.val .close { plain with
            deadBusOk := decide (s.sheet.freq = none ∧ ∀ v : Fin 16, v ≠ u → s.inState v .online = false) })) ∧
        (s.inState u .cooldown = true → stopWanted s = none → exec (.cooldownExpiry u) s =
          .next (submitted s .stopping (s.genset u).attempts r.stopProfile.val .stop plain))))

/-- R79, R80 to R83, R25, R29: how a genset follows its reports. UNKNOWN goes to the derived state (STOPPED without combustion,
else ONLINE or COOLDOWN by the breaker), or to UNAVAILABLE when MANUAL or LOCAL, as does every other state but LOCKED_OUT;
UNAVAILABLE goes to the derived state once neither holds; an open breaker trips a genset that is ONLINE or UNLOADING, also one
whose engine shows FAULT in the same report (the model's choice, log 63), and a faulted engine every other one that Dispatch
drives; an engine STOPPED or NONE fails a start in WARMING or CLOSING (START_FAIL carries its attempts, 0 for a start taken from
COOLDOWN, whose flag is log 46), and STOPPED alone ends a COOLDOWN; one that fires in STOPPED has its derived state; other reports
leave the state. A report that takes a genset out of UNKNOWN or UNAVAILABLE does no more, also where its engine shows FAULT: the
model's choice (log 49). ONLINE, the lockouts and STOPPED are logged where the rule says so, and the sheet is formed again. Stated
for an untagged report, INHIBIT unchanged, a calm Dispatch, a cooldown of some duration and, for a genset that leaves ONLINE or
UNLOADING, a sheet that then needs no start (log 18 for when ONLINE is logged). -/
def Obligations.GensetFollowsItsReports : Prop :=
  ∀ (s : State) (p : Port) (f : Frame) (t : Telegram) (u : Fin 16), Arrives s p f t → t.kind = kindPositionReport →
    recordOf s t.sender = some (.unit u) → (s.units[u]).kind = .genset →
    ((s.units[u]).lastPos = none ∨ ∃ l, (s.units[u]).lastPos = some l ∧ newer t.seq l = true) →
    octet t.body 0 = 0 → (octet t.body 3).getLsbD 0 = (s.units[u]).inhibit → DispatchCalm s u →
    timeMs (s.units[u]).cooldown ≠ 0 →
    let s0 := (passedOn p f t s).deviceReported (.unit u) t
    let r := s0.units[u]
    let g := s.genset u
    let kept := r.mode = .manual ∨ r.isLocal = true
    let tripped := r.breaker = .opened ∧ (g.state = .online ∨ g.state = .unloading)
    let moves := fun (new : GensetControl) (events : List (EventKind × Int × Nat)) =>
      let moved := s0.modGenset u fun _ => new
      let sheet := computeSheet moved
      (g.state = .online ∨ g.state = .unloading → new.state ≠ g.state → sheet.req + s.bank.startMargin ≤ sheet.exp) →
      exec (.positionReport p f) s = .next { moved with
        sheet := sheet
        record := s.recordWith (events.map fun e => (e.1, some ⟨.unit, u.val⟩, e.2.1, e.2.2))
        seq := if new.state = .online ∧ g.state ≠ .online then { s.seq with deadBusTimer := none, declared := false } else s.seq }
    let derived : GensetControl :=
      if r.engine ≠ .firing then { g with state := .stopped, timer := none }
      else if r.breaker = .closed then { g with state := .online, timer := none }
      else { g with state := .cooldown, timer := some (timeMs r.cooldown) }
    let online : List (EventKind × Int × Nat) := if derived.state = .online then [(.gensetOnline, r.rated, 0)] else []
    let locked := fun (cause : LockoutCause) =>
      { g with state := .lockedOut, lockout := cause, startCause := .absent, attempts := 0, owed := none, timer := none }
    (g.state = .lockedOut → moves g []) ∧
    (kept → g.state = .unavailable → moves g []) ∧
    (kept → g.state ≠ .unavailable → g.state ≠ .lockedOut →
      moves { g with state := .unavailable, startCause := .absent, owed := none, timer := none } []) ∧
    (¬ kept →
      (g.state = .unknown → moves derived []) ∧
      (g.state = .unavailable → moves derived online) ∧
      (tripped → moves (locked .breakerTrip) [(.gensetTrip, r.p.getD 0, LockoutCause.breakerTrip.detail)]) ∧
      (¬ tripped → r.engine = .faulted → g.state ≠ .unknown → g.state ≠ .unavailable → g.state ≠ .lockedOut →
        moves (locked .engineFault) [(.gensetTrip, r.p.getD 0, LockoutCause.engineFault.detail)]) ∧
      (g.state = .warming ∨ g.state = .closing → r.engine = .stopped ∨ r.engine = .absent →
        moves (locked .startFail)
          [(.startFail, if g.fromCooldown then 0 else (g.attempts : Int), LockoutCause.startFail.detail)]) ∧
      (g.state = .cooldown → r.engine = .stopped →
        moves { g with state := .stopped, timer := none } [(.gensetStopped, 0, 0)]) ∧
      (g.state = .stopped → r.engine = .firing → moves derived online) ∧
      (¬ tripped → r.engine ≠ .faulted →
        g.state = .startQueued ∨ g.state = .cranking ∨ g.state = .crankRest ∨ g.state = .online ∨ g.state = .unloading ∨
          g.state = .opening ∨ g.state = .stopping ∨ (g.state = .stopped ∧ r.engine ≠ .firing) ∨
          (g.state = .cooldown ∧ r.engine ≠ .stopped) ∨
          ((g.state = .warming ∨ g.state = .closing) ∧ r.engine ≠ .stopped ∧ r.engine ≠ .absent) →
        moves g []))

/-- R96: the stop candidate exists exactly while at least two gensets are ONLINE; it is the one of highest start rank and, among
equal ranks, of highest unit index, and every test of the stop conditions is about that one. -/
def Obligations.StopCandidateIsTheLastInRank : Prop :=
  ∀ (s : State) (c : Fin 16),
    (stopCandidate s = some c ↔
      2 ≤ ((List.finRange 16).filter fun u => s.inState u .online).length ∧ s.inState c .online = true ∧
      ∀ v : Fin 16, s.inState v .online = true →
        (s.units[v]).startRank < (s.units[c]).startRank ∨ ((s.units[v]).startRank = (s.units[c]).startRank ∧ v ≤ c)) ∧
    (stopWanted s = some c → stopCandidate s = some c)

/-- R97, R98: when the stop timer expires its candidate, still ONLINE, goes to UNLOADING, the timer is idle, and an UNLOAD is
submitted, and sent at once where nothing holds it; a LOAD still out gives way to it in the outstanding-order field, the model's choice
(log 56). A candidate no longer ONLINE only leaves the timer idle. Stated with no order
waiting, and where the frequency source stays as it is when the candidate leaves ONLINE. A timer that is idle or not due changes
nothing (log 2). R29, R30, R97: a measurement of a unit that changes the reserve tests the stop conditions, and one that does not
leaves the timer: where they fail, the timer becomes idle; where they hold, an idle timer, or one that runs for another genset, starts
with the full stop delay for the candidate, and one that runs for it runs on. Stated for a FRESH entry, a sample that is not the
frequency's, a stop delay of some duration and no feeder to restore. -/
def Obligations.StopTimerExpiryUnloads : Prop :=
  (∀ s : State, Quiet s →
    let idle := { s.dispatch with stopTimer := none }
    ((∀ x, s.dispatch.stopTimer = some x → x.left ≠ 0) → exec .stopTimerExpiry s = .next s) ∧
    (∀ u : Fin 16, s.dispatch.stopTimer = some ⟨u, 0⟩ →
      (s.inState u .online = false → exec .stopTimerExpiry s = .next { s with dispatch := idle }) ∧
      (s.inState u .online = true → SheetKept s → TakesAlone s (.unit u) →
        let unloading := s.modGenset u fun g => { g with state := .unloading, timer := none }
        sourceChoice unloading = s.freqSource →
        exec .stopTimerExpiry s = .next { (unloading.submitsAlone
            { target := .unit u, device := (s.units[u]).device, kind := .unload, cls := .routine, cause := .dispatch
              profile := (s.units[u]).stopProfile }).modGenset u
                (fun g => { g with outstanding := some .unload, owed := none }) with
          dispatch := idle }))) ∧
  (∀ (s : State) (p : Port) (f : Frame) (t : Telegram) (i : Fin 64) (u : Fin 16), Arrives s p f t → t.kind = kindSampleReport →
    findIndex s.sources (fun e => e.used && e.publisher = t.sender) = some i → (s.sources[i]).fresh = true →
    newerOrFirst t.seq (s.sources[i]).lastSeq = true → read8 t.body 4 = 0 → (s.sources[i]).role = .unit →
    (s.sources[i]).target = u.val → SheetKept s → s.freqSource ≠ .genset u →
    ((s.units[u]).kind ≠ .genset ∨ (s.units[u]).f ≠ none) → timeMs s.bank.stopDelay ≠ 0 →
    (s.shed.permission = false ∨ s.shed.stack = []) →
    ∃ t', exec (.sampleReport p f) s = .next t' ∧ SheetKept t' ∧
      t' = { (passedOn p f t s).modSource i (fun e => { e with
          lastSeq := some t.seq, lastArrival := some s.partTime, staleTimer := some (timeOrSecond e.staleLimit) }) with
        units := t'.units, sheet := t'.sheet
        dispatch := { s.dispatch with stopTimer := t'.dispatch.stopTimer, restoreWait := t'.dispatch.restoreWait } } ∧
      (∀ v : Fin 16, v ≠ u → t'.units[v] = s.units[v]) ∧ t'.genset u = s.genset u ∧
      let same := t'.sheet.res = s.sheet.res ∧ t'.sheet.req = s.sheet.req ∧ t'.sheet.margin = s.sheet.margin ∧
        t'.sheet.exp = s.sheet.exp
      (same → t'.dispatch = s.dispatch) ∧
      (¬ same →
        t'.dispatch.restoreWait = (if s.inRun then s.dispatch.restoreWait else none) ∧
        ((∀ c, ¬ StopHolds t' c) → t'.dispatch.stopTimer = none) ∧
        (∀ c, StopHolds t' c →
          ((∃ x, s.dispatch.stopTimer = some x ∧ x.unit = c) → t'.dispatch.stopTimer = s.dispatch.stopTimer) ∧
          ((∀ x, s.dispatch.stopTimer = some x → x.unit ≠ c) →
            t'.dispatch.stopTimer = some ⟨c, timeMs s.bank.stopDelay⟩))))

/-- R86, R88, R89, R90, R108, R111: an evaluation timer that expires starts again with its interval. A Dispatch evaluation that
finds no need, nothing owed and no ONLINE genset UNLOADED does no more; one that finds an order owed submits it again, and one
that finds an ONLINE genset UNLOADED with no order submits a LOAD; one that finds a need recalls an UNLOADING genset, and starts
the candidate: from STOPPED with START_REQUEST and a crank request, from COOLDOWN with CLOSING and a CLOSE, the cause DEFICIT or
RESTORE (the flag that tells the two is log 46). A Curtailment evaluation does no more while QUEUE_HIGH is set or with no
participating plant, and otherwise submits each limit that passes the send test, in index order (R110, R112). Acting evaluations
are stated with no order waiting, for one order owed, one LOAD, one recall or one start candidate while a restore test would
change nothing (the order among several gensets is log 44), and plants whose timers hold their LIMITs. A mirror whose expiry part
time has reached becomes invalid and its value stays (R118, log 20). The candidates are the gensets in STOPPED or COOLDOWN with a
device, by start rank and then unit index, and are chosen in that order until their rated power reaches the need, and no further.
A timer that is not due changes nothing (log 2). -/
def Obligations.EvaluationTimersStartAgain : Prop :=
  (∀ s : State, Quiet s →
    let required := min 1048575 (s.sheet.req + s.bank.startMargin + (match s.dispatch.restoreWait with
        | none => 0
        | some load => min 1048575 ((load : Int) + s.bank.restoreMargin)))
    let again := { s with dispatch := { s.dispatch with timer := timeOrSecond s.bank.dispatchInterval } }
    let curtailAgain := { s with curtailTimer := timeOrSecond s.bank.curtailInterval }
    let load := fun (u : Fin 16) => ({ target := .unit u, device := (s.units[u]).device, kind := .load, cls := .routine,
                                       cause := .dispatch, profile := (s.units[u]).stopProfile } : Order)
    (s.dispatch.timer ≠ 0 → exec .dispatchTimerExpiry s = .next s) ∧
    (s.curtailTimer ≠ 0 → exec .curtailTimerExpiry s = .next s) ∧
    (s.dispatch.timer = 0 → required ≤ s.sheet.exp →
      (∀ u : Fin 16, s.inState u .online = true → (s.units[u]).unloaded = false) →
      ((∀ u : Fin 16, (s.genset u).owed = none) → exec .dispatchTimerExpiry s = .next again) ∧
      (∀ (u : Fin 16) (kind : OrderKind), (s.genset u).owed = some kind → (∀ v : Fin 16, v ≠ u → (s.genset v).owed = none) →
        (s.inState u .cranking = true ∧ kind = .crank) ∨ (s.inState u .stopping = true ∧ kind = .stop) →
        TakesAlone s (.unit u) → exec .dispatchTimerExpiry s = .next ((again.submitsAlone
          { target := .unit u, device := (s.units[u]).device, kind := kind, cls := .routine, cause := .dispatch
            value := if kind = .crank then ((s.profiles[(s.units[u]).startProfile]).pulse.toNat : Int) else 0
            profile := if kind = .crank then (s.units[u]).startProfile else (s.units[u]).stopProfile }).modGenset u
              fun g => { g with outstanding := some kind, owed := none }))) ∧
    (∀ u : Fin 16, s.dispatch.timer = 0 → required ≤ s.sheet.exp → (∀ v : Fin 16, (s.genset v).owed = none) →
      s.inState u .online = true → (s.units[u]).unloaded = true → (s.genset u).outstanding = none →
      (∀ v : Fin 16, v ≠ u → s.inState v .online = true → (s.units[v]).unloaded = false) → TakesAlone s (.unit u) →
      exec .dispatchTimerExpiry s = .next ((again.submitsAlone (load u)).modGenset u
        fun g => { g with outstanding := some .load, owed := none })) ∧
    (∀ u : Fin 16, s.dispatch.timer = 0 → s.sheet.exp < required → SheetKept s → (∀ v : Fin 16, (s.genset v).owed = none) →
      s.inState u .unloading = true → (s.genset u).want = false →
      (∀ v : Fin 16, v ≠ u → s.inState v .unloading = false ∧ s.inState v .online = false) → candidates s = [] →
      sourceChoice (s.modGenset u fun g => { g with state := .online }) = s.freqSource → TakesAlone s (.unit u) →
      exec .dispatchTimerExpiry s = .next { (again.submitsAlone (load u)).modGenset u
          (fun g => { g with state := .online, timer := none, outstanding := some .load, owed := none }) with
        dispatch := { again.dispatch with stopTimer := none }
        seq := { s.seq with deadBusTimer := none, declared := false } }) ∧
    (s.dispatch.timer = 0 → s.sheet.exp < required → SheetKept s → restoreTest s = s →
      (∀ u : Fin 16, (s.genset u).owed = none ∧ s.inState u .unloading = false ∧
        (s.inState u .online = true → (s.units[u]).unloaded = false)) →
      ∀ u : Fin 16, (∀ v : Fin 16,
          ((s.inState v .stopped = true ∨ s.inState v .cooldown = true) ∧ (s.units[v]).device ≠ 0) ↔ v = u) →
        let cause := if s.sheet.exp < s.sheet.req + s.bank.startMargin then StartCause.deficit else .restore
        let started := fun (x : State) => { x with
          sheet := computeSheet x
          dispatch := { s.dispatch with timer := timeOrSecond s.bank.dispatchInterval, stopTimer := none } }
        (s.inState u .stopped = true → u ∉ s.arbiter.units → s.arbiter.state ≠ .free →
          exec .dispatchTimerExpiry s = .next { started (s.modGenset u fun g =>
              { g with state := .startQueued, startCause := cause, attempts := 0, timer := none, fromCooldown := false }) with
            arbiter := { s.arbiter with waiting := s.arbiter.waiting ++
              [{ unit := u, cls := if cause = .deficit then .deficit else .restore }] }
            record := s.recordWith [(.startRequest, some ⟨.unit, u.val⟩, 0, cause.code)] }) ∧
        (s.inState u .cooldown = true → TakesAlone s (.unit u) →
          exec .dispatchTimerExpiry s = .next (started (((s.modGenset u fun g =>
              { g with state := .closing, startCause := cause, timer := none, fromCooldown := true }).submitsAlone
            { target := .unit u, device := (s.units[u]).device, kind := .close, cls := .routine, cause := .dispatch
              deadBusOk := decide (s.sheet.freq = none ∧ ∀ v : Fin 16, s.inState v .online = false)
              profile := (s.units[u]).breakerProfile }).modGenset u
                fun g => { g with outstanding := some .close, owed := none })))) ∧
    (s.curtailTimer = 0 → s.orders.queueHigh = true ∨ (∀ u : Fin 16, (s.units[u]).participating = false) →
      exec .curtailTimerExpiry s = .next curtailAgain) ∧
    (s.curtailTimer = 0 → s.orders.queueHigh = false → s.orders.queue = [] → s.settings.queueOffset ≤ 15 →
      (∀ u : Fin 16, (s.units[u]).participating = true → (s.units[u]).cycle ≠ none ∨ (s.units[u]).holdOff ≠ none) →
      let passes := fun (x : Fin 16 × Int) => match (s.units[x.1]).pv.lastSent with
        | none => true
        | some last => (s.units[x.1]).pv.outOfStep || decide (x.2 < (last : Int)) ||
            decide ((last : Int) < x.2 ∧ (last : Int) + s.bank.deadband ≤ x.2)
      let limits := (pvLimits s s.bank).filter passes
      exec .curtailTimerExpiry s = .next { curtailAgain with orders := { s.orders with
        queue := limits.map fun x => { target := .unit x.1, device := (s.units[x.1]).device, kind := .limit, cls := .routine
                                       value := x.2, cause := .curtail, profile := (s.units[x.1]).limitProfile }
        counters := { s.orders.counters with
          accepted := s.orders.counters.accepted + BitVec.ofNat 32 limits.length } } })) ∧
  (∀ (s : State) (u : Fin 16), Quiet s →
    let due := (s.units[u]).kind = .pv ∧ (s.units[u]).pv.mirrorValid = true ∧
      ∃ e, (s.units[u]).pv.mirrorExpiry = some e ∧ (s.partTime - e).toNat < 2 ^ 31
    (¬ due → exec (.mirrorExpiry u) s = .next s) ∧
    (due → exec (.mirrorExpiry u) s = .next (s.modPv u fun x => { x with mirrorValid := false, mirrorExpiry := none }))) ∧
  (∀ (s : State) (left : Int) (l : List (Fin 16)), ∃ rest, l = choose s left l ++ rest ∧
    (rest ≠ [] → left ≤ ((choose s left l).map fun u => ((s.units[u]).rated : Int)).sum) ∧
    (∀ a b c, choose s left l = a ++ b :: c → (a.map fun u => ((s.units[u]).rated : Int)).sum < left)) ∧
  (∀ s : State, (candidates s).Pairwise (fun a b => (s.units[a]).startRank < (s.units[b]).startRank ∨
      ((s.units[a]).startRank = (s.units[b]).startRank ∧ a < b)) ∧
    ∀ u : Fin 16, u ∈ candidates s ↔
      (s.inState u .stopped = true ∨ s.inState u .cooldown = true) ∧ (s.units[u]).device ≠ 0)

/-- R79, R84: CLEAR_LOCKOUT of a genset in LOCKED_OUT clears its lockout cause, logs LOCKOUT_CLEARED with the cleared cause and
sends it to UNAVAILABLE when it is MANUAL or LOCAL, and otherwise to its derived state: UNKNOWN with no report yet, ONLINE or COOLDOWN
by its breaker while it fires, else STOPPED; it is answered OK. No GENSET_ONLINE is logged (log 18). The move is stated for a part at
rest with the genset neither in the Crank Arbiter nor wanted, a frequency source that stays as it is, and a cooldown of some duration.
A unit that is no genset in LOCKED_OUT is answered REFUSED_STATE, and an index above 15 BAD_INDEX. -/
def Obligations.ClearLockoutFreesTheGenset : Prop :=
  ∀ (s : State) (p : Port) (f : Frame) (t : Telegram) (s1 : State), Requested s p f t .clearLockout s1 →
    (15 < (requestOf t).index → exec (.clearLockout p f) s = .next (answered t .badIndex [] s1)) ∧
    (∀ u : Fin 16, (requestOf t).index = u.val →
      (s.inState u .lockedOut = false → exec (.clearLockout p f) s = .next (answered t .refusedState [] s1)) ∧
      (s.inState u .lockedOut = true → SheetKept s → AtRest s → u ∉ s.arbiter.units →
        let r := s.units[u]
        let record := s.recordWith [(.lockoutCleared, some ⟨.unit, u.val⟩, 0, (s.genset u).lockout.code)]
        let cleared := { s.genset u with lockout := .absent, timer := none }
        (r.mode = .manual ∨ r.isLocal = true → exec (.clearLockout p f) s = .next (answered t .ok []
          { s1.modGenset u (fun _ => { cleared with state := .unavailable, startCause := .absent, owed := none }) with
            record := record })) ∧
        (r.mode = .auto → r.isLocal = false → cleared.want = false → timeMs r.cooldown ≠ 0 →
          let derived : GensetControl :=
            if r.lastPos = none then { cleared with state := .unknown }
            else if r.engine ≠ .firing then { cleared with state := .stopped }
            else if r.breaker = .closed then { cleared with state := .online }
            else { cleared with state := .cooldown, timer := some (timeMs r.cooldown) }
          let moved := s1.modGenset u fun _ => derived
          sourceChoice moved = s.freqSource → exec (.clearLockout p f) s = .next (answered t .ok [] { moved with
            sheet := computeSheet moved
            record := record
            seq := if derived.state = .online then { s.seq with deadBusTimer := none, declared := false } else s.seq }))))

/-! ## Shedding and Restoration (R123 to R143) -/

/-- R126, R128, R131, R132: when a stage timer expires its stage trips: the timer stops, the latch is set and STAGE_TRIP is logged
with the frequency. With no Shed Table entry of the stage nothing else changes; the eligible feeder of its only entry goes onto
the Shed Stack with its load, is owned by SHED, its PROTECTIVE TRIP is sent, FEEDER_SHED is logged, and an operator's order to it
that was out is SUPERSEDED (R62, R72). R129: of two entries the first, taken or passed, marks the second to be passed over as its
condition says, and what is taken goes onto the stack in entry order. R132, R161: in a run the trip, whatever it took, pushes a
record of cause PROTECTION with the active bank and what is left of the step timeout, the run is SUSPENDED and SEQ_SUSPEND is
logged with the depth; R163: while permission is granted the record is popped at once and the step goes on. Stated with no order
waiting and no other out, and in a run with room in the Suspension Stack; for a pop at once, with no entry and nothing else
suspended. A timer that is not due changes nothing (log 2). The order of the entries that one event logs is log 24. -/
def Obligations.StageTimerExpiryTripsTheStage : Prop :=
  ∀ (s : State) (i : Fin 8), Quiet s →
    (s.shed.stageTimers[i] ≠ some 0 → exec (.stageTimerExpiry i) s = .next s) ∧
    (s.shed.stageTimers[i] = some 0 → s.inRun = false ∨ (s.seq.stack.length < 4 ∧ s.shed.permission = false) →
      let tripped := { s.shed with stageTimers := s.shed.stageTimers.set i none, latches := s.shed.latches.set i true }
      let event : Logged := (.stageTrip, none, (s.sheet.freq.getD 0 : Nat), i.val + 1)
      let load := fun (f : Fin 32) => ((s.feeders[f]).p.getD 0).toNat
      let entry := fun (f : Fin 32) => (⟨f, load f, .stage, false⟩ : StackEntry)
      let seq := s.suspendedBy .protection
      let suspend := s.suspendEvents .protection
      let wait := if s.inRun then s.dispatch.restoreWait else none
      let free := s.shed.underRestore = none ∧ s.orders.queue = [] ∧ s.orders.queueHigh = false ∧ s.settings.queueOffset ≤ 30
      ((∀ k : Fin 32, (s.shed.table[k]).feeder = none ∨ (s.shed.table[k]).stage ≠ i) →
        exec (.stageTimerExpiry i) s =
          .next { s with shed := tripped, seq := seq, record := s.recordWith ([event] ++ suspend) }) ∧
      (∀ k f : Fin 32, (s.shed.table[k]).feeder = some f → (s.shed.table[k]).stage = i →
        (∀ j : Fin 32, j ≠ k → (s.shed.table[j]).feeder = none ∨ (s.shed.table[j]).stage ≠ i) →
        eligibleFeeder s f = true → free → (s.feeders[f]).inhibit = false →
        let order : Order := { target := .feeder f, device := (s.feeders[f]).device, kind := .trip, cls := .protective
                               cause := .stageShed, profile := (s.feeders[f]).profile }
        let shed : Logged := (.feederShed, some ⟨.feeder, f.val⟩, load f, 1)
        let owned := { s.modFeeder f (fun r => { r with owner := .shed, shedLoad := some (load f) }) with
          shed := { tripped with stack := s.shed.stack ++ [entry f] }, seq := seq
          dispatch := { s.dispatch with
            restoreWait := wait, stopTimer := if s.shed.stack = [] then none else s.dispatch.stopTimer } }
        (s.orders.tracker = [] → exec (.stageTimerExpiry i) s =
          .next { (owned.queuesAlone order).sendsAlone order with record := s.recordWith ([event, shed] ++ suspend) }) ∧
        (∀ x, s.orders.tracker = [x] → x.order.target = .feeder f → x.order.cls = .routine → x.order.cause = .operator →
          x.order.kind ≠ .crank →
          let freed := { owned with orders := { s.orders with
            tracker := [], counters := { s.orders.counters with superseded := s.orders.counters.superseded + 1 } } }
          exec (.stageTimerExpiry i) s = .next { (freed.queuesAlone order).sendsAlone order with
            record := s.recordWith ([event, (.orderOutcome, some ⟨.feeder, f.val⟩, x.tag.toNat, 4), shed] ++ suspend) })) ∧
      (∀ k j f g : Fin 32, k < j → f ≠ g → (s.shed.table[k]).feeder = some f → (s.shed.table[j]).feeder = some g →
        (s.shed.table[k]).stage = i → (s.shed.table[j]).stage = i →
        (∀ l : Fin 32, l ≠ k → l ≠ j → (s.shed.table[l]).feeder = none ∨ (s.shed.table[l]).stage ≠ i) →
        free → s.orders.tracker = [] → (s.feeders[f]).inhibit = false → (s.feeders[g]).inhibit = false →
        let first := eligibleFeeder s f
        let passed := ((s.shed.table[k]).condition = .skipNextIfTaken ∧ first = true) ∨
          ((s.shed.table[k]).condition = .skipNextIfPassed ∧ first = false)
        ∃ t, exec (.stageTimerExpiry i) s = .next t ∧ t.handovers = [] ∧ t.given = s.given ∧ t.seq = seq ∧
          t.shed = { tripped with stack := s.shed.stack ++ (if first = true then [entry f] else []) ++
            (if eligibleFeeder s g = true ∧ ¬ passed then [entry g] else []) })) ∧
    (s.shed.stageTimers[i] = some 0 → s.shed.permission = true → s.seq.stack = [] → s.seq.progress.ended = false →
      s.seq.progress.pendingEnd = none →
      let kind := (s.seq.program[s.seq.position]).kind
      (s.seq.state = .running ∧ (kind = .startGenset ∨ kind = .closeFeeder)) ∨ (s.seq.state = .waiting ∧ kind = .waitTime) →
      (∀ k : Fin 32, (s.shed.table[k]).feeder = none ∨ (s.shed.table[k]).stage ≠ i) →
      exec (.stageTimerExpiry i) s = .next { s with
        shed := { s.shed with stageTimers := s.shed.stageTimers.set i none, latches := s.shed.latches.set i true }
        record := s.recordWith [(.stageTrip, none, (s.sheet.freq.getD 0 : Nat), i.val + 1), (.seqSuspend, none, 1, 1),
          (.seqResume, none, 0, 1)] })

/-- R133, R134: a deficit walk takes the eligible feeders of the deficit entries in entry order, from its first entry on and until
their loads reach the target, and leaves its progress; stated over a table of plain entries with no feeder twice. A frequency sample
below the arming frequency whose RoCoF has fallen to the trigger sheds the amount Pdef − Q (R34, R35) once: the latch is set,
DEFICIT_SHED is logged INITIAL, and the eligible feeder of the only deficit entry is taken; with nothing to shed the latch stays
clear. R135, R136: a deficit TRIP that fails is logged, its feeder is FAILED and leaves the stack, and a make-up walk of its load is
logged and goes on after the progress. R161: in a run the deficit shed suspends it by a record of cause PROTECTION. The sample is
stated with nothing to do for the stages, room in the Suspension Stack of a run and no order waiting or out; the make-up with another
feeder on top of the stack and no deficit entry left. A hold-off of count 0 is log 16, the
order of the entries that one event logs log 24. -/
def Obligations.DeficitShedsUntilCovered : Prop :=
  (∀ (s : State) (start : Nat) (target : Int), s.shed.underRestore = none → 0 < target →
    (∀ i j : Fin 32, i ≠ j → (s.shed.table[i]).feeder ≠ none → (s.shed.table[i]).feeder ≠ (s.shed.table[j]).feeder) →
    (∀ i : Fin 32, (s.shed.table[i]).condition = .plain) →
    let load := fun (k : Fin 32) => ((s.feeders[k]).p.getD 0).toNat
    let feeders := fun (l : List (Fin 32)) => l.filterMap fun i => (s.shed.table[i]).feeder
    let total := fun (l : List (Fin 32)) => ((feeders l).map fun k => (load k : Int)).sum
    let t := deficitWalk start [] target s
    ∃ (taken left : List (Fin 32)) (next : Nat),
      (List.finRange 32).filter (fun i => decide (start ≤ i.val) && (s.shed.table[i]).deficit &&
        (s.shed.table[i]).feeder.any fun k => eligibleFeeder s k) = taken ++ left ∧
      (∀ i ∈ taken, i.val < next) ∧ (∀ i ∈ left, next ≤ i.val) ∧
      (left ≠ [] → target ≤ total taken) ∧ (∀ a i b, taken = a ++ i :: b → total a < target) ∧
      t.shed = { s.shed with
        stack := s.shed.stack ++ (feeders taken).map fun k => ⟨k, load k, .deficit, false⟩
        progress := some ⟨next, [], .deficit⟩ } ∧
      (∀ k ∈ feeders taken, (t.feeders[k]).owner = .shed ∧ (t.feeders[k]).shedLoad = some (load k)) ∧
      (∀ k : Fin 32, k ∉ feeders taken →
        (t.feeders[k]).owner = (s.feeders[k]).owner ∧ (t.feeders[k]).shedLoad = (s.feeders[k]).shedLoad)) ∧
  (∀ (s : State) (p : Port) (f : Frame) (t : Telegram) (i : Fin 64) (v r : Int), FreqReport s p f t i v →
    ((s.sources[i]).lastSeq = none ∨ ∃ l, (s.sources[i]).lastSeq = some l ∧ newer t.seq l = true) →
    let freq := (max 0 (min 99999 v)).toNat
    let sampled := (passedOn p f t s).sampleTaken i t v
    StagesQuiet s freq → freq < s.bank.restoreFreq → freq < s.bank.deficitArming → sampled.sheet.rocof = some r →
    r ≤ -(s.bank.deficitTrigger : Int) → s.shed.deficitLatch = false → s.inRun = false ∨ s.seq.stack.length < 4 →
    s.shed.underRestore = none →
    let pdef := max 0 (min 1048575 (2 * (s.bank.inertia : Int) * s.sheet.cd * (r.natAbs : Int) / (10 * (s.fNom : Int))))
    let amount := pdef - s.sheet.q
    let lost := { s.shed with restoreDelay := none, permission := false }
    (amount ≤ 0 → exec (.sampleReport p f) s =
      .next { sampled with shed := lost, dispatch := { s.dispatch with restoreWait := none } }) ∧
    (∀ k j : Fin 32, 0 < amount → (s.shed.table[k]).feeder = some j → (s.shed.table[k]).deficit = true →
      (s.shed.table[k]).condition = .plain →
      (∀ l : Fin 32, l ≠ k → (s.shed.table[l]).feeder = none ∨ (s.shed.table[l]).deficit = false) →
      eligibleFeeder s j = true → (s.feeders[j]).inhibit = false → s.orders.tracker = [] → s.orders.queueHigh = false →
      s.settings.queueOffset ≤ 30 →
      let load := ((s.feeders[j]).p.getD 0).toNat
      let order : Order := { target := .feeder j, device := (s.feeders[j]).device, kind := .trip, cls := .protective
                             cause := .deficitShed, profile := (s.feeders[j]).profile }
      let owned := { sampled.modFeeder j (fun x => { x with owner := .shed, shedLoad := some load }) with
        shed := { lost with
          deficitLatch := true, progress := some ⟨k.val + 1, [], .deficit⟩
          stack := s.shed.stack ++ [(⟨j, load, .deficit, false⟩ : StackEntry)] }
        dispatch := { s.dispatch with
          restoreWait := none, stopTimer := if s.shed.stack = [] then none else s.dispatch.stopTimer } }
      exec (.sampleReport p f) s = .next { (owned.queuesAlone order).sendsAlone order with
        seq := s.suspendedBy .protection
        record := s.recordWith ([(.deficitShed, none, amount, 1), (.feederShed, some ⟨.feeder, j.val⟩, load, 2)] ++
          s.suspendEvents .protection) })) ∧
  (∀ (s : State) (tag : Octet) (x : Slot) (k : Fin 32) (e top : StackEntry) (w : WalkProgress), Quiet s →
    s.orders.tracker.find? (fun y => y.tag = tag) = some x → x.order.target = .feeder k → x.order.kind = .trip →
    x.order.cause = .deficitShed → x.deadline = 0 → x.inhibit = none → x.seen = false → s.orders.queue = [] →
    s.shed.entryOf k = some e → e.done = false → e.cause = .deficit → s.shed.stack.getLast? = some top → top.feeder ≠ k →
    s.shed.underRestore ≠ some k → s.shed.deficitLatch = true → s.shed.progress = some w → w.marks = [] →
    (∀ l : Fin 32, w.next ≤ l.val → (s.shed.table[l]).feeder = none ∨ (s.shed.table[l]).deficit = false) →
    let ended := s.slotEnds x .timedOut { s.orders.counters with timedOut := s.orders.counters.timedOut + 1 }
    exec (.deadlineExpiry tag) s =
      .next { ended.modFeeder k (fun r => { r with owner := .free, shedLoad := none, failed := true }) with
        shed := { s.shed with
          stack := s.shed.stack.filter (fun y => y.feeder ≠ k), progress := some { w with cause := .deficit } }
        record := s.recordWith [(.orderOutcome, some ⟨.feeder, k.val⟩, tag.toNat, 2),
          (.feederFailed, some ⟨.feeder, k.val⟩, e.load, 1), (.deficitShed, none, e.load, 2)] })

/-- R139, R143, R163: when the restore delay expires permission is granted; when the step interval expires the barrier is idle.
Stated with an empty Shed Stack, where no restore follows. R163, R165: the grant pops a record of cause PROTECTION from the top of
the Suspension Stack, logged SEQ_RESUME with the depth left; over a record of cause OPERATOR the run stays SUSPENDED, over another
PROTECTION record that one is popped in its turn, and over none the step goes on with the step timeout that the last record kept;
stated for records of the active bank. A saved bank that is another is selected, logged BANK_SWITCH with cause POP, stated with no
timer running that a switch restarts. The last three are stated for a stack that is not empty exactly while SUSPENDED (R161). A
record of cause OPERATOR on top stays. R154, R157: a barrier of the Sequencer ends the CLOSE_FEEDER step it belongs to: SEQ_STEP
is logged with detail DONE and the next step begins, stated for a WAIT_TIME with no order waiting; a run that is SUSPENDED keeps
the end for its resumption. Step serials are log 9, a timeout with nothing left log 58. A timer that is not due changes nothing
(log 2). -/
def Obligations.RestoreTimersGrantAndFree : Prop :=
  ∀ s : State, Quiet s →
    let unposted := { s.dispatch with restoreWait := if s.inRun then s.dispatch.restoreWait else none }
    let freed := { s with shed := { s.shed with barrier := .idle } }
    (s.shed.restoreDelay ≠ some 0 → exec .restoreDelayExpiry s = .next s) ∧
    ((∀ f owner, s.shed.barrier ≠ .stepping f owner 0) → exec .stepIntervalExpiry s = .next s) ∧
    (s.shed.stack = [] →
      (s.shed.restoreDelay = some 0 →
        let granted := { s with shed := { s.shed with restoreDelay := none, permission := true }, dispatch := unposted }
        let kind := (s.seq.program[s.seq.position]).kind
        let resume := fun (depth : Nat) => ((.seqResume, none, (depth : Int), 1) : Logged)
        let goesOn := SuspensionKept s ∧ s.seq.progress.ended = false ∧ s.seq.progress.pendingEnd = none ∧
          (kind = .startGenset ∨ kind = .closeFeeder ∨ kind = .waitTime)
        let state := if kind = .waitTime then SeqState.waiting else .running
        ((∀ x, s.seq.stack.getLast? = some x → x.cause = .operator) → exec .restoreDelayExpiry s = .next granted) ∧
        (∀ below left, s.seq.stack = below ++ [⟨.protection, s.activeBank, left⟩] →
          (∀ x, below.getLast? = some x → x.cause = .operator → exec .restoreDelayExpiry s = .next
            { granted with seq := { s.seq with stack := below }, record := s.recordWith [resume below.length] }) ∧
          (below = [] → goesOn → exec .restoreDelayExpiry s = .next
            { granted with
              seq := { s.seq with state := state, stack := [], stepTimeout := left }, record := s.recordWith [resume 0] }) ∧
          (∀ first, below = [⟨.protection, s.activeBank, first⟩] → goesOn → exec .restoreDelayExpiry s = .next
            { granted with
              seq := { s.seq with state := state, stack := [], stepTimeout := first }
              record := s.recordWith [resume 1, resume 0] })) ∧
        (∀ (b : Fin 4) (left : Timer), s.seq.stack = [⟨.protection, b, left⟩] → b ≠ s.activeBank → goesOn → s.orders.queue = [] →
          (∀ i : Fin 8, s.shed.stageTimers[i] = none) → s.dispatch.stopTimer = none → s.seq.deadBusTimer = none →
          (∀ f owner n, s.shed.barrier ≠ .stepping f owner n) →
          let sheet := computeSheet { s with activeBank := b }
          sheet.res = s.sheet.res ∧ sheet.req = s.sheet.req ∧ sheet.margin = s.sheet.margin ∧ sheet.exp = s.sheet.exp →
          exec .restoreDelayExpiry s = .next { granted with
            activeBank := b, sheet := sheet, curtailTimer := timeOrSecond (s.banks[b]).curtailInterval
            dispatch := { unposted with timer := timeOrSecond (s.banks[b]).dispatchInterval }
            seq := { s.seq with state := state, stack := [], stepTimeout := left }
            record := s.recordWith [resume 0, (.bankSwitch, some ⟨.bank, b.val⟩, s.activeBank.val, 3)] })) ∧
      (∀ f, s.shed.barrier = .stepping f .restoration 0 → exec .stepIntervalExpiry s = .next
        { freed with dispatch := unposted })) ∧
    (∀ f, s.shed.barrier = .stepping f .sequencer 0 →
      let step := s.seq.program[s.seq.position]
      (s.inRun = false ∨ step.kind ≠ .closeFeeder ∨ step.operand ≠ f.val → exec .stepIntervalExpiry s = .next freed) ∧
      (step.kind = .closeFeeder → step.operand = f.val → s.seq.progress.ended = false →
        (s.seq.state = .suspended → s.seq.progress.pendingEnd = none → exec .stepIntervalExpiry s = .next
          { freed with seq := { s.seq with progress := { s.seq.progress with pendingEnd := some .done } } }) ∧
        (∀ n : Fin 48, s.seq.state = .running → n.val = s.seq.position.val + 1 → WaitStep s.seq n → s.orders.queue = [] →
          exec .stepIntervalExpiry s = .next { freed with
            seq := ({ s.seq with serial := s.seq.serial + 1 } : Sequencer).waitsAt n
            record := s.recordWith [(.seqStep, some ⟨.program, s.seq.position.val⟩, s.seq.position.val, 1)] })))

/-- R140, R141: a restore test closes the top feeder exactly when permission is granted, nothing is under restoration, the
barrier and its settle hold-off are idle, its trip is DONE, and MARGIN covers its shed-time load plus the restore margin; when
only the reserve is short its load is posted to Dispatch, and otherwise absence. The CLOSE is submitted, here with an empty queue
and the device in its cycle time, and the feeder is under restoration. No test acts during a run. -/
def Obligations.RestoreTestClosesTheTop : Prop :=
  ∀ s : State,
    let ready := fun (top : StackEntry) => s.shed.stack.getLast? = some top ∧ s.shed.permission = true ∧
      s.shed.underRestore = none ∧ s.shed.barrier = .idle ∧ top.done = true ∧ (s.feeders[top.feeder]).holdOff = none
    let covered := fun (top : StackEntry) => min 1048575 ((top.load : Int) + s.bank.restoreMargin) ≤ s.sheet.margin
    (s.inRun = true → restoreTest s = s) ∧
    (s.inRun = false →
      (∀ top, ready top → ¬ covered top →
        restoreTest s = { s with dispatch := { s.dispatch with restoreWait := some top.load } }) ∧
      ((∀ top, ¬ ready top) → restoreTest s = { s with dispatch := { s.dispatch with restoreWait := none } }) ∧
      (∀ top, ready top → covered top → s.orders.queue = [] → (s.feeders[top.feeder]).cycle ≠ none →
        s.orders.queueHigh = false → s.settings.queueOffset ≤ 30 →
        restoreTest s = { s with
          shed := { s.shed with underRestore := some top.feeder }
          dispatch := { s.dispatch with restoreWait := none }
          orders := { s.orders with
            queue := [{ closeOrder s top.feeder .restore with device := (s.feeders[top.feeder]).device }]
            counters := { s.orders.counters with accepted := s.orders.counters.accepted + 1 } } }))

/-! ## The Sequencer (R146 to R167) -/

/-- R150, R151, R153: when the dead-bus timer expires a blackout is declared and BLACKOUT is logged with the voltage of the
primary reference; a Sequencer that is not ARMED does no more, and one that is starts a run, logged SEQ_BEGIN with detail
BLACKOUT. The run is stated with a first step WAIT_TIME and no other block to act on it (its step serials are log 9). A timer that is
not due changes nothing (log 2). R20, R150: a U of the primary reference below the dead-bus voltage with no genset ONLINE starts an
idle timer with the dead-bus time unless the flag is set, and a running one runs on; any other U leaves the timer idle and clears the
declared flag; with a dead-bus time of count 0 the test declares the blackout. Stated for a FRESH entry and a report with no F item,
the declaration for a Sequencer that is not ARMED. The order of the entries that one event logs is log 24. -/
def Obligations.DeadBusTimerDeclaresBlackout : Prop :=
  (∀ s : State, Quiet s →
    let declared := { s with seq := { s.seq with deadBusTimer := none, declared := true } }
    let event : Logged := (.blackout, s.primaryRef.map (fun i => ({ table := .source, index := i.val } : Subject)),
      (match s.primaryRef with | some i => ((s.sources[i]).u.getD 0 : Nat) | none => 0), 0)
    (s.seq.deadBusTimer ≠ some 0 → exec .deadBusTimerExpiry s = .next s) ∧
    (s.seq.deadBusTimer = some 0 →
      (s.seq.state ≠ .armed → exec .deadBusTimerExpiry s = .next { declared with record := s.recordWith [event] }) ∧
      (s.seq.state = .armed → RunReady s → exec .deadBusTimerExpiry s =
        .next { declared.runBegins with record := s.recordWith [event, (.seqBegin, none, 0, 2)] }))) ∧
  (∀ (s : State) (p : Port) (f : Frame) (t : Telegram) (i : Fin 64) (v : Int), Arrives s p f t → t.kind = kindSampleReport →
    findIndex s.sources (fun e => e.used && e.publisher = t.sender) = some i → s.primaryRef = some i →
    (s.sources[i]).fresh = true → newerOrFirst t.seq (s.sources[i]).lastSeq = true → read8 t.body 4 = 0 →
    (sampleItems t.body).find? (fun x => x.1 = 3) = some (3, v) → (∀ x ∈ sampleItems t.body, x.1 ≠ 2) →
    let u := (max 0 (min 2000 v)).toNat
    let ms := timeMs s.bank.deadBusTime
    let dead := u < s.bank.deadBusVoltage ∧ ∀ g : Fin 16, s.inState g .online = false
    let measured := (passedOn p f t s).modSource i fun e => { e with
      lastSeq := some t.seq, lastArrival := some s.partTime, staleTimer := some (timeOrSecond e.staleLimit), u := some u
      clamped := decide ((u : Int) ≠ v) }
    (¬ dead → exec (.sampleReport p f) s =
      .next { measured with seq := { s.seq with deadBusTimer := none, declared := false } }) ∧
    (dead → s.seq.declared = true ∨ s.seq.deadBusTimer ≠ none → exec (.sampleReport p f) s = .next measured) ∧
    (dead → s.seq.declared = false → s.seq.deadBusTimer = none →
      (ms ≠ 0 → exec (.sampleReport p f) s = .next { measured with seq := { s.seq with deadBusTimer := some ms } }) ∧
      (ms = 0 → s.seq.state ≠ .armed → exec (.sampleReport p f) s = .next { measured with
        seq := { s.seq with declared := true }, record := s.recordWith [(.blackout, some ⟨.source, i.val⟩, (u : Nat), 0)] })))

/-- R152, R153, R158: BEGIN_RESTORE during a run, or with a program that begins with END, is answered REFUSED_STATE. Otherwise
the run starts: every used feeder in AUTO with a device is owned by SEQUENCER, the Suspension Stack is empty, PV released is
clear, SEQ_BEGIN is logged with detail REQUEST, and step 0 begins. Stated with a first step WAIT_TIME and no other block to act on
the run. The serial numbers of the steps are the model's own (log 9). -/
def Obligations.BeginRestoreStartsTheRun : Prop :=
  ∀ (s : State) (p : Port) (f : Frame) (t : Telegram) (s1 : State), Requested s p f t .beginRestore s1 →
    (s.inRun = true ∨ (s.seq.program[(0 : Fin 48)]).kind = .finish →
      exec (.beginRestore p f) s = .next (answered t .refusedState [] s1)) ∧
    (s.inRun = false → RunReady s →
      exec (.beginRestore p f) s = .next (answered t .ok []
        { s1.runBegins with record := s.recordWith [(.seqBegin, none, 0, 1)] }))

/-- R154, R158: when the wait timer of a WAIT_TIME step expires the step is done, SEQ_STEP is logged with detail DONE, and the
next step begins as its kind gives. Another WAIT_TIME runs its timer. R155: an OPEN_FEEDERS submits the TRIP of its one feeder to
trip, and is done with none. R156: a START_GENSET is done for a genset ONLINE, fails by LOCKOUT or NO_UNIT, and waits for one that
is not yet to be started; R95: one in STOPPED queues a crank of class BLACKSTART (behind a grant or a hold-off), one in COOLDOWN
is given a CLOSE (the flag that tells the two starts apart is log 46), and one in UNLOADING is recalled and the step done (stated
for the only genset ONLINE or UNLOADING, its return not moving the frequency source). R157: a CLOSE_FEEDER submits the CLOSE of a
feeder that the run holds in AUTO, which waits in the queue below the restore frequency, and logs STEP_SKIPPED_OWNER for any
other. R158: a WAIT_FREQ waits, or is done at the restore frequency. R159: CHECK_RESERVE is done or fails SHORT, SELECT_BANK
switches with cause STEP, RELEASE_PV ends the forced zero (stated with no participating plant). A timeout starts with the kinds
that use one. A step done at once is stated before a WAIT_TIME, one failed at once under HOLD, a switch with no timer to restart.
R166: with END to follow, or no step after 47, the run is COMPLETE: each feeder in AUTO that SEQUENCER owns and that stands open
goes onto the Shed Stack, DONE, with its load or 1, every other feeder of SEQUENCER is free, and SEQ_COMPLETE is logged with their
number; stated while permission is not granted and with no participating plant. Both with an empty queue and an idle barrier; the
serial numbers are log 9. A timer that is not due, or stands while SUSPENDED, changes nothing (log 2). The order of the entries
that one event logs is log 24. -/
def Obligations.WaitTimeExpiryEndsTheStep : Prop :=
  ∀ s : State, Quiet s →
    let done : Logged :=
      (.seqStep, some ⟨.program, s.seq.position.val⟩, s.seq.position.val, 1)
    let finished := fun (place : Fin 48) (steps : Nat) =>
      let open_ := fun (r : FeederRec) => decide (r.owner = .sequencer ∧ r.mode = .auto ∧ r.breaker = .opened)
      let load := fun (r : FeederRec) => if 0 < r.p.getD 0 then (r.p.getD 0).toNat else 1
      let pushed := (List.finRange 32).filter fun f => open_ s.feeders[f]
      { s with
        seq := { s.seq with
          state := .complete, position := place, stepTimeout := none, progress := {}, stack := [], serial := s.seq.serial + steps }
        feeders := mapTable (fun r =>
          if open_ r then { r with owner := .shed, shedLoad := some (load r) }
          else if r.owner = .sequencer then { r with owner := .free } else r) s.feeders
        shed := { s.shed with stack := s.shed.stack ++ pushed.map fun f => ⟨f, load s.feeders[f], .stage, true⟩ }
        dispatch := { s.dispatch with
          restoreWait := none
          stopTimer := if s.shed.stack = [] ∧ pushed ≠ [] then none else s.dispatch.stopTimer }
        record := s.recordWith (done :: (pushed.map fun f =>
            (EventKind.feederShed, some (⟨.feeder, f.val⟩ : Subject), ((load s.feeders[f] : Nat) : Int), 3)) ++
          [(EventKind.seqComplete, (none : Option Subject), (pushed.length : Int), 0)]) }
    (s.seq.state ≠ .waiting ∨ s.seq.progress.waitTimer ≠ some 0 → exec .waitTimeExpiry s = .next s) ∧
    (s.seq.state = .waiting → s.seq.progress.waitTimer = some 0 → s.seq.progress.ended = false → s.seq.position = 47 →
      s.orders.queue = [] → s.shed.barrier = .idle → s.shed.permission = false →
      (∀ u : Fin 16, (s.units[u]).participating = false) → exec .waitTimeExpiry s = .next (finished 47 2)) ∧
    (∀ n : Fin 48, s.seq.state = .waiting → s.seq.progress.waitTimer = some 0 → s.seq.progress.ended = false →
      n.val = s.seq.position.val + 1 → s.orders.queue = [] → s.shed.barrier = .idle →
      (WaitStep s.seq n → exec .waitTimeExpiry s = .next { s with
        seq := ({ s.seq with serial := s.seq.serial + 1 } : Sequencer).waitsAt n
        record := s.recordWith [done] }) ∧
      (let step := s.seq.program[n]
      let begun := fun (state : SeqState) (timed : Bool) => ({ s.seq with serial := s.seq.serial + 1 } : Sequencer).beginsAt n state timed
      let ended := fun (e : StepEnd) =>
        [done, ((.seqStep, some ⟨.program, n.val⟩, n.val, e.detail) : Logged)]
      let submits := fun (k : Fin 32) (kind : OrderKind) (queued : Bool) =>
        let order : Order := { target := .feeder k, device := (s.feeders[k]).device, kind := kind, cls := .routine
                               cause := .sequencer, profile := (s.feeders[k]).profile, step := s.seq.serial + 2 }
        let begun := { s with
          seq := { begun .running true with progress := { orders := [{ feeder := k }] } }, record := s.recordWith [done] }
        if queued then begun.queuesAlone order else begun.submitsAlone order
      let trips := fun (k : Fin 32) => (s.feeders[k]).owner = .sequencer ∧ (s.feeders[k]).mode = .auto ∧
        ((s.feeders[k]).breaker = .closed ∨ (s.feeders[k]).breaker = .unknown)
      let met := s.sheet.freq.any fun x => decide (s.bank.restoreFreq ≤ x)
      (∀ k : Fin 32, step.kind = .openFeeders → trips k → (∀ j : Fin 32, j ≠ k → ¬ trips j) → TakesAlone s (.feeder k) →
        exec .waitTimeExpiry s = .next (submits k .trip false)) ∧
      (∀ k : Fin 32, step.kind = .closeFeeder → step.operand = k.val → (s.feeders[k]).owner = .sequencer →
        (s.feeders[k]).mode = .auto → TakesAlone s (.feeder k) →
        exec .waitTimeExpiry s = .next (submits k .close (s.sheet.freq.isSome && !met))) ∧
      (∀ u : Fin 16, step.kind = .startGenset → step.operand = u.val → (s.units[u]).kind = .genset →
        (s.genset u).state ∈ ([.unknown, .unavailable, .startQueued, .cranking, .crankRest, .warming, .closing, .opening,
          .stopping] : List GensetState) →
        exec .waitTimeExpiry s = .next { s.modGenset u (fun g => { g with want := true }) with
          seq := begun .running true, record := s.recordWith [done] }) ∧
      (∀ u : Fin 16, step.kind = .startGenset → step.operand = u.val → SheetKept s →
        let started := fun (x : State) => { x with
          sheet := computeSheet x, dispatch := { s.dispatch with stopTimer := none }, seq := begun .running true }
        (s.inState u .stopped = true → u ∉ s.arbiter.units → s.arbiter.state ≠ .free →
          exec .waitTimeExpiry s = .next { started (s.modGenset u fun g =>
              { g with
                state := .startQueued, want := true, startCause := .blackstart, attempts := 0, timer := none, fromCooldown := false }) with
            arbiter := { s.arbiter with waiting := s.arbiter.waiting ++ [{ unit := u, cls := .blackstart }] }
            record := s.recordWith [done, (.startRequest, some ⟨.unit, u.val⟩, 0, StartCause.blackstart.code)] }) ∧
        (s.inState u .cooldown = true → TakesAlone s (.unit u) →
          exec .waitTimeExpiry s = .next { started (((s.modGenset u fun g =>
              { g with state := .closing, want := true, startCause := .blackstart, timer := none, fromCooldown := true }).submitsAlone
            { target := .unit u, device := (s.units[u]).device, kind := .close, cls := .routine, cause := .dispatch
              deadBusOk := decide (s.sheet.freq = none ∧ ∀ v : Fin 16, s.inState v .online = false)
              profile := (s.units[u]).breakerProfile }).modGenset u
                fun g => { g with outstanding := some .close, owed := none }) with record := s.recordWith [done] })) ∧
      (step.kind = .waitFreq → met = false →
        exec .waitTimeExpiry s = .next { s with seq := begun .waiting true, record := s.recordWith [done] }) ∧
      (step.onFail = .hold → s.seq.stack.length < 4 →
        let held := fun (e : StepEnd) => { s with
          seq := { s.seq with
            state := .suspended, position := n, stack := s.seq.stack ++ [⟨.operator, s.activeBank, none⟩], stepTimeout := none
            progress := { ended := true }, serial := s.seq.serial + 3 }
          record := s.recordWith (ended e ++ [((.seqSuspend, none, (s.seq.stack.length + 1 : Nat), 2) : Logged)]) }
        (step.kind = .checkReserve → s.sheet.margin < step.operand → exec .waitTimeExpiry s = .next (held .short)) ∧
        (step.kind = .startGenset → (∀ u : Fin 16, step.operand = u.val → (s.units[u]).kind ≠ .genset) →
          exec .waitTimeExpiry s = .next (held .noUnit)) ∧
        (∀ u : Fin 16, step.kind = .startGenset → step.operand = u.val → s.inState u .lockedOut = true →
          exec .waitTimeExpiry s = .next (held .lockout))) ∧
      (∀ m : Fin 48, m.val = n.val + 1 → WaitStep s.seq m →
        let past := { s with
          seq := ({ s.seq with serial := s.seq.serial + 3 } : Sequencer).waitsAt m, record := s.recordWith (ended .done) }
        (step.kind = .openFeeders → (∀ k : Fin 32, ¬ trips k) → exec .waitTimeExpiry s = .next past) ∧
        (∀ u : Fin 16, step.kind = .startGenset → step.operand = u.val → s.inState u .online = true →
          exec .waitTimeExpiry s = .next past) ∧
        (∀ u : Fin 16, step.kind = .startGenset → step.operand = u.val → s.inState u .unloading = true → SheetKept s →
          (s.genset u).want = false → (∀ v : Fin 16, v ≠ u → s.inState v .unloading = false ∧ s.inState v .online = false) →
          sourceChoice (s.modGenset u fun g => { g with state := .online }) = s.freqSource → TakesAlone s (.unit u) →
          exec .waitTimeExpiry s = .next { (s.submitsAlone
              { target := .unit u, device := (s.units[u]).device, kind := .load, cls := .routine, cause := .dispatch
                profile := (s.units[u]).stopProfile }).modGenset u
                  (fun g => { g with state := .online, timer := none, outstanding := some .load, owed := none }) with
            dispatch := { s.dispatch with stopTimer := none }
            seq := { past.seq with deadBusTimer := none, declared := false }, record := past.record }) ∧
        (∀ k : Fin 32, step.kind = .closeFeeder → step.operand = k.val →
          (s.feeders[k]).owner ≠ .sequencer ∨ (s.feeders[k]).mode = .manual → exec .waitTimeExpiry s = .next { past with
            record := s.recordWith ([done, (.stepSkippedOwner, some ⟨.feeder, k.val⟩, n.val, 0)] ++ (ended .done).drop 1) }) ∧
        (step.kind = .waitFreq → met = true → exec .waitTimeExpiry s = .next past) ∧
        (step.kind = .checkReserve → (step.operand : Int) ≤ s.sheet.margin → exec .waitTimeExpiry s = .next past) ∧
        (step.kind = .releasePv → (∀ u : Fin 16, (s.units[u]).participating = false) →
          exec .waitTimeExpiry s = .next { past with seq := { past.seq with pvReleased := true } }) ∧
        (∀ b : Fin 4, step.kind = .selectBank → step.operand = b.val →
          (b = s.activeBank → exec .waitTimeExpiry s = .next past) ∧
          (b ≠ s.activeBank → (∀ i : Fin 8, s.shed.stageTimers[i] = none) → s.shed.restoreDelay = none →
            s.dispatch.stopTimer = none → s.seq.deadBusTimer = none →
            let sheet := computeSheet { s with activeBank := b }
            sheet.res = s.sheet.res ∧ sheet.req = s.sheet.req ∧ sheet.margin = s.sheet.margin ∧ sheet.exp = s.sheet.exp →
            exec .waitTimeExpiry s = .next { past with
              activeBank := b, sheet := sheet, curtailTimer := timeOrSecond (s.banks[b]).curtailInterval
              dispatch := { s.dispatch with timer := timeOrSecond (s.banks[b]).dispatchInterval }
              record := s.recordWith ([done, (.bankSwitch, some ⟨.bank, b.val⟩, s.activeBank.val, 2)] ++
                (ended .done).drop 1) })))) ∧
      ((s.seq.program[n]).kind = .finish → s.shed.permission = false → (∀ u : Fin 16, (s.units[u]).participating = false) →
        exec .waitTimeExpiry s = .next (finished n 3)))

/-- R160, R161: when the step timeout expires the step has failed by TIMEOUT, logged SEQ_STEP. Under HOLD the run is suspended by a
record of cause OPERATOR with the active bank, and SEQ_SUSPEND is logged with the depth; under SKIP_NEXT the step after the next
begins, stated for a WAIT_TIME; under ABORT the run is ABORTED (R167): the feeders of SEQUENCER are free and MANUAL, the Suspension
Stack is empty, and SEQ_ABORT is logged with the position, stated with no genset wanted, permission not granted and no
participating plant; so it ends under HOLD with four records on the stack, cause STACK_FULL, which no reachable state that is not
SUSPENDED has (R161). All with an empty queue and an idle barrier; `ended` and the serial numbers are log 9. A timeout that is not due,
or stands while SUSPENDED, changes nothing (log 2). The order of the entries that one event logs is log 24. -/
def Obligations.StepTimeoutFailsTheStep : Prop :=
  ∀ s : State, Quiet s →
    let failed : Logged :=
      (.seqStep, some ⟨.program, s.seq.position.val⟩, s.seq.position.val, 6)
    let onFail := (s.seq.program[s.seq.position]).onFail
    ((s.seq.state ≠ .running ∧ s.seq.state ≠ .waiting) ∨ s.seq.stepTimeout ≠ some 0 →
      exec .stepTimeoutExpiry s = .next s) ∧
    ((s.seq.state = .running ∨ s.seq.state = .waiting) → s.seq.stepTimeout = some 0 → s.seq.progress.ended = false →
      s.orders.queue = [] → s.shed.barrier = .idle →
      (onFail = .hold → s.seq.stack.length < 4 → exec .stepTimeoutExpiry s = .next { s with
        seq := { s.seq with
          state := .suspended, stack := s.seq.stack ++ [⟨.operator, s.activeBank, none⟩], stepTimeout := none
          progress := { ended := true }, serial := s.seq.serial + 1 }
        record := s.recordWith [failed, (.seqSuspend, none, (s.seq.stack.length + 1 : Nat), 2)] }) ∧
      (∀ n : Fin 48, onFail = .skipNext → n.val = s.seq.position.val + 2 → WaitStep s.seq n →
        exec .stepTimeoutExpiry s = .next { s with
          seq := ({ s.seq with serial := s.seq.serial + 1 } : Sequencer).waitsAt n, record := s.recordWith [failed] }) ∧
      (onFail = .abort ∨ (onFail = .hold ∧ 4 ≤ s.seq.stack.length) → SheetKept s → s.shed.permission = false →
        (∀ u : Fin 16, (s.genset u).want = false ∧ (s.units[u]).participating = false) →
        exec .stepTimeoutExpiry s = .next { s with
          seq := { s.seq with
            state := .aborted, stack := [], stepTimeout := none, progress := {}, serial := s.seq.serial + 2 }
          feeders := mapTable (fun r => if r.owner = .sequencer then { r with owner := .free, mode := .manual } else r) s.feeders
          dispatch := { s.dispatch with restoreWait := none }
          record := s.recordWith [failed, (.seqAbort, none, s.seq.position.val, if onFail = .abort then 1 else 2)] }))

/-- R149, R161, R163, R164, R165: ARM and DISARM set the armed flag and the state outside a run and are answered REFUSED_STATE in
one. HOLD suspends a run by a record of cause OPERATOR that keeps the active bank and what is left of the step timeout; with four
records on the stack it is taken too, but ends the run in ABORTED, logged SEQ_ABORT with cause STACK_FULL (R167), stated with no order
waiting, no barrier, no genset wanted, permission not granted and no participating plant. RESUME pops an OPERATOR record: the run
stays SUSPENDED while another record that does not follow it is left; a PROTECTION record that it uncovers is popped in its turn
while permission is granted, stated down to an OPERATOR record; and the run goes on with its step when the stack is empty: a
WAIT_TIME runs on, a step whose end came while SUSPENDED ends DONE and the next begins, stated with no order waiting and no barrier,
and one that HOLD suspended at its failure is begun again, both stated for a WAIT_TIME to begin (step serials are log 9, a timer
with nothing left log 58). Each pop is so stated for a saved bank that is active; one that saved another bank switches to it with
cause POP, stated where another record is left, no timer of a bank runs, no order waits and the switch leaves the reserve. RESUME on
a PROTECTION record is answered WRONG_RESUME, and outside SUSPENDED REFUSED_STATE. -/
def Obligations.SequencerRequestsAct : Prop :=
  ∀ (s : State) (p : Port) (f : Frame) (t : Telegram) (s1 : State),
    let resumed := fun (depth : Nat) => s.record.append s.settings.eventOffset
      ⟨s.record.nextSeq, s.partTime, .seqResume, none, (depth : Nat), 2⟩
    (Requested s p f t .arm s1 →
      exec (.arm p f) s = .next (if s.inRun then answered t .refusedState [] s1
        else answered t .ok [] { s1 with seq := { s.seq with armed := true, state := .armed } })) ∧
    (Requested s p f t .disarm s1 →
      exec (.disarm p f) s = .next (if s.inRun then answered t .refusedState [] s1
        else answered t .ok [] { s1 with seq := { s.seq with armed := false, state := .disarmed } })) ∧
    (Requested s p f t .hold s1 →
      (s.inRun = false → exec (.hold p f) s = .next (answered t .refusedState [] s1)) ∧
      (s.inRun = true → s.seq.stack.length < 4 → exec (.hold p f) s = .next (answered t .ok [] { s1 with
        seq := { s.seq with state := .suspended, stack := s.seq.stack ++ [⟨.operator, s.activeBank, s.seq.stepTimeout⟩] }
        record := s.record.append s.settings.eventOffset
          ⟨s.record.nextSeq, s.partTime, .seqSuspend, none, (s.seq.stack.length + 1 : Nat), 2⟩ })) ∧
      (s.inRun = true → 4 ≤ s.seq.stack.length → SheetKept s → s.orders.queue = [] → s.shed.barrier = .idle →
        s.shed.permission = false → (∀ u : Fin 16, (s.genset u).want = false ∧ (s.units[u]).participating = false) →
        exec (.hold p f) s = .next (answered t .ok [] { s1 with
          seq := { s.seq with
            state := .aborted, stack := [], stepTimeout := none, progress := {}, serial := s.seq.serial + 1 }
          feeders := mapTable (fun r => if r.owner = .sequencer then { r with owner := .free, mode := .manual } else r) s.feeders
          dispatch := { s.dispatch with restoreWait := none }
          record := s.recordWith [(.seqAbort, none, s.seq.position.val, 2)] }))) ∧
    (Requested s p f t .resume s1 →
      (s.seq.state ≠ .suspended → exec (.resume p f) s = .next (answered t .refusedState [] s1)) ∧
      (∀ below top, s.seq.state = .suspended → s.seq.stack = below ++ [top] →
        (top.cause = .protection → exec (.resume p f) s = .next (answered t .wrongResume [] s1)) ∧
        (top.cause = .operator → top.bank = s.activeBank →
          (∀ next, below.getLast? = some next → next.cause = .operator ∨ s.shed.permission = false →
            exec (.resume p f) s = .next (answered t .ok [] { s1 with
              seq := { s.seq with stack := below }, record := resumed below.length })) ∧
          (∀ rest next prot, below = rest ++ [next, prot] → prot.cause = .protection → s.shed.permission = true →
            prot.bank = s.activeBank → next.cause = .operator →
            exec (.resume p f) s = .next (answered t .ok [] { s1 with
              seq := { s.seq with stack := rest ++ [next] }
              record := s.recordWith [(.seqResume, none, (rest.length + 2 : Nat), 2),
                (.seqResume, none, (rest.length + 1 : Nat), 1)] })) ∧
          (below = [] → s.seq.progress.ended = false → s.seq.progress.pendingEnd = none →
            (s.seq.program[s.seq.position]).kind = .waitTime →
            exec (.resume p f) s = .next (answered t .ok [] { s1 with
              seq := { s.seq with state := .waiting, stack := [], stepTimeout := top.left }, record := resumed 0 })) ∧
          (∀ n : Fin 48, below = [] → s.seq.progress.ended = false → s.seq.progress.pendingEnd = some .done →
            n.val = s.seq.position.val + 1 → WaitStep s.seq n → s.orders.queue = [] → s.shed.barrier = .idle →
            exec (.resume p f) s = .next (answered t .ok [] { s1 with
              seq := ({ s.seq with stack := [], serial := s.seq.serial + 1 } : Sequencer).waitsAt n
              record := s.recordWith [(.seqResume, none, 0, 2),
                (.seqStep, some ⟨.program, s.seq.position.val⟩, s.seq.position.val, 1)] })) ∧
          (below = [] → s.seq.progress.ended = true → WaitStep s.seq s.seq.position →
            exec (.resume p f) s = .next (answered t .ok [] { s1 with
              seq := ({ s.seq with stack := [] } : Sequencer).waitsAt s.seq.position, record := resumed 0 }))) ∧
        (∀ next, top.cause = .operator → top.bank ≠ s.activeBank → below.getLast? = some next →
          next.cause = .operator ∨ s.shed.permission = false → s.orders.queue = [] → s.shed.barrier = .idle →
          (∀ i : Fin 8, s.shed.stageTimers[i] = none) → s.shed.restoreDelay = none → s.dispatch.stopTimer = none →
          s.seq.deadBusTimer = none →
          let sheet := computeSheet { s with activeBank := top.bank }
          sheet.res = s.sheet.res ∧ sheet.req = s.sheet.req ∧ sheet.margin = s.sheet.margin ∧ sheet.exp = s.sheet.exp →
          exec (.resume p f) s = .next (answered t .ok [] { s1 with
            activeBank := top.bank, sheet := sheet, curtailTimer := timeOrSecond (s.banks[top.bank]).curtailInterval
            dispatch := { s.dispatch with timer := timeOrSecond (s.banks[top.bank]).dispatchInterval }
            seq := { s.seq with stack := below }
            record := s.recordWith [(.seqResume, none, (below.length : Nat), 2),
              (.bankSwitch, some ⟨.bank, top.bank.val⟩, s.activeBank.val, 3)] }))))

/-! ## Management (R174, R175, R183 to R190) -/

/-- R184: with a used entry in the Manager List a request is admitted from a listed sender alone, and with none from any sender;
one that repeats the sequence recorded for its sender is dropped, and an admitted one has its sequence recorded. A request that is
not admitted leaves no trace, whatever its kind. -/
def Obligations.AdmissionBySenderAndSequence : Prop :=
  (∀ (r : Request) (s : State), (∀ k : Fin 4, (s.managers[k]).id = 0) →
    admitRequest r s =
      if s.openRecord = some ⟨r.sender, r.seq⟩ then none else some { s with openRecord := some ⟨r.sender, r.seq⟩ }) ∧
  (∀ (r : Request) (s : State), (∃ k : Fin 4, (s.managers[k]).id ≠ 0) →
    ((∀ k : Fin 4, (s.managers[k]).id ≠ r.sender) → admitRequest r s = none) ∧
    (∀ k : Fin 4, (s.managers[k]).id = r.sender → (∀ j : Fin 4, j < k → (s.managers[j]).id ≠ r.sender) →
      admitRequest r s = if (s.managers[k]).lastSeq = some r.seq then none
        else some { s with managers := s.managers.set k { s.managers[k] with lastSeq := some r.seq } })) ∧
  (∀ (c : Instr) (s : State) (p : Port) (f : Frame) (t : Telegram), c.arrival = some (p, f) → Arrives s p f t →
    t.kind = kindRequest → t.dest = s.ownId → admitRequest (requestOf t) s = none → exec c s = .next s)

/-- R171, R174, R175, R176, R185, R186, R189: a READ_ENTRY returns the entry, or is answered BAD_TABLE or BAD_INDEX; a READ_SHEET
returns the sheet content; a READ_EVENTS returns the oldest unread entries, at most 4 and no more than asked, and they are unread
no longer; a REWIND_EVENTS makes every retained entry unread; RECORD_HIGH stands at the new unread count; a request of no known
kind is answered BAD_CONTENT. Nothing else changes. -/
def Obligations.ReadsAnswerAndMoveTheCursor : Prop :=
  ∀ (s : State) (p : Port) (f : Frame) (t : Telegram) (s1 : State),
    let r := requestOf t
    let unreadIs := fun (n : Nat) =>
      { s1 with record := { s.record with unread := n, recordHigh := decide (256 - s.settings.eventOffset ≤ n) } }
    (Requested s p f t .readEntry s1 →
      ((r.table = 0 ∨ 9 < r.table) → exec (.readEntry p f) s = .next (answered t .badTable [] s1)) ∧
      (∀ table, r.table = table.code →
        (readEntryOctets s1 table r.index = none → exec (.readEntry p f) s = .next (answered t .badIndex [] s1)) ∧
        (∀ o, readEntryOctets s1 table r.index = some o → exec (.readEntry p f) s = .next (answered t .ok o s1)))) ∧
    (Requested s p f t .readSheet s1 → exec (.readSheet p f) s = .next (answered t .ok (sheetContent s1) s1)) ∧
    (Requested s p f t .readEvents s1 →
      let n := min (min r.count 4) s.record.unread
      exec (.readEvents p f) s = .next (answered t .ok
        (((s.record.entries.drop (s.record.entries.length - s.record.unread)).take n).flatMap eventOctets)
        (unreadIs (s.record.unread - n)))) ∧
    (Requested s p f t .rewindEvents s1 →
      exec (.rewindEvents p f) s = .next (answered t .ok [] (unreadIs s.record.entries.length))) ∧
    (Arrives s p f t → t.kind = kindRequest → t.dest = s.ownId → admitRequest r s = some s1 → (r.kind = 0 ∨ 15 < r.kind) →
      exec (.unknownRequest p f) s = .next (answered t .badContent [] s1))

/-- R44, R54, R125, R148, R180, R183, R184, R186: a WRITE_ENTRY of the wrong length is answered BAD_CONTENT and changes nothing.
One that passes its table's checks replaces the entry and logs TABLE_WRITE with the sender, and is answered OK; a cleared SHED entry
holds its reset values (log 12). A SETTINGS write hands each changed field on: RECORD_HIGH and QUEUE_HIGH are tested against the new
offsets (R60, R176), and a changed beacon interval starts the beacon timer again, an unchanged one leaving it (R190, log 27). A new
identity is in force once the response has been formed, and the old one is retired where the effective identity changes (log
32). A MANAGERS write leaves the entry's sequence absent, also in the sender's own entry, so that the second copy of that request is
served again: the model's choice (log 54). QUEUE_HIGH is logged after TABLE_WRITE (log 24). -/
def Obligations.ConfigurationWritesReplaceTheEntry : Prop :=
  ∀ (s : State) (p : Port) (f : Frame) (t : Telegram) (s1 : State), Requested s p f t .writeEntry s1 →
    let r := requestOf t
    let o := r.content
    let logged := fun (table : TableId) => s.record.append s.settings.eventOffset
      ⟨s.record.nextSeq, s.partTime, .tableWrite, some ⟨table, r.index⟩, r.sender.toNat, 0⟩
    (∀ (c : Instr) (table : TableId), c.arrival = some (p, f) → r.table = table.code → o.length ≠ entryLength table →
      exec c s = .next (answered t .badContent [] s1)) ∧
    (r.table = 4 → o.length = 8 → ∀ k : Fin 16, r.index = k.val →
      (1 ≤ read8 o 4 ∧ read8 o 4 ≤ 6 ∧ read8 o 6 < 4) → (∀ x ∈ s.orders.tracker, x.order.profile ≠ k) →
      exec (.writeEntryProfile p f) s = .next (answered t .ok []
        { s1 with profiles := s.profiles.set k (profileFrom o), record := logged .profile })) ∧
    (r.table = 5 → o.length = 4 → ∀ k : Fin 32, r.index = k.val →
      (read8 o 0 = 0xFF ∨ (read8 o 0 < 32 ∧ 1 ≤ read8 o 1 ∧ read8 o 1 ≤ 8 ∧ read8 o 3 < 3 ∧
        ∀ j : Fin 32, j ≠ k → (s.shed.table[j]).feeder ≠ some (Fin.ofNat 32 (read8 o 0)))) →
      (∀ i : Fin 8, s.shed.stageTimers[i] = none) → shedTripSent s = false →
      exec (.writeEntryShed p f) s = .next (answered t .ok []
        { s1 with
          shed := { s.shed with table := s.shed.table.set k (shedFrom o), progress := none }
          record := logged .shed })) ∧
    (r.table = 6 → o.length = 8 → ∀ (k : Fin 48) (kind : StepKind) (onFail : OnFail), r.index = k.val →
      ofCode stepKindsByCode (read8 o 0) = some kind → ofCode onFailsByCode (read8 o 1) = some onFail →
      operandOk kind (read16 o 2) = true → s.inRun = false →
      exec (.writeEntryProgram p f) s = .next (answered t .ok []
        { s1 with
          seq := { s.seq with program := s.seq.program.set k ⟨kind, read16 o 2, octet o 4, onFail⟩ }
          record := logged .program })) ∧
    (r.table = 7 → o.length = 64 → ∀ k : Fin 4, r.index = k.val → k ≠ s.activeBank → (bankFrom o).valid = true →
      exec (.writeEntryBank p f) s = .next (answered t .ok []
        { s1 with banks := s.banks.set k (bankFrom o), record := logged .bank })) ∧
    (r.table = 8 → o.length = 16 → r.index = 0 → ∀ x, settingsFrom o = x → x.valid = true →
      let old := s.settings
      let high := decide (32 - x.queueOffset ≤ s.orders.queue.length)
      let written := { s1 with
        settings := { x with ownId := old.ownId, etherType := old.etherType }
        orders := if x.queueOffset = old.queueOffset then s.orders else { s.orders with queueHigh := high }
        beaconTimer := if x.beacon = old.beacon then s.beaconTimer else timeOrSecond x.beacon }
      let a := answered t .ok [] { written with
        record := written.recordWith ((.tableWrite, some ⟨.settings, 0⟩, (r.sender.toNat : Int), 0) ::
          if x.queueOffset ≠ old.queueOffset ∧ high = true ∧ s.orders.queueHigh = false
          then [(.queueHigh, none, (s.orders.queue.length : Int), 0)] else []) }
      exec (.writeEntrySettings p f) s = .next { a with
        settings := x
        retired := if ({ s with settings := x } : State).ownId = s.ownId ∧ x.etherType = old.etherType then s.retired
          else some ⟨s.ownId, old.etherType, 1000⟩ }) ∧
    (r.table = 9 → o.length = 8 → ∀ (k : Fin 4) (id : StationId), r.index = k.val → id = BitVec.ofNat 16 (read16 o 0) →
      id ≠ 0xFFFF → (id = 0 ∨ ∀ j : Fin 4, j ≠ k → (s.managers[j]).id ≠ id) →
      exec (.writeEntryManagers p f) s = .next (answered t .ok [] { s1 with
        managers := s1.managers.set k { id := id }
        openRecord := if ∃ j : Fin 4, ((s1.managers.set k { id := id })[j]).id ≠ 0 then none else s1.openRecord
        record := logged .managers }))

/-- R4, R78, R120, R123, R186, R199: a SOURCE, UNIT or FEEDER write that passes its checks replaces the configuration of its
entry with what it carries, leaves every other entry's configuration, measurements and device state as they were, and is answered
OK; a cleared SOURCE entry holds its reset values (log 12). TABLE_WRITE is logged with the table and index as subject and the sender as
value, and is all that is logged by the first write of an entry that stood as after reset; that clause is stated for a sheet and a
frequency source that stand as their records give them, no order waiting, a SOURCE entry that is no reference, and for a record that
becomes a genset a stop test that would change nothing (R97, log 48). The mode a FEEDER write leaves is stated for a sheet that
stands as its records give it, no order waiting and an empty Shed Stack. -/
def Obligations.RecordWritesReplaceTheConfiguration : Prop :=
  ∀ (s : State) (p : Port) (f : Frame) (t : Telegram) (s1 : State), Requested s p f t .writeEntry s1 →
    let r := requestOf t
    let o := r.content
    let mode := if read8 o 1 = 1 then Mode.manual else Mode.auto
    let device := BitVec.ofNat 16 (read16 o 2)
    let status := fun (t' : State) => ∃ a, t' = answered t .ok [] a
    let written := fun (table : TableId) => s.recordWith [(.tableWrite, some ⟨table, r.index⟩, r.sender.toNat, 0)]
    let calm := SheetKept s ∧ s.freqSource = sourceChoice s ∧ s.orders.queue = []
    (r.table = 1 → o.length = 24 → ∀ i : Fin 64, r.index = i.val →
      (∀ e, read16 o 0 = 0 ∧ e = {} ∨
          read16 o 0 ≠ 0 ∧ sourceFrom o = some e ∧ firstFailure (sourceChecks s i e) = .ok →
        (∃ t', exec (.writeEntrySource p f) s = .next t' ∧ t'.handovers = [] ∧ status t' ∧
          t'.given = { s1.given with sources := t'.sources } ∧
          t'.sources[i] = e ∧ ∀ j, j ≠ i → t'.sources[j] = s.sources[j]) ∧
        (s.sources[i] = {} → e.role ≠ .reference → calm → exec (.writeEntrySource p f) s =
          .next (answered t .ok [] { s1 with sources := s.sources.set i e, record := written .source })))) ∧
    (r.table = 2 → o.length = 56 → ∀ (u : Fin 16) (kind : UnitKind), r.index = u.val →
      ofCode unitKindsByCode (read8 o 0) = some kind → firstFailure (unitChecks s u kind o) = .ok →
      ∃ t', exec (.writeEntryUnit p f) s = .next t' ∧ t'.handovers = [] ∧ status t' ∧
        t'.given = { s1.given with units := t'.given.units } ∧
        (∀ v : Fin 16, v ≠ u → (t'.units[v]).given = (s.units[v]).given) ∧
        (t'.units[u]).kind = kind ∧
        (kind ≠ .unused → (t'.units[u]).mode = mode ∧ (t'.units[u]).device = device ∧ (t'.units[u]).rated = read16 o 4) ∧
        (kind = .genset → (t'.units[u]).minLoad = read8 o 6 ∧ (t'.units[u]).startRank = read8 o 7 ∧
          (t'.units[u]).warmUp = octet o 8 ∧ (t'.units[u]).cooldown = octet o 9 ∧
          (t'.units[u]).startProfile.val = read8 o 10 ∧ (t'.units[u]).breakerProfile.val = read8 o 11 ∧
          (t'.units[u]).stopProfile.val = read8 o 12) ∧
        (kind = .pv → (t'.units[u]).limitProfile.val = read8 o 13) ∧
        (s.units[u] = {} → calm → (kind = .genset → stopTest s = s) → u ∉ s.arbiter.units →
          t' = answered t .ok [] { s1 with units := s.units.set u t'.units[u], record := written .unit })) ∧
    (r.table = 3 → o.length = 24 → ∀ k : Fin 32, r.index = k.val → firstFailure (feederChecks s k o) = .ok →
      ∃ t', exec (.writeEntryFeeder p f) s = .next t' ∧ t'.handovers = [] ∧ status t' ∧
        t'.given = { s1.given with feeders := t'.given.feeders } ∧
        (∀ j : Fin 32, j ≠ k → (t'.feeders[j]).given = (s.feeders[j]).given) ∧
        ((t'.feeders[k]).used = true ↔ read8 o 0 = 1) ∧
        (read8 o 0 = 1 → (t'.feeders[k]).device = device ∧ (t'.feeders[k]).profile.val = read8 o 4) ∧
        (read8 o 0 = 1 → SheetKept s → s.orders.queue = [] → s.shed.stack = [] → (t'.feeders[k]).mode = mode) ∧
        (s.feeders[k] = {} → calm → s.shed.entryOf k = none →
          t' = answered t .ok [] { s1 with feeders := s.feeders.set k t'.feeders[k], record := written .feeder }))

/-- R187, R198: SET_MODE sets the mode of a used unit, and of a used feeder, whose FAILED flag AUTO clears, and is answered OK;
another table is answered BAD_TABLE, an index beyond the table BAD_INDEX, a code that names no mode BAD_CONTENT, and an unused
record REFUSED_STATE, in that order (log 14). A mode that the record already has is taken in the same way: a PV plant loses
last-sent, and in MANUAL out-of-step, whatever its mode was (R120, log 17). The feeder, the plant and the store are stated with an
empty queue, the feeder with an empty Shed Stack too; for a genset the unit's own fields and the answer are. -/
def Obligations.SetModeSetsTheMode : Prop :=
  ∀ (s : State) (p : Port) (f : Frame) (t : Telegram) (s1 : State), Requested s p f t .setMode s1 →
    let r := requestOf t
    let o := r.content
    let mode := if read8 o 0 = 1 then Mode.manual else Mode.auto
    (r.table ≠ 2 → r.table ≠ 3 → exec (.setMode p f) s = .next (answered t .badTable [] s1)) ∧
    ((r.table = 2 ∧ 15 < r.index) ∨ (r.table = 3 ∧ 31 < r.index) →
      exec (.setMode p f) s = .next (answered t .badIndex [] s1)) ∧
    (∀ u : Fin 16, r.table = 2 → r.index = u.val →
      (o = [] ∨ 1 < read8 o 0 → exec (.setMode p f) s = .next (answered t .badContent [] s1)) ∧
      (o ≠ [] → read8 o 0 ≤ 1 →
        ((s.units[u]).kind = .unused → exec (.setMode p f) s = .next (answered t .refusedState [] s1)) ∧
        ((s.units[u]).kind ≠ .unused → ∃ t', exec (.setMode p f) s = .next t' ∧ t'.handovers = [] ∧
          t'.given = { s1.given with units := t'.given.units } ∧
          (∀ v : Fin 16, v ≠ u → (t'.units[v]).given = (s.units[v]).given) ∧
          (t'.units[u]).given = { (s.units[u]).given with mode := mode } ∧ ∃ a, t' = answered t .ok [] a) ∧
        ((s.units[u]).kind = .pv ∨ (s.units[u]).kind = .store → SheetKept s → s.orders.queue = [] →
          exec (.setMode p f) s = .next (answered t .ok [] (s1.modUnit u fun r => { r with
            mode := mode
            pv := if r.kind = .store then r.pv
              else if mode = .manual then { r.pv with lastSent := none, outOfStep := false }
              else if r.device ≠ 0 then { r.pv with lastSent := none } else r.pv }))))) ∧
    (∀ k : Fin 32, r.table = 3 → r.index = k.val →
      (o = [] ∨ 1 < read8 o 0 → exec (.setMode p f) s = .next (answered t .badContent [] s1)) ∧
      (o ≠ [] → read8 o 0 ≤ 1 →
        ((s.feeders[k]).used = false → exec (.setMode p f) s = .next (answered t .refusedState [] s1)) ∧
        ((s.feeders[k]).used = true → SheetKept s → s.orders.queue = [] → s.shed.stack = [] →
          exec (.setMode p f) s = .next (answered t .ok [] { s1 with
            feeders := modifyAt s.feeders k fun r =>
              { r with mode := mode, failed := if mode = .auto then false else r.failed } }))))

/-- R180, R190, R200: when the beacon timer expires it starts again with the beacon interval and a Status Beacon of 56 octets is
formed for all stations; when the retired identity's second is over it is forgotten, under WRST too (log 28). A timer that is not due
changes nothing (log 2). -/
def Obligations.BeaconAndRetiredIdentity : Prop :=
  ∀ s : State, s.handovers = [] →
    (beaconBody s).length = 56 ∧
    (s.phase = .running → s.beaconTimer ≠ 0 → exec .beaconTimerExpiry s = .next s) ∧
    (s.phase = .running → s.beaconTimer = 0 →
      let timed := { s with beaconTimer := timeOrSecond s.settings.beacon }
      exec .beaconTimerExpiry s = .next (formTelegram kindBeacon 0xFFFF (beaconBody s) timed)) ∧
    (s.phase = .coldHeld ∨ (∀ r, s.retired = some r → r.left ≠ 0) → exec .retiredIdentityExpiry s = .next s) ∧
    (s.phase ≠ .coldHeld → ∀ r, s.retired = some r → r.left = 0 →
      exec .retiredIdentityExpiry s = .next { s with retired := none })

/-- R199: every entry the part reads out is taken back, when written, as the contents it was read from: a Setting Bank and
Station Settings within their ranges, an Order Profile, a Shed Table entry, a Restore Program step, the ID of a Manager List entry,
and the configured fields of a Source Table entry and of a unit and a feeder record. A cleared Shed Table entry holds its reset
values (log 12). -/
def Obligations.EntriesReadBack : Prop :=
  (∀ b : Bank, b.valid = true → bankFrom (bankEntry b) = b) ∧
  (∀ (x : Settings) (n : Nat), x.valid = true → settingsFrom (settingsEntry x n) = x) ∧
  (∀ x : Profile, x.attempts ≤ 6 → profileFrom (profileEntry x) = x) ∧
  (∀ e : ShedEntry, e.feeder ≠ none ∨ e = {} → shedFrom (shedEntry e) = e) ∧
  (∀ x : StepRec, x.operand < 65536 →
    ofCode stepKindsByCode (read8 (programEntry x) 0) = some x.kind ∧
    ofCode onFailsByCode (read8 (programEntry x) 1) = some x.onFail ∧
    read16 (programEntry x) 2 = x.operand ∧ octet (programEntry x) 4 = x.time) ∧
  (∀ e : SourceEntry, e.target < 256 → (e.target = 0 ∨ e.role = .unit ∨ e.role = .feeder) →
    sourceFrom (sourceEntry e) =
      some { publisher := e.publisher, role := e.role, target := e.target, staleLimit := e.staleLimit }) ∧
  (∀ m : Manager, BitVec.ofNat 16 (read16 (managerEntry m) 0) = m.id) ∧
  (∀ (r old : UnitRec) (fresh : Bool), r.kind ≠ .unused → r.rated < 65536 → r.minLoad < 256 → r.startRank < 256 →
    let o := unitEntry r fresh
    let c := unitConfig r.kind o old
    ofCode unitKindsByCode (read8 o 0) = some r.kind ∧ c.kind = r.kind ∧ c.mode = r.mode ∧ c.device = r.device ∧
      c.rated = r.rated ∧
      (r.kind = .genset → c.minLoad = r.minLoad ∧ c.startRank = r.startRank ∧ c.warmUp = r.warmUp ∧ c.cooldown = r.cooldown ∧
        c.startProfile = r.startProfile ∧ c.breakerProfile = r.breakerProfile ∧ c.stopProfile = r.stopProfile) ∧
      (r.kind = .pv → c.limitProfile = r.limitProfile)) ∧
  (∀ (r old : FeederRec) (fresh : Bool), r.used = true →
    let o := feederEntry r fresh
    let c := feederAfterWrite true o old
    read8 o 0 = 1 ∧ c.used = true ∧ c.mode = r.mode ∧ c.device = r.device ∧ c.profile = r.profile)

/-! ## What every step keeps -/

/-- The invariants below hold right after reset, whose straps are the model's choice (log 5). -/
def Obligations.ResetMeetsTheInvariants : Prop :=
  let s := State.reset
  Settled s ∧ RecordKept s ∧ PortsKept s ∧ HistoryKept s ∧ BanksKept s ∧ SettingsKept s ∧ ProfilesKept s ∧ QueueKept s ∧
    TrackerKept s ∧ BooksBalance s ∧ QueueHighKept s ∧ LimitsKept s ∧ ArbiterKept s ∧ LockoutKept s ∧ StackKept s ∧
    SuspensionKept s ∧ SheetKept s ∧ SourceKept s

/-- R170, R171, R176: the Event Record stays within 256 entries, the unread ones among them, and RECORD_HIGH stands at the unread
count. -/
def Obligations.StepKeepsRecord : Prop := ∀ s t : State, RecordKept s → step s = .next t → RecordKept t

/-- R19, R178, R179: the port queues and the Frequency History stay within their sizes, and a port that is DOWN holds nothing. -/
def Obligations.StepKeepsPortsAndHistory : Prop :=
  ∀ s t : State, PortsKept s ∧ HistoryKept s → step s = .next t → PortsKept t ∧ HistoryKept t

/-- R42, R44, R45, R53, R54, R183: the Setting Banks, Station Settings and the Order Profile Table stay within their ranges. -/
def Obligations.StepKeepsTablesInRange : Prop :=
  ∀ s t : State, BanksKept s ∧ SettingsKept s ∧ ProfilesKept s → step s = .next t →
    BanksKept t ∧ SettingsKept t ∧ ProfilesKept t

/-- R56, R57, R58, R60, R63, R67, R74, R75: the Action Queue keeps its size and order, no device has two orders out, no tag is
held twice, the order counters always balance, and QUEUE_HIGH stands at the occupancy. -/
def Obligations.StepKeepsOrders : Prop :=
  ∀ s t : State, QueueKept s ∧ TrackerKept s ∧ BooksBalance s ∧ SettingsKept s ∧ QueueHighKept s → step s = .next t →
    QueueKept t ∧ TrackerKept t ∧ BooksBalance t ∧ SettingsKept t ∧ QueueHighKept t

/-- R112, R115, R119, R188: no LIMIT above its plant's rated power or valid mirror, and none below 0, ever waits in the queue. -/
def Obligations.StepKeepsLimits : Prop := ∀ s t : State, LimitsKept s → step s = .next t → LimitsKept t

/-- R100 to R104: one crank at a time is granted, and no genset stands in the arbiter twice. -/
def Obligations.StepKeepsArbiter : Prop := ∀ s t : State, ArbiterKept s → step s = .next t → ArbiterKept t

/-- R77, R84: a genset has a lockout cause exactly while it is LOCKED_OUT. -/
def Obligations.StepKeepsLockout : Prop := ∀ s t : State, LockoutKept s → step s = .next t → LockoutKept t

/-- R123, R127: a feeder is owned by SHED exactly while it is in the Shed Stack, and stands there once. -/
def Obligations.StepKeepsShedStack : Prop := ∀ s t : State, StackKept s → step s = .next t → StackKept t

/-- R161, R163, R165: the Suspension Stack holds at most 4 records, and some exactly while the Sequencer is SUSPENDED. -/
def Obligations.StepKeepsSuspension : Prop := ∀ s t : State, SuspensionKept s → step s = .next t → SuspensionKept t

/-- R29: the Balance Sheet is at every moment between commands the one its records, its genset states and the active bank
give. -/
def Obligations.StepKeepsSheet : Prop := ∀ s t : State, SheetKept s → step s = .next t → SheetKept t

/-- R18, R31: the frequency source is at every moment between commands the first that qualifies, and the sheet's frequency is
the one it last had written. -/
def Obligations.StepKeepsSource : Prop := ∀ s t : State, SourceKept s → step s = .next t → SourceKept t
end

