-- ==== Sys2Proof/Laws/State.lean ====
section
/-!
SUPPORT. What the shared updates of the state do, field by field, and what they leave of the records they do not name.
-/

namespace Sys2Proof.Machine

variable {s : State}

/-! ## Tables -/

@[simp] theorem modifyAt_get {α : Type} {n : Nat} (v : Vector α n) (i j : Fin n) (f : α → α) :
    (modifyAt v i f)[j.val] = if i = j then f v[j.val] else v[j.val] := by
  simp only [modifyAt, Vector.getElem_set, Fin.val_inj]
  split_ifs with h <;> simp [h]

@[simp] theorem mapTable_get {α : Type} {n : Nat} (f : α → α) (v : Vector α n) (i : Fin n) :
    (mapTable f v)[i.val] = f v[i.val] := by simp [mapTable]

@[simp] theorem mapIndexed_get {α : Type} {n : Nat} (f : Fin n → α → α) (v : Vector α n) (i : Fin n) :
    (mapIndexed f v)[i.val] = f i v[i.val] := by simp [mapIndexed]

/-! ## `post` -/

@[simp] theorem post_phase (hs : List Handover) : (s.post hs).phase = s.phase := rfl
@[simp] theorem post_fsel (hs : List Handover) : (s.post hs).fsel = s.fsel := rfl
@[simp] theorem post_sid (hs : List Handover) : (s.post hs).sid = s.sid := rfl
@[simp] theorem post_partTime (hs : List Handover) : (s.post hs).partTime = s.partTime := rfl
@[simp] theorem post_portA (hs : List Handover) : (s.post hs).portA = s.portA := rfl
@[simp] theorem post_portB (hs : List Handover) : (s.post hs).portB = s.portB := rfl
@[simp] theorem post_settings (hs : List Handover) : (s.post hs).settings = s.settings := rfl
@[simp] theorem post_retired (hs : List Handover) : (s.post hs).retired = s.retired := rfl
@[simp] theorem post_telSeq (hs : List Handover) : (s.post hs).telSeq = s.telSeq := rfl
@[simp] theorem post_managers (hs : List Handover) : (s.post hs).managers = s.managers := rfl
@[simp] theorem post_openRecord (hs : List Handover) : (s.post hs).openRecord = s.openRecord := rfl
@[simp] theorem post_beaconTimer (hs : List Handover) : (s.post hs).beaconTimer = s.beaconTimer := rfl
@[simp] theorem post_sources (hs : List Handover) : (s.post hs).sources = s.sources := rfl
@[simp] theorem post_freqSource (hs : List Handover) : (s.post hs).freqSource = s.freqSource := rfl
@[simp] theorem post_history (hs : List Handover) : (s.post hs).history = s.history := rfl
@[simp] theorem post_units (hs : List Handover) : (s.post hs).units = s.units := rfl
@[simp] theorem post_feeders (hs : List Handover) : (s.post hs).feeders = s.feeders := rfl
@[simp] theorem post_sheet (hs : List Handover) : (s.post hs).sheet = s.sheet := rfl
@[simp] theorem post_banks (hs : List Handover) : (s.post hs).banks = s.banks := rfl
@[simp] theorem post_activeBank (hs : List Handover) : (s.post hs).activeBank = s.activeBank := rfl
@[simp] theorem post_profiles (hs : List Handover) : (s.post hs).profiles = s.profiles := rfl
@[simp] theorem post_orders (hs : List Handover) : (s.post hs).orders = s.orders := rfl
@[simp] theorem post_dispatch (hs : List Handover) : (s.post hs).dispatch = s.dispatch := rfl
@[simp] theorem post_arbiter (hs : List Handover) : (s.post hs).arbiter = s.arbiter := rfl
@[simp] theorem post_curtailTimer (hs : List Handover) : (s.post hs).curtailTimer = s.curtailTimer := rfl
@[simp] theorem post_shed (hs : List Handover) : (s.post hs).shed = s.shed := rfl
@[simp] theorem post_seq (hs : List Handover) : (s.post hs).seq = s.seq := rfl
@[simp] theorem post_record (hs : List Handover) : (s.post hs).record = s.record := rfl
@[simp] theorem post_pending (hs : List Handover) : (s.post hs).pending = s.pending := rfl
@[simp] theorem post_handovers (hs : List Handover) : (s.post hs).handovers = s.handovers ++ hs := rfl
@[simp] theorem post_overrun (hs : List Handover) : (s.post hs).overrun = s.overrun := rfl

/-! ## `postFirst` -/

@[simp] theorem postFirst_phase (h : Handover) : (s.postFirst h).phase = s.phase := rfl
@[simp] theorem postFirst_fsel (h : Handover) : (s.postFirst h).fsel = s.fsel := rfl
@[simp] theorem postFirst_sid (h : Handover) : (s.postFirst h).sid = s.sid := rfl
@[simp] theorem postFirst_partTime (h : Handover) : (s.postFirst h).partTime = s.partTime := rfl
@[simp] theorem postFirst_portA (h : Handover) : (s.postFirst h).portA = s.portA := rfl
@[simp] theorem postFirst_portB (h : Handover) : (s.postFirst h).portB = s.portB := rfl
@[simp] theorem postFirst_settings (h : Handover) : (s.postFirst h).settings = s.settings := rfl
@[simp] theorem postFirst_retired (h : Handover) : (s.postFirst h).retired = s.retired := rfl
@[simp] theorem postFirst_telSeq (h : Handover) : (s.postFirst h).telSeq = s.telSeq := rfl
@[simp] theorem postFirst_managers (h : Handover) : (s.postFirst h).managers = s.managers := rfl
@[simp] theorem postFirst_openRecord (h : Handover) : (s.postFirst h).openRecord = s.openRecord := rfl
@[simp] theorem postFirst_beaconTimer (h : Handover) : (s.postFirst h).beaconTimer = s.beaconTimer := rfl
@[simp] theorem postFirst_sources (h : Handover) : (s.postFirst h).sources = s.sources := rfl
@[simp] theorem postFirst_freqSource (h : Handover) : (s.postFirst h).freqSource = s.freqSource := rfl
@[simp] theorem postFirst_history (h : Handover) : (s.postFirst h).history = s.history := rfl
@[simp] theorem postFirst_units (h : Handover) : (s.postFirst h).units = s.units := rfl
@[simp] theorem postFirst_feeders (h : Handover) : (s.postFirst h).feeders = s.feeders := rfl
@[simp] theorem postFirst_sheet (h : Handover) : (s.postFirst h).sheet = s.sheet := rfl
@[simp] theorem postFirst_banks (h : Handover) : (s.postFirst h).banks = s.banks := rfl
@[simp] theorem postFirst_activeBank (h : Handover) : (s.postFirst h).activeBank = s.activeBank := rfl
@[simp] theorem postFirst_profiles (h : Handover) : (s.postFirst h).profiles = s.profiles := rfl
@[simp] theorem postFirst_orders (h : Handover) : (s.postFirst h).orders = s.orders := rfl
@[simp] theorem postFirst_dispatch (h : Handover) : (s.postFirst h).dispatch = s.dispatch := rfl
@[simp] theorem postFirst_arbiter (h : Handover) : (s.postFirst h).arbiter = s.arbiter := rfl
@[simp] theorem postFirst_curtailTimer (h : Handover) : (s.postFirst h).curtailTimer = s.curtailTimer := rfl
@[simp] theorem postFirst_shed (h : Handover) : (s.postFirst h).shed = s.shed := rfl
@[simp] theorem postFirst_seq (h : Handover) : (s.postFirst h).seq = s.seq := rfl
@[simp] theorem postFirst_record (h : Handover) : (s.postFirst h).record = s.record := rfl
@[simp] theorem postFirst_pending (h : Handover) : (s.postFirst h).pending = s.pending := rfl
@[simp] theorem postFirst_handovers (h : Handover) : (s.postFirst h).handovers = h :: s.handovers := rfl
@[simp] theorem postFirst_overrun (h : Handover) : (s.postFirst h).overrun = s.overrun := rfl

/-! ## `log` -/

@[simp] theorem log_phase (k : EventKind) (x : Option Subject) (v : Int) (d : Nat) : (s.log k x v d).phase = s.phase := rfl
@[simp] theorem log_fsel (k : EventKind) (x : Option Subject) (v : Int) (d : Nat) : (s.log k x v d).fsel = s.fsel := rfl
@[simp] theorem log_sid (k : EventKind) (x : Option Subject) (v : Int) (d : Nat) : (s.log k x v d).sid = s.sid := rfl
@[simp] theorem log_partTime (k : EventKind) (x : Option Subject) (v : Int) (d : Nat) : (s.log k x v d).partTime = s.partTime := rfl
@[simp] theorem log_portA (k : EventKind) (x : Option Subject) (v : Int) (d : Nat) : (s.log k x v d).portA = s.portA := rfl
@[simp] theorem log_portB (k : EventKind) (x : Option Subject) (v : Int) (d : Nat) : (s.log k x v d).portB = s.portB := rfl
@[simp] theorem log_settings (k : EventKind) (x : Option Subject) (v : Int) (d : Nat) : (s.log k x v d).settings = s.settings := rfl
@[simp] theorem log_retired (k : EventKind) (x : Option Subject) (v : Int) (d : Nat) : (s.log k x v d).retired = s.retired := rfl
@[simp] theorem log_telSeq (k : EventKind) (x : Option Subject) (v : Int) (d : Nat) : (s.log k x v d).telSeq = s.telSeq := rfl
@[simp] theorem log_managers (k : EventKind) (x : Option Subject) (v : Int) (d : Nat) : (s.log k x v d).managers = s.managers := rfl
@[simp] theorem log_openRecord (k : EventKind) (x : Option Subject) (v : Int) (d : Nat) : (s.log k x v d).openRecord = s.openRecord := rfl
@[simp] theorem log_beaconTimer (k : EventKind) (x : Option Subject) (v : Int) (d : Nat) : (s.log k x v d).beaconTimer = s.beaconTimer := rfl
@[simp] theorem log_sources (k : EventKind) (x : Option Subject) (v : Int) (d : Nat) : (s.log k x v d).sources = s.sources := rfl
@[simp] theorem log_freqSource (k : EventKind) (x : Option Subject) (v : Int) (d : Nat) : (s.log k x v d).freqSource = s.freqSource := rfl
@[simp] theorem log_history (k : EventKind) (x : Option Subject) (v : Int) (d : Nat) : (s.log k x v d).history = s.history := rfl
@[simp] theorem log_units (k : EventKind) (x : Option Subject) (v : Int) (d : Nat) : (s.log k x v d).units = s.units := rfl
@[simp] theorem log_feeders (k : EventKind) (x : Option Subject) (v : Int) (d : Nat) : (s.log k x v d).feeders = s.feeders := rfl
@[simp] theorem log_sheet (k : EventKind) (x : Option Subject) (v : Int) (d : Nat) : (s.log k x v d).sheet = s.sheet := rfl
@[simp] theorem log_banks (k : EventKind) (x : Option Subject) (v : Int) (d : Nat) : (s.log k x v d).banks = s.banks := rfl
@[simp] theorem log_activeBank (k : EventKind) (x : Option Subject) (v : Int) (d : Nat) : (s.log k x v d).activeBank = s.activeBank := rfl
@[simp] theorem log_profiles (k : EventKind) (x : Option Subject) (v : Int) (d : Nat) : (s.log k x v d).profiles = s.profiles := rfl
@[simp] theorem log_orders (k : EventKind) (x : Option Subject) (v : Int) (d : Nat) : (s.log k x v d).orders = s.orders := rfl
@[simp] theorem log_dispatch (k : EventKind) (x : Option Subject) (v : Int) (d : Nat) : (s.log k x v d).dispatch = s.dispatch := rfl
@[simp] theorem log_arbiter (k : EventKind) (x : Option Subject) (v : Int) (d : Nat) : (s.log k x v d).arbiter = s.arbiter := rfl
@[simp] theorem log_curtailTimer (k : EventKind) (x : Option Subject) (v : Int) (d : Nat) : (s.log k x v d).curtailTimer = s.curtailTimer := rfl
@[simp] theorem log_shed (k : EventKind) (x : Option Subject) (v : Int) (d : Nat) : (s.log k x v d).shed = s.shed := rfl
@[simp] theorem log_seq (k : EventKind) (x : Option Subject) (v : Int) (d : Nat) : (s.log k x v d).seq = s.seq := rfl
@[simp] theorem log_record (k : EventKind) (x : Option Subject) (v : Int) (d : Nat) : (s.log k x v d).record = s.record.append s.settings.eventOffset ⟨s.record.nextSeq, s.partTime, k, x, v, d⟩ := rfl
@[simp] theorem log_pending (k : EventKind) (x : Option Subject) (v : Int) (d : Nat) : (s.log k x v d).pending = s.pending := rfl
@[simp] theorem log_handovers (k : EventKind) (x : Option Subject) (v : Int) (d : Nat) : (s.log k x v d).handovers = s.handovers := rfl
@[simp] theorem log_overrun (k : EventKind) (x : Option Subject) (v : Int) (d : Nat) : (s.log k x v d).overrun = s.overrun := rfl

/-! ## `modUnit` -/

@[simp] theorem modUnit_phase (u : Fin 16) (f : UnitRec → UnitRec) : (s.modUnit u f).phase = s.phase := rfl
@[simp] theorem modUnit_fsel (u : Fin 16) (f : UnitRec → UnitRec) : (s.modUnit u f).fsel = s.fsel := rfl
@[simp] theorem modUnit_sid (u : Fin 16) (f : UnitRec → UnitRec) : (s.modUnit u f).sid = s.sid := rfl
@[simp] theorem modUnit_partTime (u : Fin 16) (f : UnitRec → UnitRec) : (s.modUnit u f).partTime = s.partTime := rfl
@[simp] theorem modUnit_portA (u : Fin 16) (f : UnitRec → UnitRec) : (s.modUnit u f).portA = s.portA := rfl
@[simp] theorem modUnit_portB (u : Fin 16) (f : UnitRec → UnitRec) : (s.modUnit u f).portB = s.portB := rfl
@[simp] theorem modUnit_settings (u : Fin 16) (f : UnitRec → UnitRec) : (s.modUnit u f).settings = s.settings := rfl
@[simp] theorem modUnit_retired (u : Fin 16) (f : UnitRec → UnitRec) : (s.modUnit u f).retired = s.retired := rfl
@[simp] theorem modUnit_telSeq (u : Fin 16) (f : UnitRec → UnitRec) : (s.modUnit u f).telSeq = s.telSeq := rfl
@[simp] theorem modUnit_managers (u : Fin 16) (f : UnitRec → UnitRec) : (s.modUnit u f).managers = s.managers := rfl
@[simp] theorem modUnit_openRecord (u : Fin 16) (f : UnitRec → UnitRec) : (s.modUnit u f).openRecord = s.openRecord := rfl
@[simp] theorem modUnit_beaconTimer (u : Fin 16) (f : UnitRec → UnitRec) : (s.modUnit u f).beaconTimer = s.beaconTimer := rfl
@[simp] theorem modUnit_sources (u : Fin 16) (f : UnitRec → UnitRec) : (s.modUnit u f).sources = s.sources := rfl
@[simp] theorem modUnit_freqSource (u : Fin 16) (f : UnitRec → UnitRec) : (s.modUnit u f).freqSource = s.freqSource := rfl
@[simp] theorem modUnit_history (u : Fin 16) (f : UnitRec → UnitRec) : (s.modUnit u f).history = s.history := rfl
@[simp] theorem modUnit_units (u : Fin 16) (f : UnitRec → UnitRec) : (s.modUnit u f).units = modifyAt s.units u f := rfl
@[simp] theorem modUnit_feeders (u : Fin 16) (f : UnitRec → UnitRec) : (s.modUnit u f).feeders = s.feeders := rfl
@[simp] theorem modUnit_sheet (u : Fin 16) (f : UnitRec → UnitRec) : (s.modUnit u f).sheet = s.sheet := rfl
@[simp] theorem modUnit_banks (u : Fin 16) (f : UnitRec → UnitRec) : (s.modUnit u f).banks = s.banks := rfl
@[simp] theorem modUnit_activeBank (u : Fin 16) (f : UnitRec → UnitRec) : (s.modUnit u f).activeBank = s.activeBank := rfl
@[simp] theorem modUnit_profiles (u : Fin 16) (f : UnitRec → UnitRec) : (s.modUnit u f).profiles = s.profiles := rfl
@[simp] theorem modUnit_orders (u : Fin 16) (f : UnitRec → UnitRec) : (s.modUnit u f).orders = s.orders := rfl
@[simp] theorem modUnit_dispatch (u : Fin 16) (f : UnitRec → UnitRec) : (s.modUnit u f).dispatch = s.dispatch := rfl
@[simp] theorem modUnit_arbiter (u : Fin 16) (f : UnitRec → UnitRec) : (s.modUnit u f).arbiter = s.arbiter := rfl
@[simp] theorem modUnit_curtailTimer (u : Fin 16) (f : UnitRec → UnitRec) : (s.modUnit u f).curtailTimer = s.curtailTimer := rfl
@[simp] theorem modUnit_shed (u : Fin 16) (f : UnitRec → UnitRec) : (s.modUnit u f).shed = s.shed := rfl
@[simp] theorem modUnit_seq (u : Fin 16) (f : UnitRec → UnitRec) : (s.modUnit u f).seq = s.seq := rfl
@[simp] theorem modUnit_record (u : Fin 16) (f : UnitRec → UnitRec) : (s.modUnit u f).record = s.record := rfl
@[simp] theorem modUnit_pending (u : Fin 16) (f : UnitRec → UnitRec) : (s.modUnit u f).pending = s.pending := rfl
@[simp] theorem modUnit_handovers (u : Fin 16) (f : UnitRec → UnitRec) : (s.modUnit u f).handovers = s.handovers := rfl
@[simp] theorem modUnit_overrun (u : Fin 16) (f : UnitRec → UnitRec) : (s.modUnit u f).overrun = s.overrun := rfl

/-! ## `modFeeder` -/

@[simp] theorem modFeeder_phase (i : Fin 32) (f : FeederRec → FeederRec) : (s.modFeeder i f).phase = s.phase := rfl
@[simp] theorem modFeeder_fsel (i : Fin 32) (f : FeederRec → FeederRec) : (s.modFeeder i f).fsel = s.fsel := rfl
@[simp] theorem modFeeder_sid (i : Fin 32) (f : FeederRec → FeederRec) : (s.modFeeder i f).sid = s.sid := rfl
@[simp] theorem modFeeder_partTime (i : Fin 32) (f : FeederRec → FeederRec) : (s.modFeeder i f).partTime = s.partTime := rfl
@[simp] theorem modFeeder_portA (i : Fin 32) (f : FeederRec → FeederRec) : (s.modFeeder i f).portA = s.portA := rfl
@[simp] theorem modFeeder_portB (i : Fin 32) (f : FeederRec → FeederRec) : (s.modFeeder i f).portB = s.portB := rfl
@[simp] theorem modFeeder_settings (i : Fin 32) (f : FeederRec → FeederRec) : (s.modFeeder i f).settings = s.settings := rfl
@[simp] theorem modFeeder_retired (i : Fin 32) (f : FeederRec → FeederRec) : (s.modFeeder i f).retired = s.retired := rfl
@[simp] theorem modFeeder_telSeq (i : Fin 32) (f : FeederRec → FeederRec) : (s.modFeeder i f).telSeq = s.telSeq := rfl
@[simp] theorem modFeeder_managers (i : Fin 32) (f : FeederRec → FeederRec) : (s.modFeeder i f).managers = s.managers := rfl
@[simp] theorem modFeeder_openRecord (i : Fin 32) (f : FeederRec → FeederRec) : (s.modFeeder i f).openRecord = s.openRecord := rfl
@[simp] theorem modFeeder_beaconTimer (i : Fin 32) (f : FeederRec → FeederRec) : (s.modFeeder i f).beaconTimer = s.beaconTimer := rfl
@[simp] theorem modFeeder_sources (i : Fin 32) (f : FeederRec → FeederRec) : (s.modFeeder i f).sources = s.sources := rfl
@[simp] theorem modFeeder_freqSource (i : Fin 32) (f : FeederRec → FeederRec) : (s.modFeeder i f).freqSource = s.freqSource := rfl
@[simp] theorem modFeeder_history (i : Fin 32) (f : FeederRec → FeederRec) : (s.modFeeder i f).history = s.history := rfl
@[simp] theorem modFeeder_units (i : Fin 32) (f : FeederRec → FeederRec) : (s.modFeeder i f).units = s.units := rfl
@[simp] theorem modFeeder_feeders (i : Fin 32) (f : FeederRec → FeederRec) : (s.modFeeder i f).feeders = modifyAt s.feeders i f := rfl
@[simp] theorem modFeeder_sheet (i : Fin 32) (f : FeederRec → FeederRec) : (s.modFeeder i f).sheet = s.sheet := rfl
@[simp] theorem modFeeder_banks (i : Fin 32) (f : FeederRec → FeederRec) : (s.modFeeder i f).banks = s.banks := rfl
@[simp] theorem modFeeder_activeBank (i : Fin 32) (f : FeederRec → FeederRec) : (s.modFeeder i f).activeBank = s.activeBank := rfl
@[simp] theorem modFeeder_profiles (i : Fin 32) (f : FeederRec → FeederRec) : (s.modFeeder i f).profiles = s.profiles := rfl
@[simp] theorem modFeeder_orders (i : Fin 32) (f : FeederRec → FeederRec) : (s.modFeeder i f).orders = s.orders := rfl
@[simp] theorem modFeeder_dispatch (i : Fin 32) (f : FeederRec → FeederRec) : (s.modFeeder i f).dispatch = s.dispatch := rfl
@[simp] theorem modFeeder_arbiter (i : Fin 32) (f : FeederRec → FeederRec) : (s.modFeeder i f).arbiter = s.arbiter := rfl
@[simp] theorem modFeeder_curtailTimer (i : Fin 32) (f : FeederRec → FeederRec) : (s.modFeeder i f).curtailTimer = s.curtailTimer := rfl
@[simp] theorem modFeeder_shed (i : Fin 32) (f : FeederRec → FeederRec) : (s.modFeeder i f).shed = s.shed := rfl
@[simp] theorem modFeeder_seq (i : Fin 32) (f : FeederRec → FeederRec) : (s.modFeeder i f).seq = s.seq := rfl
@[simp] theorem modFeeder_record (i : Fin 32) (f : FeederRec → FeederRec) : (s.modFeeder i f).record = s.record := rfl
@[simp] theorem modFeeder_pending (i : Fin 32) (f : FeederRec → FeederRec) : (s.modFeeder i f).pending = s.pending := rfl
@[simp] theorem modFeeder_handovers (i : Fin 32) (f : FeederRec → FeederRec) : (s.modFeeder i f).handovers = s.handovers := rfl
@[simp] theorem modFeeder_overrun (i : Fin 32) (f : FeederRec → FeederRec) : (s.modFeeder i f).overrun = s.overrun := rfl

/-! ## `modSource` -/

@[simp] theorem modSource_phase (i : Fin 64) (f : SourceEntry → SourceEntry) : (s.modSource i f).phase = s.phase := rfl
@[simp] theorem modSource_fsel (i : Fin 64) (f : SourceEntry → SourceEntry) : (s.modSource i f).fsel = s.fsel := rfl
@[simp] theorem modSource_sid (i : Fin 64) (f : SourceEntry → SourceEntry) : (s.modSource i f).sid = s.sid := rfl
@[simp] theorem modSource_partTime (i : Fin 64) (f : SourceEntry → SourceEntry) : (s.modSource i f).partTime = s.partTime := rfl
@[simp] theorem modSource_portA (i : Fin 64) (f : SourceEntry → SourceEntry) : (s.modSource i f).portA = s.portA := rfl
@[simp] theorem modSource_portB (i : Fin 64) (f : SourceEntry → SourceEntry) : (s.modSource i f).portB = s.portB := rfl
@[simp] theorem modSource_settings (i : Fin 64) (f : SourceEntry → SourceEntry) : (s.modSource i f).settings = s.settings := rfl
@[simp] theorem modSource_retired (i : Fin 64) (f : SourceEntry → SourceEntry) : (s.modSource i f).retired = s.retired := rfl
@[simp] theorem modSource_telSeq (i : Fin 64) (f : SourceEntry → SourceEntry) : (s.modSource i f).telSeq = s.telSeq := rfl
@[simp] theorem modSource_managers (i : Fin 64) (f : SourceEntry → SourceEntry) : (s.modSource i f).managers = s.managers := rfl
@[simp] theorem modSource_openRecord (i : Fin 64) (f : SourceEntry → SourceEntry) : (s.modSource i f).openRecord = s.openRecord := rfl
@[simp] theorem modSource_beaconTimer (i : Fin 64) (f : SourceEntry → SourceEntry) : (s.modSource i f).beaconTimer = s.beaconTimer := rfl
@[simp] theorem modSource_sources (i : Fin 64) (f : SourceEntry → SourceEntry) : (s.modSource i f).sources = modifyAt s.sources i f := rfl
@[simp] theorem modSource_freqSource (i : Fin 64) (f : SourceEntry → SourceEntry) : (s.modSource i f).freqSource = s.freqSource := rfl
@[simp] theorem modSource_history (i : Fin 64) (f : SourceEntry → SourceEntry) : (s.modSource i f).history = s.history := rfl
@[simp] theorem modSource_units (i : Fin 64) (f : SourceEntry → SourceEntry) : (s.modSource i f).units = s.units := rfl
@[simp] theorem modSource_feeders (i : Fin 64) (f : SourceEntry → SourceEntry) : (s.modSource i f).feeders = s.feeders := rfl
@[simp] theorem modSource_sheet (i : Fin 64) (f : SourceEntry → SourceEntry) : (s.modSource i f).sheet = s.sheet := rfl
@[simp] theorem modSource_banks (i : Fin 64) (f : SourceEntry → SourceEntry) : (s.modSource i f).banks = s.banks := rfl
@[simp] theorem modSource_activeBank (i : Fin 64) (f : SourceEntry → SourceEntry) : (s.modSource i f).activeBank = s.activeBank := rfl
@[simp] theorem modSource_profiles (i : Fin 64) (f : SourceEntry → SourceEntry) : (s.modSource i f).profiles = s.profiles := rfl
@[simp] theorem modSource_orders (i : Fin 64) (f : SourceEntry → SourceEntry) : (s.modSource i f).orders = s.orders := rfl
@[simp] theorem modSource_dispatch (i : Fin 64) (f : SourceEntry → SourceEntry) : (s.modSource i f).dispatch = s.dispatch := rfl
@[simp] theorem modSource_arbiter (i : Fin 64) (f : SourceEntry → SourceEntry) : (s.modSource i f).arbiter = s.arbiter := rfl
@[simp] theorem modSource_curtailTimer (i : Fin 64) (f : SourceEntry → SourceEntry) : (s.modSource i f).curtailTimer = s.curtailTimer := rfl
@[simp] theorem modSource_shed (i : Fin 64) (f : SourceEntry → SourceEntry) : (s.modSource i f).shed = s.shed := rfl
@[simp] theorem modSource_seq (i : Fin 64) (f : SourceEntry → SourceEntry) : (s.modSource i f).seq = s.seq := rfl
@[simp] theorem modSource_record (i : Fin 64) (f : SourceEntry → SourceEntry) : (s.modSource i f).record = s.record := rfl
@[simp] theorem modSource_pending (i : Fin 64) (f : SourceEntry → SourceEntry) : (s.modSource i f).pending = s.pending := rfl
@[simp] theorem modSource_handovers (i : Fin 64) (f : SourceEntry → SourceEntry) : (s.modSource i f).handovers = s.handovers := rfl
@[simp] theorem modSource_overrun (i : Fin 64) (f : SourceEntry → SourceEntry) : (s.modSource i f).overrun = s.overrun := rfl

/-! ## `modOrders` -/

@[simp] theorem modOrders_phase (f : OrderUnit → OrderUnit) : (s.modOrders f).phase = s.phase := rfl
@[simp] theorem modOrders_fsel (f : OrderUnit → OrderUnit) : (s.modOrders f).fsel = s.fsel := rfl
@[simp] theorem modOrders_sid (f : OrderUnit → OrderUnit) : (s.modOrders f).sid = s.sid := rfl
@[simp] theorem modOrders_partTime (f : OrderUnit → OrderUnit) : (s.modOrders f).partTime = s.partTime := rfl
@[simp] theorem modOrders_portA (f : OrderUnit → OrderUnit) : (s.modOrders f).portA = s.portA := rfl
@[simp] theorem modOrders_portB (f : OrderUnit → OrderUnit) : (s.modOrders f).portB = s.portB := rfl
@[simp] theorem modOrders_settings (f : OrderUnit → OrderUnit) : (s.modOrders f).settings = s.settings := rfl
@[simp] theorem modOrders_retired (f : OrderUnit → OrderUnit) : (s.modOrders f).retired = s.retired := rfl
@[simp] theorem modOrders_telSeq (f : OrderUnit → OrderUnit) : (s.modOrders f).telSeq = s.telSeq := rfl
@[simp] theorem modOrders_managers (f : OrderUnit → OrderUnit) : (s.modOrders f).managers = s.managers := rfl
@[simp] theorem modOrders_openRecord (f : OrderUnit → OrderUnit) : (s.modOrders f).openRecord = s.openRecord := rfl
@[simp] theorem modOrders_beaconTimer (f : OrderUnit → OrderUnit) : (s.modOrders f).beaconTimer = s.beaconTimer := rfl
@[simp] theorem modOrders_sources (f : OrderUnit → OrderUnit) : (s.modOrders f).sources = s.sources := rfl
@[simp] theorem modOrders_freqSource (f : OrderUnit → OrderUnit) : (s.modOrders f).freqSource = s.freqSource := rfl
@[simp] theorem modOrders_history (f : OrderUnit → OrderUnit) : (s.modOrders f).history = s.history := rfl
@[simp] theorem modOrders_units (f : OrderUnit → OrderUnit) : (s.modOrders f).units = s.units := rfl
@[simp] theorem modOrders_feeders (f : OrderUnit → OrderUnit) : (s.modOrders f).feeders = s.feeders := rfl
@[simp] theorem modOrders_sheet (f : OrderUnit → OrderUnit) : (s.modOrders f).sheet = s.sheet := rfl
@[simp] theorem modOrders_banks (f : OrderUnit → OrderUnit) : (s.modOrders f).banks = s.banks := rfl
@[simp] theorem modOrders_activeBank (f : OrderUnit → OrderUnit) : (s.modOrders f).activeBank = s.activeBank := rfl
@[simp] theorem modOrders_profiles (f : OrderUnit → OrderUnit) : (s.modOrders f).profiles = s.profiles := rfl
@[simp] theorem modOrders_orders (f : OrderUnit → OrderUnit) : (s.modOrders f).orders = f s.orders := rfl
@[simp] theorem modOrders_dispatch (f : OrderUnit → OrderUnit) : (s.modOrders f).dispatch = s.dispatch := rfl
@[simp] theorem modOrders_arbiter (f : OrderUnit → OrderUnit) : (s.modOrders f).arbiter = s.arbiter := rfl
@[simp] theorem modOrders_curtailTimer (f : OrderUnit → OrderUnit) : (s.modOrders f).curtailTimer = s.curtailTimer := rfl
@[simp] theorem modOrders_shed (f : OrderUnit → OrderUnit) : (s.modOrders f).shed = s.shed := rfl
@[simp] theorem modOrders_seq (f : OrderUnit → OrderUnit) : (s.modOrders f).seq = s.seq := rfl
@[simp] theorem modOrders_record (f : OrderUnit → OrderUnit) : (s.modOrders f).record = s.record := rfl
@[simp] theorem modOrders_pending (f : OrderUnit → OrderUnit) : (s.modOrders f).pending = s.pending := rfl
@[simp] theorem modOrders_handovers (f : OrderUnit → OrderUnit) : (s.modOrders f).handovers = s.handovers := rfl
@[simp] theorem modOrders_overrun (f : OrderUnit → OrderUnit) : (s.modOrders f).overrun = s.overrun := rfl

/-! ## `modArbiter` -/

@[simp] theorem modArbiter_phase (f : Arbiter → Arbiter) : (s.modArbiter f).phase = s.phase := rfl
@[simp] theorem modArbiter_fsel (f : Arbiter → Arbiter) : (s.modArbiter f).fsel = s.fsel := rfl
@[simp] theorem modArbiter_sid (f : Arbiter → Arbiter) : (s.modArbiter f).sid = s.sid := rfl
@[simp] theorem modArbiter_partTime (f : Arbiter → Arbiter) : (s.modArbiter f).partTime = s.partTime := rfl
@[simp] theorem modArbiter_portA (f : Arbiter → Arbiter) : (s.modArbiter f).portA = s.portA := rfl
@[simp] theorem modArbiter_portB (f : Arbiter → Arbiter) : (s.modArbiter f).portB = s.portB := rfl
@[simp] theorem modArbiter_settings (f : Arbiter → Arbiter) : (s.modArbiter f).settings = s.settings := rfl
@[simp] theorem modArbiter_retired (f : Arbiter → Arbiter) : (s.modArbiter f).retired = s.retired := rfl
@[simp] theorem modArbiter_telSeq (f : Arbiter → Arbiter) : (s.modArbiter f).telSeq = s.telSeq := rfl
@[simp] theorem modArbiter_managers (f : Arbiter → Arbiter) : (s.modArbiter f).managers = s.managers := rfl
@[simp] theorem modArbiter_openRecord (f : Arbiter → Arbiter) : (s.modArbiter f).openRecord = s.openRecord := rfl
@[simp] theorem modArbiter_beaconTimer (f : Arbiter → Arbiter) : (s.modArbiter f).beaconTimer = s.beaconTimer := rfl
@[simp] theorem modArbiter_sources (f : Arbiter → Arbiter) : (s.modArbiter f).sources = s.sources := rfl
@[simp] theorem modArbiter_freqSource (f : Arbiter → Arbiter) : (s.modArbiter f).freqSource = s.freqSource := rfl
@[simp] theorem modArbiter_history (f : Arbiter → Arbiter) : (s.modArbiter f).history = s.history := rfl
@[simp] theorem modArbiter_units (f : Arbiter → Arbiter) : (s.modArbiter f).units = s.units := rfl
@[simp] theorem modArbiter_feeders (f : Arbiter → Arbiter) : (s.modArbiter f).feeders = s.feeders := rfl
@[simp] theorem modArbiter_sheet (f : Arbiter → Arbiter) : (s.modArbiter f).sheet = s.sheet := rfl
@[simp] theorem modArbiter_banks (f : Arbiter → Arbiter) : (s.modArbiter f).banks = s.banks := rfl
@[simp] theorem modArbiter_activeBank (f : Arbiter → Arbiter) : (s.modArbiter f).activeBank = s.activeBank := rfl
@[simp] theorem modArbiter_profiles (f : Arbiter → Arbiter) : (s.modArbiter f).profiles = s.profiles := rfl
@[simp] theorem modArbiter_orders (f : Arbiter → Arbiter) : (s.modArbiter f).orders = s.orders := rfl
@[simp] theorem modArbiter_dispatch (f : Arbiter → Arbiter) : (s.modArbiter f).dispatch = s.dispatch := rfl
@[simp] theorem modArbiter_arbiter (f : Arbiter → Arbiter) : (s.modArbiter f).arbiter = f s.arbiter := rfl
@[simp] theorem modArbiter_curtailTimer (f : Arbiter → Arbiter) : (s.modArbiter f).curtailTimer = s.curtailTimer := rfl
@[simp] theorem modArbiter_shed (f : Arbiter → Arbiter) : (s.modArbiter f).shed = s.shed := rfl
@[simp] theorem modArbiter_seq (f : Arbiter → Arbiter) : (s.modArbiter f).seq = s.seq := rfl
@[simp] theorem modArbiter_record (f : Arbiter → Arbiter) : (s.modArbiter f).record = s.record := rfl
@[simp] theorem modArbiter_pending (f : Arbiter → Arbiter) : (s.modArbiter f).pending = s.pending := rfl
@[simp] theorem modArbiter_handovers (f : Arbiter → Arbiter) : (s.modArbiter f).handovers = s.handovers := rfl
@[simp] theorem modArbiter_overrun (f : Arbiter → Arbiter) : (s.modArbiter f).overrun = s.overrun := rfl

/-! ## `modShed` -/

@[simp] theorem modShed_phase (f : Shedding → Shedding) : (s.modShed f).phase = s.phase := rfl
@[simp] theorem modShed_fsel (f : Shedding → Shedding) : (s.modShed f).fsel = s.fsel := rfl
@[simp] theorem modShed_sid (f : Shedding → Shedding) : (s.modShed f).sid = s.sid := rfl
@[simp] theorem modShed_partTime (f : Shedding → Shedding) : (s.modShed f).partTime = s.partTime := rfl
@[simp] theorem modShed_portA (f : Shedding → Shedding) : (s.modShed f).portA = s.portA := rfl
@[simp] theorem modShed_portB (f : Shedding → Shedding) : (s.modShed f).portB = s.portB := rfl
@[simp] theorem modShed_settings (f : Shedding → Shedding) : (s.modShed f).settings = s.settings := rfl
@[simp] theorem modShed_retired (f : Shedding → Shedding) : (s.modShed f).retired = s.retired := rfl
@[simp] theorem modShed_telSeq (f : Shedding → Shedding) : (s.modShed f).telSeq = s.telSeq := rfl
@[simp] theorem modShed_managers (f : Shedding → Shedding) : (s.modShed f).managers = s.managers := rfl
@[simp] theorem modShed_openRecord (f : Shedding → Shedding) : (s.modShed f).openRecord = s.openRecord := rfl
@[simp] theorem modShed_beaconTimer (f : Shedding → Shedding) : (s.modShed f).beaconTimer = s.beaconTimer := rfl
@[simp] theorem modShed_sources (f : Shedding → Shedding) : (s.modShed f).sources = s.sources := rfl
@[simp] theorem modShed_freqSource (f : Shedding → Shedding) : (s.modShed f).freqSource = s.freqSource := rfl
@[simp] theorem modShed_history (f : Shedding → Shedding) : (s.modShed f).history = s.history := rfl
@[simp] theorem modShed_units (f : Shedding → Shedding) : (s.modShed f).units = s.units := rfl
@[simp] theorem modShed_feeders (f : Shedding → Shedding) : (s.modShed f).feeders = s.feeders := rfl
@[simp] theorem modShed_sheet (f : Shedding → Shedding) : (s.modShed f).sheet = s.sheet := rfl
@[simp] theorem modShed_banks (f : Shedding → Shedding) : (s.modShed f).banks = s.banks := rfl
@[simp] theorem modShed_activeBank (f : Shedding → Shedding) : (s.modShed f).activeBank = s.activeBank := rfl
@[simp] theorem modShed_profiles (f : Shedding → Shedding) : (s.modShed f).profiles = s.profiles := rfl
@[simp] theorem modShed_orders (f : Shedding → Shedding) : (s.modShed f).orders = s.orders := rfl
@[simp] theorem modShed_dispatch (f : Shedding → Shedding) : (s.modShed f).dispatch = s.dispatch := rfl
@[simp] theorem modShed_arbiter (f : Shedding → Shedding) : (s.modShed f).arbiter = s.arbiter := rfl
@[simp] theorem modShed_curtailTimer (f : Shedding → Shedding) : (s.modShed f).curtailTimer = s.curtailTimer := rfl
@[simp] theorem modShed_shed (f : Shedding → Shedding) : (s.modShed f).shed = f s.shed := rfl
@[simp] theorem modShed_seq (f : Shedding → Shedding) : (s.modShed f).seq = s.seq := rfl
@[simp] theorem modShed_record (f : Shedding → Shedding) : (s.modShed f).record = s.record := rfl
@[simp] theorem modShed_pending (f : Shedding → Shedding) : (s.modShed f).pending = s.pending := rfl
@[simp] theorem modShed_handovers (f : Shedding → Shedding) : (s.modShed f).handovers = s.handovers := rfl
@[simp] theorem modShed_overrun (f : Shedding → Shedding) : (s.modShed f).overrun = s.overrun := rfl

/-! ## `modSeq` -/

@[simp] theorem modSeq_phase (f : Sequencer → Sequencer) : (s.modSeq f).phase = s.phase := rfl
@[simp] theorem modSeq_fsel (f : Sequencer → Sequencer) : (s.modSeq f).fsel = s.fsel := rfl
@[simp] theorem modSeq_sid (f : Sequencer → Sequencer) : (s.modSeq f).sid = s.sid := rfl
@[simp] theorem modSeq_partTime (f : Sequencer → Sequencer) : (s.modSeq f).partTime = s.partTime := rfl
@[simp] theorem modSeq_portA (f : Sequencer → Sequencer) : (s.modSeq f).portA = s.portA := rfl
@[simp] theorem modSeq_portB (f : Sequencer → Sequencer) : (s.modSeq f).portB = s.portB := rfl
@[simp] theorem modSeq_settings (f : Sequencer → Sequencer) : (s.modSeq f).settings = s.settings := rfl
@[simp] theorem modSeq_retired (f : Sequencer → Sequencer) : (s.modSeq f).retired = s.retired := rfl
@[simp] theorem modSeq_telSeq (f : Sequencer → Sequencer) : (s.modSeq f).telSeq = s.telSeq := rfl
@[simp] theorem modSeq_managers (f : Sequencer → Sequencer) : (s.modSeq f).managers = s.managers := rfl
@[simp] theorem modSeq_openRecord (f : Sequencer → Sequencer) : (s.modSeq f).openRecord = s.openRecord := rfl
@[simp] theorem modSeq_beaconTimer (f : Sequencer → Sequencer) : (s.modSeq f).beaconTimer = s.beaconTimer := rfl
@[simp] theorem modSeq_sources (f : Sequencer → Sequencer) : (s.modSeq f).sources = s.sources := rfl
@[simp] theorem modSeq_freqSource (f : Sequencer → Sequencer) : (s.modSeq f).freqSource = s.freqSource := rfl
@[simp] theorem modSeq_history (f : Sequencer → Sequencer) : (s.modSeq f).history = s.history := rfl
@[simp] theorem modSeq_units (f : Sequencer → Sequencer) : (s.modSeq f).units = s.units := rfl
@[simp] theorem modSeq_feeders (f : Sequencer → Sequencer) : (s.modSeq f).feeders = s.feeders := rfl
@[simp] theorem modSeq_sheet (f : Sequencer → Sequencer) : (s.modSeq f).sheet = s.sheet := rfl
@[simp] theorem modSeq_banks (f : Sequencer → Sequencer) : (s.modSeq f).banks = s.banks := rfl
@[simp] theorem modSeq_activeBank (f : Sequencer → Sequencer) : (s.modSeq f).activeBank = s.activeBank := rfl
@[simp] theorem modSeq_profiles (f : Sequencer → Sequencer) : (s.modSeq f).profiles = s.profiles := rfl
@[simp] theorem modSeq_orders (f : Sequencer → Sequencer) : (s.modSeq f).orders = s.orders := rfl
@[simp] theorem modSeq_dispatch (f : Sequencer → Sequencer) : (s.modSeq f).dispatch = s.dispatch := rfl
@[simp] theorem modSeq_arbiter (f : Sequencer → Sequencer) : (s.modSeq f).arbiter = s.arbiter := rfl
@[simp] theorem modSeq_curtailTimer (f : Sequencer → Sequencer) : (s.modSeq f).curtailTimer = s.curtailTimer := rfl
@[simp] theorem modSeq_shed (f : Sequencer → Sequencer) : (s.modSeq f).shed = s.shed := rfl
@[simp] theorem modSeq_seq (f : Sequencer → Sequencer) : (s.modSeq f).seq = f s.seq := rfl
@[simp] theorem modSeq_record (f : Sequencer → Sequencer) : (s.modSeq f).record = s.record := rfl
@[simp] theorem modSeq_pending (f : Sequencer → Sequencer) : (s.modSeq f).pending = s.pending := rfl
@[simp] theorem modSeq_handovers (f : Sequencer → Sequencer) : (s.modSeq f).handovers = s.handovers := rfl
@[simp] theorem modSeq_overrun (f : Sequencer → Sequencer) : (s.modSeq f).overrun = s.overrun := rfl

/-! ## `setStopTimer` -/

@[simp] theorem setStopTimer_phase (t : Option StopTimer) : (s.setStopTimer t).phase = s.phase := rfl
@[simp] theorem setStopTimer_fsel (t : Option StopTimer) : (s.setStopTimer t).fsel = s.fsel := rfl
@[simp] theorem setStopTimer_sid (t : Option StopTimer) : (s.setStopTimer t).sid = s.sid := rfl
@[simp] theorem setStopTimer_partTime (t : Option StopTimer) : (s.setStopTimer t).partTime = s.partTime := rfl
@[simp] theorem setStopTimer_portA (t : Option StopTimer) : (s.setStopTimer t).portA = s.portA := rfl
@[simp] theorem setStopTimer_portB (t : Option StopTimer) : (s.setStopTimer t).portB = s.portB := rfl
@[simp] theorem setStopTimer_settings (t : Option StopTimer) : (s.setStopTimer t).settings = s.settings := rfl
@[simp] theorem setStopTimer_retired (t : Option StopTimer) : (s.setStopTimer t).retired = s.retired := rfl
@[simp] theorem setStopTimer_telSeq (t : Option StopTimer) : (s.setStopTimer t).telSeq = s.telSeq := rfl
@[simp] theorem setStopTimer_managers (t : Option StopTimer) : (s.setStopTimer t).managers = s.managers := rfl
@[simp] theorem setStopTimer_openRecord (t : Option StopTimer) : (s.setStopTimer t).openRecord = s.openRecord := rfl
@[simp] theorem setStopTimer_beaconTimer (t : Option StopTimer) : (s.setStopTimer t).beaconTimer = s.beaconTimer := rfl
@[simp] theorem setStopTimer_sources (t : Option StopTimer) : (s.setStopTimer t).sources = s.sources := rfl
@[simp] theorem setStopTimer_freqSource (t : Option StopTimer) : (s.setStopTimer t).freqSource = s.freqSource := rfl
@[simp] theorem setStopTimer_history (t : Option StopTimer) : (s.setStopTimer t).history = s.history := rfl
@[simp] theorem setStopTimer_units (t : Option StopTimer) : (s.setStopTimer t).units = s.units := rfl
@[simp] theorem setStopTimer_feeders (t : Option StopTimer) : (s.setStopTimer t).feeders = s.feeders := rfl
@[simp] theorem setStopTimer_sheet (t : Option StopTimer) : (s.setStopTimer t).sheet = s.sheet := rfl
@[simp] theorem setStopTimer_banks (t : Option StopTimer) : (s.setStopTimer t).banks = s.banks := rfl
@[simp] theorem setStopTimer_activeBank (t : Option StopTimer) : (s.setStopTimer t).activeBank = s.activeBank := rfl
@[simp] theorem setStopTimer_profiles (t : Option StopTimer) : (s.setStopTimer t).profiles = s.profiles := rfl
@[simp] theorem setStopTimer_orders (t : Option StopTimer) : (s.setStopTimer t).orders = s.orders := rfl
@[simp] theorem setStopTimer_dispatch (t : Option StopTimer) : (s.setStopTimer t).dispatch = { s.dispatch with stopTimer := t } := rfl
@[simp] theorem setStopTimer_arbiter (t : Option StopTimer) : (s.setStopTimer t).arbiter = s.arbiter := rfl
@[simp] theorem setStopTimer_curtailTimer (t : Option StopTimer) : (s.setStopTimer t).curtailTimer = s.curtailTimer := rfl
@[simp] theorem setStopTimer_shed (t : Option StopTimer) : (s.setStopTimer t).shed = s.shed := rfl
@[simp] theorem setStopTimer_seq (t : Option StopTimer) : (s.setStopTimer t).seq = s.seq := rfl
@[simp] theorem setStopTimer_record (t : Option StopTimer) : (s.setStopTimer t).record = s.record := rfl
@[simp] theorem setStopTimer_pending (t : Option StopTimer) : (s.setStopTimer t).pending = s.pending := rfl
@[simp] theorem setStopTimer_handovers (t : Option StopTimer) : (s.setStopTimer t).handovers = s.handovers := rfl
@[simp] theorem setStopTimer_overrun (t : Option StopTimer) : (s.setStopTimer t).overrun = s.overrun := rfl

end Sys2Proof.Machine
end

