-- ==== Sys2Proof/Laws/Frame.lean ====
section
/-!
SUPPORT. What no hand-over changes: for every operation of the jobs and of the Order Unit one lemma that it leaves
`State.given` as it was.
-/

namespace Sys2Proof.Machine

variable {s : State}

/-! ## Shared updates -/

@[simp] theorem post_given (hs : List Handover) : (s.post hs).given = s.given := rfl
@[simp] theorem postFirst_given (h : Handover) : (s.postFirst h).given = s.given := rfl
@[simp] theorem log_given (k : EventKind) (x : Option Subject) (v : Int) (d : Nat) : (s.log k x v d).given = s.given := rfl
@[simp] theorem modOrders_given (f : OrderUnit → OrderUnit) : (s.modOrders f).given = s.given := rfl
@[simp] theorem modArbiter_given (f : Arbiter → Arbiter) : (s.modArbiter f).given = s.given := rfl
@[simp] theorem setStopTimer_given (t : Option StopTimer) : (s.setStopTimer t).given = s.given := rfl
@[simp] theorem postRestoreWait_given (x : Option Nat) : (postRestoreWait x s).given = s.given := rfl

theorem modUnit_given (u : Fin 16) (f : UnitRec → UnitRec) (h : ∀ r, (f r).given = r.given) :
    (s.modUnit u f).given = s.given := by
  simp only [State.given, modUnit_units, Fin.getElem_fin, modifyAt_get, Given.mk.injEq]
  refine ⟨rfl, rfl, rfl, rfl, rfl, rfl, rfl, rfl, rfl, rfl, rfl, rfl, rfl, rfl, rfl, rfl, rfl, rfl, funext fun v => ?_, rfl⟩
  split_ifs <;> simp [h]

theorem modFeeder_given (i : Fin 32) (f : FeederRec → FeederRec) (h : ∀ r, (f r).given = r.given) :
    (s.modFeeder i f).given = s.given := by
  simp only [State.given, modFeeder_feeders, Fin.getElem_fin, modifyAt_get, Given.mk.injEq]
  refine ⟨rfl, rfl, rfl, rfl, rfl, rfl, rfl, rfl, rfl, rfl, rfl, rfl, rfl, rfl, rfl, rfl, rfl, rfl, rfl, funext fun v => ?_⟩
  split_ifs <;> simp [h]

@[simp] theorem modGenset_given (u : Fin 16) (f : GensetControl → GensetControl) : (s.modGenset u f).given = s.given :=
  modUnit_given u _ fun _ => rfl

@[simp] theorem modPv_given (u : Fin 16) (f : PvControl → PvControl) : (s.modPv u f).given = s.given :=
  modUnit_given u _ fun _ => rfl

/-- An update of Shedding that keeps its table. -/
theorem modShed_given (f : Shedding → Shedding) (h : (f s.shed).table = s.shed.table) : (s.modShed f).given = s.given := by
  simp [State.given, h]

/-- An update of the Sequencer that keeps its program and whether it is armed. -/
theorem modSeq_given (f : Sequencer → Sequencer) (h : (f s.seq).program = s.seq.program ∧ (f s.seq).armed = s.seq.armed) :
    (s.modSeq f).given = s.given := by
  simp [State.given, h]

/-- An action on each element of a list in turn keeps what each of them keeps. -/
theorem foldl_given {α : Type} (f : State → α → State) (h : ∀ t x, (f t x).given = t.given) (l : List α) :
    (l.foldl f s).given = s.given := by
  induction l generalizing s with
  | nil => rfl
  | cons x rest ih => simp [ih, h]

@[simp] theorem forUnits_given (f : Fin 16 → State → State) (h : ∀ u t, (f u t).given = t.given) :
    (forUnits f s).given = s.given := foldl_given _ (fun t u => h u t) _

/-! ## Ports and the Balance Engine -/

theorem placeOwn_given (p : PortState) (f : Frame) : (p.placeOwn f).given = p.given := by
  unfold PortState.placeOwn PortState.given; split_ifs <;> rfl

@[simp] theorem formTelegram_given (k : Nat) (d : StationId) (b : Octets) : (formTelegram k d b s).given = s.given := by
  simp [State.given, formTelegram, placeOwn_given]

@[simp] theorem recompute_given : (recompute s).given = s.given := by unfold recompute; simp only; split_ifs <;> rfl

@[simp] theorem chooseSource_given : (chooseSource s).given = s.given := by
  unfold chooseSource; simp only; split_ifs <;> rfl

/-! ## The Order Unit -/

@[simp] theorem testQueueHigh_given : (testQueueHigh s).given = s.given := by unfold testQueueHigh; simp only; split_ifs <;> rfl

@[simp] theorem setQueue_given (q : List Order) : (setQueue q s).given = s.given := by simp [setQueue]

@[simp] theorem recordEnd_given (o : Order) (e : OrderEnd) (v : Nat) : (recordEnd o e v s).given = s.given := by
  unfold recordEnd; simp only; split_ifs <;> rfl

@[simp] theorem setCycle_given (t : Target) (x : Timer) : (s.setCycle t x).given = s.given := by
  cases t
  · exact modUnit_given _ _ fun _ => rfl
  · exact modFeeder_given _ _ fun _ => rfl

@[simp] theorem setHoldOff_given (t : Target) (x : Timer) : (s.setHoldOff t x).given = s.given := by
  cases t
  · exact modUnit_given _ _ fun _ => rfl
  · exact modFeeder_given _ _ fun _ => rfl

@[simp] theorem startHoldOff_given (o : Order) (e : OrderEnd) : (startHoldOff o e s).given = s.given := by
  unfold startHoldOff; split_ifs <;> simp

@[simp] theorem endSlot_given (x : Slot) (e : OrderEnd) : (endSlot x e s).given = s.given := by simp [endSlot]

@[simp] theorem endQueued_given (o : Order) (e : OrderEnd) (b : Bool) : (endQueued o e b s).given = s.given := by simp [endQueued]

@[simp] theorem freeze_given (x : Slot) : (freeze x s).given = s.given := by unfold freeze; simp only; split_ifs <;> simp

@[simp] theorem sendOne_given (o : Order) : (sendOne o s).given = s.given := by
  unfold sendOne; simp only; split_ifs <;> simp <;> split <;> simp

@[simp] theorem sendLoop_given (n : Nat) : (sendLoop n s).given = s.given := by
  induction n generalizing s with
  | zero => rfl
  | succ n ih => unfold sendLoop; split <;> simp [ih]

@[simp] theorem sendTest_given : (sendTest s).given = s.given := sendLoop_given _

@[simp] theorem countAccepted_given : (countAccepted s).given = s.given := rfl

@[simp] theorem submitRoutine_given (o : Order) : (submitRoutine o s).1.given = s.given := by
  unfold submitRoutine; simp only; split <;> split_ifs <;> simp

theorem submitRoutine_out_given {o : Order} {out : State} {a : SubmitAnswer} (h : submitRoutine o s = (out, a)) :
    out.given = s.given := by
  rw [← submitRoutine_given (s := s) o, h]

@[simp] theorem cancelWhere_given (p : Order → Bool) (own : Bool) : (cancelWhere p own s).given = s.given :=
  foldl_given _ (by simp) _

@[simp] theorem dropLast_given : (dropLast s).given = s.given := by
  unfold dropLast; split_ifs <;> [rfl; skip]; split <;> simp

@[simp] theorem submitProtective_given (o : Order) : (submitProtective o s).given = s.given := by
  unfold submitProtective; simp only; split <;> simp

@[simp] theorem withdraw_given (c : List OrderCause) (t : Target) (k : Option OrderKind) : (withdraw c t k s).given = s.given :=
  cancelWhere_given _ _

@[simp] theorem idleTarget_given (t : Target) : (idleTarget t s).given = s.given := by simp [idleTarget]

@[simp] theorem cancelTarget_given (t : Target) : (cancelTarget t s).given = s.given := cancelWhere_given _ _

@[simp] theorem releaseTarget_given (t : Target) : (releaseTarget t s).given = s.given := by simp [releaseTarget]

@[simp] theorem matchReport_given (t : Target) (g : Octet) (r a : Bool) : (matchReport t g r a s).given = s.given := by
  unfold matchReport; split <;> [skip; split_ifs] <;> simp

@[simp] theorem inhibitChange_given (t : Target) : (inhibitChange t s).given = s.given := by
  unfold inhibitChange; split <;> [skip; (simp only; split_ifs)] <;> simp

@[simp] theorem deadlineExpires_given (g : Octet) : (deadlineExpires g s).given = s.given := by
  unfold deadlineExpires; split <;> [skip; split_ifs] <;> simp

@[simp] theorem inhibitExpires_given (g : Octet) : (inhibitExpires g s).given = s.given := by
  unfold inhibitExpires; split <;> [skip; split_ifs] <;> simp

@[simp] theorem cycleExpires_given (t : Target) : (cycleExpires t s).given = s.given := by
  unfold cycleExpires; split_ifs <;> simp

@[simp] theorem holdOffExpires_given (t : Target) : (holdOffExpires t s).given = s.given := by
  unfold holdOffExpires; simp only; split_ifs <;> [skip; rfl]; split <;> [skip; split_ifs] <;> simp

/-! ## The Crank Arbiter -/

@[simp] theorem grantTo_given (r : CrankRequest) : (grantTo r s).given = s.given := by simp [grantTo]

@[simp] theorem nextCrank_given : (nextCrank s).given = s.given := by
  unfold nextCrank; split <;> [skip; split] <;> simp

@[simp] theorem releaseGrant_given (p : Fin 16) : (releaseGrant p s).given = s.given := by
  unfold releaseGrant; simp only; split_ifs <;> simp

@[simp] theorem requestCrank_given (r : CrankRequest) : (requestCrank r s).given = s.given := by
  unfold requestCrank; simp only; split_ifs <;> simp

@[simp] theorem crankOutcome_given (u p : Fin 16) (b : Bool) : (crankOutcome u p b s).given = s.given := by
  unfold crankOutcome; split <;> [split_ifs; skip] <;> simp

@[simp] theorem withdrawCrank_given (c : CauseClass → Bool) (u : Fin 16) : (withdrawCrank c u s).given = s.given := by
  unfold withdrawCrank; simp only; split_ifs <;> simp

@[simp] theorem operatorWithdraw_given (u : Fin 16) : (operatorWithdraw u s).given = s.given := withdrawCrank_given _ _

@[simp] theorem operatorGrant_given (r : CrankRequest) : (operatorGrant r s).given = s.given := by
  unfold operatorGrant
  split_ifs <;> [rfl; skip]
  simp only
  split <;> rename_i h <;> simp [submitRoutine_out_given h]

@[simp] theorem pressureReady_given (k : Nat) : (pressureReady k s).given = s.given := by
  unfold pressureReady; split_ifs <;> simp

@[simp] theorem airHoldOffExpires_given : (airHoldOffExpires s).given = s.given := by
  unfold airHoldOffExpires; split_ifs <;> simp

/-! ## Diesel Dispatch -/

@[simp] theorem changeState_given (u : Fin 16) (g : GensetState) : (changeState u g s).given = s.given := by
  unfold changeState; simp only; split_ifs <;> simp

@[simp] theorem startStateTimer_given (u : Fin 16) (n : Nat) : (startStateTimer u n s).given = s.given := by
  unfold startStateTimer; simp only; split_ifs <;> simp

@[simp] theorem submitDispatch_given (k : OrderKind) (u : Fin 16) : (submitDispatch k u s).given = s.given := by
  unfold submitDispatch; split <;> rename_i h <;> simp [submitRoutine_out_given h]

@[simp] theorem dispatchWithdraw_given (k : Option OrderKind) (u : Fin 16) : (dispatchWithdraw k u s).given = s.given := by
  unfold dispatchWithdraw; simp only; split_ifs <;> simp

@[simp] theorem toClosing_given (u : Fin 16) : (toClosing u s).given = s.given := by simp [toClosing]

@[simp] theorem toCooldown_given (u : Fin 16) : (toCooldown u s).given = s.given := by simp [toCooldown]

@[simp] theorem toDerived_given (b : Bool) (u : Fin 16) : (toDerived b u s).given = s.given := by
  unfold toDerived; split <;> [skip; (simp only; split_ifs); skip] <;> simp

@[simp] theorem toUnavailable_given (u : Fin 16) : (toUnavailable u s).given = s.given := by simp [toUnavailable]

@[simp] theorem logLockout_given (u : Fin 16) (c : LockoutCause) : (logLockout u c s).given = s.given := by
  unfold logLockout; split <;> simp

@[simp] theorem lockOut_given (c : LockoutCause) (u : Fin 16) : (lockOut c u s).given = s.given := by simp [lockOut]

@[simp] theorem toStartQueued_given (u : Fin 16) : (toStartQueued u s).given = s.given := by
  unfold toStartQueued; simp only; split <;> simp

@[simp] theorem startFrom_given (c : StartCause) (u : Fin 16) : (startFrom c u s).given = s.given := by
  unfold startFrom; split <;> simp

@[simp] theorem tripUnit_given (u : Fin 16) : (tripUnit u s).given = s.given := by simp [tripUnit]

@[simp] theorem reportInState_given (u : Fin 16) : (reportInState u s).given = s.given := by
  unfold reportInState; simp only; split_ifs <;> [skip; split] <;> simp

@[simp] theorem gensetReport_given (u : Fin 16) : (gensetReport u s).given = s.given := by
  unfold gensetReport; simp only; split_ifs <;> [rfl; skip; skip; skip; skip] <;> split <;> simp

@[simp] theorem gensetMode_given (u : Fin 16) : (gensetMode u s).given = s.given := by
  unfold gensetMode; simp only; split <;> [rfl; split_ifs; split_ifs] <;> simp

@[simp] theorem clearLockout_given (u : Fin 16) : (clearLockout u s).given = s.given := by
  unfold clearLockout; simp only; split_ifs <;> simp

@[simp] theorem takeGrant_given (u : Fin 16) : (takeGrant u s).given = s.given := by unfold takeGrant; split_ifs <;> simp

@[simp] theorem crankEnds_given (u : Fin 16) (e : OrderEnd) : (crankEnds u e s).given = s.given := by
  unfold crankEnds; simp only; split_ifs <;> simp

@[simp] theorem closeEnds_given (u : Fin 16) (e : OrderEnd) : (closeEnds u e s).given = s.given := by
  unfold closeEnds; split_ifs <;> simp

@[simp] theorem startStopTimer_given (c : Fin 16) : (startStopTimer c s).given = s.given := by
  unfold startStopTimer; simp only; split_ifs <;> simp

@[simp] theorem stopTest_given : (stopTest s).given = s.given := by
  unfold stopTest; split <;> [skip; skip; split_ifs] <;> simp

@[simp] theorem stopTimerExpires_given : (stopTimerExpires s).given = s.given := by
  unfold stopTimerExpires; split <;> [(simp only; split_ifs); skip] <;> simp

@[simp] theorem unloadEnds_given (u : Fin 16) (e : OrderEnd) : (unloadEnds u e s).given = s.given := by
  unfold unloadEnds; split_ifs <;> simp

@[simp] theorem openEnds_given (u : Fin 16) (e : OrderEnd) : (openEnds u e s).given = s.given := by
  unfold openEnds; split_ifs <;> simp

@[simp] theorem stopEnds_given (u : Fin 16) (e : OrderEnd) : (stopEnds u e s).given = s.given := by
  unfold stopEnds; split_ifs <;> simp

@[simp] theorem stateTimerExpires_given (g : GensetState) (u : Fin 16) : (stateTimerExpires g u s).given = s.given := by
  unfold stateTimerExpires; split_ifs <;> [split; skip] <;> simp

@[simp] theorem clearOutstanding_given (k : OrderKind) (u : Fin 16) : (clearOutstanding k u s).given = s.given := by
  simp [clearOutstanding]

@[simp] theorem dispatchOrderEnd_given (u : Fin 16) (k : OrderKind) (e : OrderEnd) (own : Bool) :
    (dispatchOrderEnd u k e own s).given = s.given := by
  unfold dispatchOrderEnd; simp only; split_ifs <;> [rfl; skip; split] <;> simp

@[simp] theorem recallUnit_given (u : Fin 16) : (recallUnit u s).given = s.given := by simp [recallUnit]

@[simp] theorem settleOwed_given (u : Fin 16) : (settleOwed u s).given = s.given := by
  unfold settleOwed; split <;> [split_ifs; skip] <;> simp

@[simp] theorem settleUnloaded_given (u : Fin 16) : (settleUnloaded u s).given = s.given := by
  unfold settleUnloaded; simp only; split_ifs <;> simp

@[simp] theorem dispatchEval_given : (dispatchEval s).given = s.given := by
  unfold dispatchEval
  simp only
  split_ifs
  · simp
  · rw [foldl_given _ (by simp), forUnits_given]
    · simp
    · intro u t; split_ifs <;> simp

@[simp] theorem wantTest_given (u : Fin 16) : (wantTest u s).given = s.given := by unfold wantTest; split_ifs <;> simp

@[simp] theorem startAsk_given (u : Fin 16) : (startAsk u s).given = s.given := by
  unfold startAsk; simp only; split <;> simp

@[simp] theorem withdrawWant_given (u : Fin 16) : (withdrawWant u s).given = s.given := by
  unfold withdrawWant
  simp only
  split_ifs <;> [rfl; simp; skip; skip] <;> split <;> simp

/-! ## Solar Curtailment -/

@[simp] theorem submitLimit_given (u : Fin 16) (v : Int) : (submitLimit u v s).given = s.given := by simp [submitLimit]

@[simp] theorem curtailEval_given : (curtailEval s).given = s.given := by
  unfold curtailEval; simp only; split_ifs <;> [rfl; exact foldl_given _ (by simp) _]

@[simp] theorem limitOrderEnd_given (u : Fin 16) (v : Int) (e : OrderEnd) : (limitOrderEnd u v e s).given = s.given := by
  unfold limitOrderEnd; split_ifs <;> simp

@[simp] theorem lowerQueued_given (u : Fin 16) : (lowerQueued u s).given = s.given := rfl

@[simp] theorem setMirror_given (u : Fin 16) (v : Int) : (setMirror u v s).given = s.given := by
  unfold setMirror; simp only; split_ifs <;> simp

@[simp] theorem reassert_given (u : Fin 16) (n : Nat) : (reassert u n s).given = s.given := by simp [reassert]

@[simp] theorem followCopy_given (u : Fin 16) (b : Bool) : (followCopy u b s).given = s.given := by
  unfold followCopy; simp only; split <;> split_ifs <;> simp

@[simp] theorem setpointCopy_given (d : StationId) (v : Int) : (setpointCopy d v s).given = s.given := by
  unfold setpointCopy; split <;> [rfl; (simp only; split_ifs <;> simp)]

@[simp] theorem mirrorExpires_given (u : Fin 16) : (mirrorExpires u s).given = s.given := by
  unfold mirrorExpires; split_ifs <;> simp

@[simp] theorem withdrawLimits_given (u : Fin 16) : (withdrawLimits u s).given = s.given := by
  unfold withdrawLimits; split_ifs <;> simp

@[simp] theorem pvMode_given (u : Fin 16) : (pvMode u s).given = s.given := by
  unfold pvMode; simp only; split_ifs <;> simp

/-! ## Shedding and Restoration -/

@[simp] theorem setStack_given (q : List StackEntry) : (setStack q s).given = s.given := by simp [setStack, modShed_given]

@[simp] theorem removeEntry_given (f : Fin 32) : (removeEntry f s).given = s.given := by
  have freed : (s.modFeeder f fun r => { r with owner := .free, shedLoad := none }).given = s.given :=
    modFeeder_given _ _ fun _ => rfl
  unfold removeEntry
  simp only
  split_ifs <;> simp [modShed_given, freed]

@[simp] theorem takeFeeder_given (f : Fin 32) (c : ShedCause) (n : Nat) : (takeFeeder f c n s).given = s.given := by
  have owned : ∀ t : State, (t.modFeeder f fun r => { r with owner := .shed, shedLoad := some n }).given = t.given :=
    fun t => modFeeder_given _ _ fun _ => rfl
  unfold takeFeeder
  simp only [log_given, submitProtective_given, owned, setStack_given]
  split_ifs <;> simp

theorem walkEntry_given (c : ShedCause) (p : ShedEntry → Bool) (i : Fin 32) (w : Walk) :
    (walkEntry c p i w).state.given = w.state.given := by
  unfold walkEntry; simp only; split <;> [rfl; split_ifs] <;> simp

theorem walkOver_given (c : ShedCause) (p : ShedEntry → Bool) (target : Option Int) (l : List (Fin 32)) (w : Walk) :
    (walkOver c p target l w).state.given = w.state.given := by
  induction l generalizing w with
  | nil => rfl
  | cons i rest ih => unfold walkOver; simp only; split_ifs <;> simp [ih, walkEntry_given]

@[simp] theorem setStageTimer_given (i : Fin 8) (t : Timer) : (s.setStageTimer i t).given = s.given := modShed_given _ rfl

@[simp] theorem stageTrip_given (i : Fin 8) : (stageTrip i s).given = s.given := by
  simp [stageTrip, walkOver_given, modShed_given]

@[simp] theorem stageTimerExpires_given (i : Fin 8) : (stageTimerExpires i s).given = s.given := by
  unfold stageTimerExpires; split_ifs <;> simp

@[simp] theorem stageSample_given (b : Bank) (f : Nat) (i : Fin 8) : (stageSample b f i s).given = s.given := by
  unfold stageSample
  simp only
  split
  · rfl
  · split <;> split_ifs <;> simp

@[simp] theorem deficitWalk_given (n : Nat) (m : List Nat) (t : Int) : (deficitWalk n m t s).given = s.given := by
  simp [deficitWalk, walkOver_given, modShed_given]

@[simp] theorem deficitTest_given (b : Bank) (f : Nat) : (deficitTest b f s).given = s.given := by
  unfold deficitTest; simp only; split_ifs <;> simp [modShed_given]

@[simp] theorem makeUpWalk_given (n : Nat) : (makeUpWalk n s).given = s.given := by unfold makeUpWalk; split <;> simp

theorem modFeeder_failed_given (f : Fin 32) (b : Bool) : (s.modFeeder f fun r => { r with failed := b }).given = s.given :=
  modFeeder_given _ _ fun _ => rfl

@[simp] theorem shedTripEnd_given (f : Fin 32) (e : OrderEnd) : (shedTripEnd f e s).given = s.given := by
  unfold shedTripEnd
  simp only
  split <;> [rfl; split_ifs] <;> simp [modFeeder_failed_given]

@[simp] theorem restoreTest_given : (restoreTest s).given = s.given := by
  unfold restoreTest
  split_ifs <;> [rfl; skip]
  split <;> [simp; simp; (split <;> rename_i h <;> simp [modShed_given, submitRoutine_out_given h])]

@[simp] theorem grantPermission_given : (grantPermission s).given = s.given := by simp [grantPermission, modShed_given]

@[simp] theorem losePermission_given : (losePermission s).given = s.given := by simp [losePermission, modShed_given]

@[simp] theorem withdrawCloses_given : (withdrawCloses s).given = s.given := cancelWhere_given _ _

@[simp] theorem cancelRestoration_given : (cancelRestoration s).given = s.given := by
  unfold cancelRestoration; simp only; split_ifs <;> simp [modShed_given]

@[simp] theorem restoreDelaySample_given (b : Bank) (f : Nat) : (restoreDelaySample b f s).given = s.given := by
  unfold restoreDelaySample; split_ifs <;> simp [modShed_given]

@[simp] theorem restoreDelayExpires_given : (restoreDelayExpires s).given = s.given := by
  unfold restoreDelayExpires; split_ifs <;> simp

@[simp] theorem restoreCloseEnd_given (f : Fin 32) (e : OrderEnd) : (restoreCloseEnd f e s).given = s.given := by
  unfold restoreCloseEnd
  simp only
  split_ifs <;> [rfl; skip]
  have held : ∀ t : State, (t.modFeeder f fun r => { r with failed := true, mode := .manual }).given = t.given :=
    fun t => modFeeder_given _ _ fun _ => rfl
  split <;> simp only [removeEntry_given, recompute_given, log_given, post_given, held] <;> rfl

@[simp] theorem runStart_given : (runStart s).given = s.given := by simp [runStart, modShed_given]

@[simp] theorem runEnd_given : (runEnd s).given = s.given := by simp [runEnd, modShed_given]

@[simp] theorem startStepInterval_given (f : Fin 32) (o : BarrierOwner) (n : Nat) :
    (startStepInterval f o n s).given = s.given := by
  unfold startStepInterval; simp only; split_ifs <;> simp [modShed_given]

@[simp] theorem feederReport_given (f : Fin 32) : (feederReport f s).given = s.given := by
  unfold feederReport; split <;> [split_ifs; skip] <;> simp [modShed_given]

@[simp] theorem stepIntervalExpires_given : (stepIntervalExpires s).given = s.given := by
  unfold stepIntervalExpires; split <;> [(simp only; split); skip] <;> simp [modShed_given]

@[simp] theorem clearLatches_given (b : Bank) (f : Nat) : (clearLatches b f s).given = s.given := by
  unfold clearLatches; simp only; split_ifs <;> rfl

@[simp] theorem shedSample_given (f : Nat) : (shedSample f s).given = s.given := by
  unfold shedSample; simp only; split_ifs <;> simp [foldl_given]

@[simp] theorem shedFreqChange_given : (shedFreqChange s).given = s.given := by
  unfold shedFreqChange; split_ifs <;> simp [modShed_given]

@[simp] theorem feederMode_given (f : Fin 32) : (feederMode f s).given = s.given := by
  unfold feederMode; split <;> [exact modFeeder_failed_given _ _; (simp only; split_ifs <;> simp)]

@[simp] theorem feederRewritten_given (f : Fin 32) (a : Bool) : (feederRewritten f a s).given = s.given := by
  have freed : ∀ t : State, (t.modFeeder f fun r => { r with owner := .free }).given = t.given :=
    fun t => modFeeder_given _ _ fun _ => rfl
  unfold feederRewritten
  simp only [apply_ite State.given, freed, ite_self, removeEntry_given]

@[simp] theorem restartStage_given (b : Bank) (i : Fin 8) : (restartStage b i s).given = s.given := by
  unfold restartStage; split <;> [rfl; (simp only; split_ifs)] <;> simp

@[simp] theorem restartRestoreDelay_given (b : Bank) : (restartRestoreDelay b s).given = s.given := by
  unfold restartRestoreDelay; split <;> [rfl; (simp only; split_ifs)] <;> simp [modShed_given]

@[simp] theorem shedBankSwitch_given : (shedBankSwitch s).given = s.given := by
  unfold shedBankSwitch; simp only; split <;> simp [foldl_given]

/-! ## Setting Banks -/

@[simp] theorem dispatchBankSwitch_given : (dispatchBankSwitch s).given = s.given := by
  unfold dispatchBankSwitch; simp only; split <;> [rw [startStopTimer_given]; skip] <;> rfl

@[simp] theorem curtailBankSwitch_given : (curtailBankSwitch s).given = s.given := rfl

@[simp] theorem deadBusBankSwitch_given : (deadBusBankSwitch s).given = s.given := by
  unfold deadBusBankSwitch; split <;> [rfl; (simp only; split_ifs <;> rfl)]

@[simp] theorem bankSwitched_given : (bankSwitched s).given = s.given := by simp [bankSwitched]

@[simp] theorem selectBank_given (b : Fin 4) (c : SwitchCause) : (selectBank b c s).given = s.given := by
  unfold selectBank; split_ifs <;> [rfl; (rw [bankSwitched_given, log_given]; rfl)]

/-! ## The Sequencer -/

@[simp] theorem dropBarrier_given : (dropBarrier s).given = s.given := modShed_given _ rfl

@[simp] theorem handRunEnd_given : (handRunEnd s).given = s.given := rfl

@[simp] theorem pushLeftOpen_given (f : Fin 32) : (pushLeftOpen f s).given = s.given := by
  unfold pushLeftOpen
  simp only
  split_ifs <;> [rfl; skip]
  rw [log_given, setStack_given]
  exact modFeeder_given _ _ fun _ => rfl

theorem feeders_given (g : FeederRec → FeederRec) (h : ∀ r, (g r).given = r.given) :
    ({ s with feeders := mapTable g s.feeders } : State).given = s.given := by
  simp [State.given, h]

theorem feedersIndexed_given (g : Fin 32 → FeederRec → FeederRec) (h : ∀ i r, (g i r).given = r.given) :
    ({ s with feeders := mapIndexed g s.feeders } : State).given = s.given := by
  simp [State.given, h]

@[simp] theorem completeRun_given : (completeRun s).given = s.given := by
  unfold completeRun
  simp only [handRunEnd_given, log_given, dropBarrier_given]
  rw [feeders_given _ fun r => by split_ifs <;> rfl, foldl_given _ (by simp), modSeq_given _ ⟨rfl, rfl⟩]

@[simp] theorem abortRun_given (c : AbortCause) : (abortRun c s).given = s.given := by
  unfold abortRun
  simp only [handRunEnd_given, log_given, dropBarrier_given, recompute_given]
  rw [feeders_given _ fun r => by split_ifs <;> rfl, forUnits_given _ (by simp), cancelWhere_given,
    modSeq_given _ ⟨rfl, rfl⟩]

@[simp] theorem closeStep_given (e : StepEnd) : (closeStep e s).given = s.given := by simp [closeStep, modSeq_given]

@[simp] theorem pushRecord_given (c : SuspendCause) : (pushRecord c s).given = s.given := by
  unfold pushRecord; simp only; split_ifs <;> simp [modSeq_given]

@[simp] theorem stepFailed_given : (stepFailed s).given = s.given := by unfold stepFailed; split <;> simp

@[simp] theorem endStep_given (e : StepEnd) : (endStep e s).given = s.given := by
  unfold endStep; simp only; split_ifs <;> simp

@[simp] theorem stepBecomes_given (e : StepEnd) : (stepBecomes e s).given = s.given := by
  unfold stepBecomes
  split
  · rfl
  · split <;> try split
    all_goals simp [modSeq_given]

@[simp] theorem continueStep_given (t : Timer) : (continueStep t s).given = s.given := by
  have held : ∀ st, (s.modSeq fun q => { q with state := st, stepTimeout := t }).given = s.given :=
    fun st => modSeq_given _ ⟨rfl, rfl⟩
  unfold continueStep
  simp only
  split
  · simp [held]
  · split
    · simp [held]
    · split <;> try split
      all_goals simp [held]

@[simp] theorem popRecords_given (n : Nat) : (popRecords n s).given = s.given := by
  induction n generalizing s with
  | zero => rfl
  | succ n ih =>
    unfold popRecords
    split <;> [rfl; skip]
    simp only
    split <;> [skip; split_ifs] <;> simp [ih, modSeq_given]

@[simp] theorem popTop_given : (popTop s).given = s.given := popRecords_given _

@[simp] theorem popProtection_given : (popProtection s).given = s.given := by
  unfold popProtection; split <;> [split_ifs; skip] <;> simp

@[simp] theorem suspendRun_given (c : SuspendCause) : (suspendRun c s).given = s.given := by
  unfold suspendRun; simp only; split_ifs <;> simp

@[simp] theorem submitStep_given (l : List Order) : (submitStep l s).given = s.given := by
  induction l generalizing s with
  | nil => rfl
  | cons o rest ih =>
    unfold submitStep
    split <;> rename_i h <;> simp [ih, modSeq_given, submitRoutine_out_given h]

@[simp] theorem beginOpenFeeders_given : (beginOpenFeeders s).given = s.given := by
  unfold beginOpenFeeders; split <;> simp

@[simp] theorem beginStartGenset_given (n : Nat) : (beginStartGenset n s).given = s.given := by
  unfold beginStartGenset; split <;> [split_ifs; skip] <;> simp

@[simp] theorem skipOwner_given (f : Fin 32) : (skipOwner f s).given = s.given := by simp [skipOwner]

@[simp] theorem beginCloseFeeder_given (n : Nat) : (beginCloseFeeder n s).given = s.given := by
  unfold beginCloseFeeder; split <;> [split_ifs; skip] <;> simp

@[simp] theorem beginWaitTime_given (n : Nat) : (beginWaitTime n s).given = s.given := by
  unfold beginWaitTime; split_ifs <;> simp [modSeq_given]

@[simp] theorem beginReleasePv_given : (beginReleasePv s).given = s.given := by
  unfold beginReleasePv; simp only [stepBecomes_given]; split_ifs <;> simp [modSeq_given]

@[simp] theorem actStep_given (r : StepRec) : (actStep r s).given = s.given := by
  unfold actStep; split <;> first | (split <;> simp) | simp

@[simp] theorem beginStep_given (n : Nat) : (beginStep n s).given = s.given := by
  unfold beginStep
  split
  · rfl
  · split
    · simp [modSeq_given]
    · split <;> simp [modSeq_given]

@[simp] theorem openFeedersTold_given (f : Fin 32) (e : OrderEnd) : (openFeedersTold f e s).given = s.given := by
  unfold openFeedersTold; split_ifs <;> simp

@[simp] theorem closeFeederTold_given (f : Fin 32) (e : OrderEnd) : (closeFeederTold f e s).given = s.given := by
  unfold closeFeederTold; split <;> [skip; split_ifs; split_ifs; skip] <;> simp [modShed_given]

@[simp] theorem seqOrderEnd_given (o : Order) (e : OrderEnd) : (seqOrderEnd o e s).given = s.given := by
  unfold seqOrderEnd
  split
  · rfl
  · split
    · rfl
    · simp only
      split <;> simp [modSeq_given]

@[simp] theorem startAnswer_given (u : Fin 16) (d : Bool) : (startAnswer u d s).given = s.given := by
  unfold startAnswer; split_ifs <;> simp

@[simp] theorem barrierEnd_given (f : Fin 32) : (barrierEnd f s).given = s.given := by unfold barrierEnd; split_ifs <;> simp

@[simp] theorem waitFreqTest_given : (waitFreqTest s).given = s.given := by unfold waitFreqTest; split_ifs <;> simp

@[simp] theorem waitTimeExpires_given : (waitTimeExpires s).given = s.given := by
  unfold waitTimeExpires; split_ifs <;> simp

@[simp] theorem stepTimeoutExpires_given : (stepTimeoutExpires s).given = s.given := by
  unfold stepTimeoutExpires; split_ifs <;> simp

theorem runOwner_given (b : Bool) (r : FeederRec) : (runOwner b r).given = r.given := by
  unfold runOwner; simp only; split_ifs <;> rfl

@[simp] theorem startRun_given (c : RunCause) : (startRun c s).given = s.given := by
  unfold startRun
  simp only [post_given, setStack_given]
  rw [feedersIndexed_given _ fun i r => runOwner_given _ r, log_given, modSeq_given _ ⟨rfl, rfl⟩]

@[simp] theorem declareBlackout_given : (declareBlackout s).given = s.given := by
  unfold declareBlackout; simp only; split_ifs <;> simp [modSeq_given]

@[simp] theorem deadBusTest_given (b : Bool) : (deadBusTest b s).given = s.given := by
  unfold deadBusTest; simp only; split_ifs <;> simp [modSeq_given]

@[simp] theorem deadBusExpires_given : (deadBusExpires s).given = s.given := by unfold deadBusExpires; split_ifs <;> simp

/-! ## Hand-overs -/

@[simp] theorem ownerTold_given (o : Order) (e : OrderEnd) (own : Bool) : (ownerTold o e own s).given = s.given := by
  unfold ownerTold; split <;> simp

@[simp] theorem sampleJobs_given (f : Nat) : (sampleJobs f s).given = s.given := by
  simp [sampleJobs]

@[simp] theorem freqChanged_given : (freqChanged s).given = s.given := by simp [freqChanged]

@[simp] theorem formRocof_given : (formRocof s).given = s.given := rfl

/-- No hand-over changes what `State.given` holds. -/
@[simp] theorem handle_given (h : Handover) : (handle h s).given = s.given := by cases h <;> simp [handle]

end Sys2Proof.Machine
end

