-- ==== Sys2Proof/Laws/Cascade.lean ====
section
/-!
SUPPORT. How a command settles: what every hand-over keeps the whole cascade keeps, and how a short cascade is taken hand-over
by hand-over.
-/

namespace Sys2Proof.Machine

variable {s : State}

/-! ## What every hand-over keeps -/

theorem settleLoop_keeps {P : State → Prop} (hover : ∀ t, P t → P { t with overrun := true })
    (hclear : ∀ t, P t → P { t with handovers := [] }) (hh : ∀ h t, P t → P (handle h t)) :
    ∀ n hs t, P t → P (settleLoop n hs t) := by
  intro n
  induction n with
  | zero =>
    intro hs t ht
    cases hs with
    | nil => exact ht
    | cons => exact hover t ht
  | succ n ih =>
    intro hs t ht
    cases hs with
    | nil => exact ht
    | cons h rest => exact ih _ _ (hclear _ (hh h t ht))

/-- A property that no hand-over breaks holds after a command's cascade if it held before it. -/
theorem settle_keeps {P : State → Prop} (hover : ∀ t, P t → P { t with overrun := true })
    (hclear : ∀ t, P t → P { t with handovers := [] }) (hh : ∀ h t, P t → P (handle h t)) (hs : P s) : P (settle s) :=
  settleLoop_keeps hover hclear hh _ _ _ (hclear _ hs)

/-- A property that neither a command's own event nor any hand-over breaks holds after the command. -/
theorem run_keeps {P : State → Prop} {event : State → State} {t : State} (hover : ∀ t, P t → P { t with overrun := true })
    (hclear : ∀ t, P t → P { t with handovers := [] }) (hh : ∀ h t, P t → P (handle h t))
    (hevent : ∀ t, P t → P (event t)) (hs : P s) (h : run event s = .next t) : P t := by
  cases h
  exact settle_keeps hover hclear hh (hevent _ (hclear _ hs))

@[simp] theorem overrun_given (b : Bool) : ({ s with overrun := b } : State).given = s.given := rfl

@[simp] theorem handovers_given (hs : List Handover) : ({ s with handovers := hs } : State).given = s.given := rfl

/-- The whole cascade of a command leaves what no hand-over changes. -/
@[simp] theorem settle_given : (settle s).given = s.given :=
  settle_keeps (P := fun t => t.given = s.given) (fun _ h => h) (fun _ h => h) (fun h t ht => by rw [handle_given, ht]) rfl

@[simp] theorem settleLoop_handovers (n : Nat) (hs : List Handover) (t : State) (h : t.handovers = []) :
    (settleLoop n hs t).handovers = [] := by
  induction n generalizing hs t with
  | zero => cases hs <;> simpa [settleLoop] using h
  | succ n ih =>
    cases hs with
    | nil => simpa [settleLoop] using h
    | cons x rest => exact ih _ _ rfl

/-- Between commands nothing waits inside the part. -/
@[simp] theorem settle_handovers : (settle s).handovers = [] := settleLoop_handovers _ _ _ rfl

/-! ## Short cascades -/

@[simp] theorem settleLoop_nil (n : Nat) : settleLoop n [] s = s := by cases n <;> rfl

theorem handovers_self (h : s.handovers = []) : ({ s with handovers := [] } : State) = s := by rw [← h]

theorem settle_nil (h : s.handovers = []) : settle s = s := by
  rw [settle, h, settleLoop_nil, handovers_self h]

/-- A hand-over that hands nothing on is taken, and the cascade goes on with the rest. -/
theorem settleLoop_cons {n : Nat} {h : Handover} {rest : List Handover} {t : State} (ht : handle h s = t)
    (hq : t.handovers = []) : settleLoop (n + 1) (h :: rest) s = settleLoop n rest t := by
  simp [settleLoop, ht, hq, handovers_self hq]

theorem cascadeBound_eq : Config.cascadeBound = (2 ^ 64 - 8) + 8 := rfl

/-- A command whose event leaves the given state with nothing handed over. -/
theorem run_next {event : State → State} {t : State} (hs : s.handovers = []) (he : event s = t) (ht : t.handovers = []) :
    run event s = .next t := by
  rw [run, handovers_self hs, he, settle_nil ht]

theorem runWhenUp_next {event : State → State} {t : State} (hp : s.phase = .running) (hs : s.handovers = [])
    (he : event s = t) (ht : t.handovers = []) : runWhenUp event s = .next t :=
  run_next hs (by simp [hp, he]) ht

end Sys2Proof.Machine
end

