-- ==== Sys2Proof/Laws/Ops.lean ====
section
/-!
SUPPORT. When a shared operation does nothing, and what the shared readings answer.
-/

namespace Sys2Proof.Machine

variable {s : State}

/-! ## Operations that find nothing to do -/

theorem recompute_same (h : computeSheet s = s.sheet) : recompute s = s := by
  simp [recompute, h, Sheet.reserveDiffers]

theorem chooseSource_same (h : sourceChoice s = s.freqSource) : chooseSource s = s := by simp [chooseSource, h]

theorem sendTest_none (h : s.orders.queue.find? (eligible s) = none) : sendTest s = s := by
  unfold sendTest
  cases hn : s.orders.queue.length <;> simp [sendLoop, h]

theorem sendTest_empty (h : s.orders.queue = []) : sendTest s = s := sendTest_none (by simp [h])

theorem stopTest_idle (hw : stopWanted s = none) (ht : s.dispatch.stopTimer = none) : stopTest s = s := by
  simp only [stopTest, hw, State.setStopTimer, ← ht]

theorem restoreTest_empty (hs : s.shed.stack = []) (hw : s.dispatch.restoreWait = none) : restoreTest s = s := by
  unfold restoreTest
  split_ifs <;> simp [restoreFinding, Shedding.top, hs, postRestoreWait, ← hw]

theorem cancelWhere_none (p : Order → Bool) (own : Bool) (h : ∀ o ∈ s.orders.queue, p o = false) :
    cancelWhere p own s = s := by
  have none : s.orders.queue.filter p = [] := List.filter_eq_nil_iff.mpr (by simpa using h)
  simp [cancelWhere, none]

theorem withdraw_empty (c : List OrderCause) (t : Target) (k : Option OrderKind) (h : s.orders.queue = []) :
    withdraw c t k s = s := cancelWhere_none _ _ (by simp [h])

/-! ## Octets -/

theorem octet_append_left (a b : Octets) (i : Nat) (h : i < a.length) : octet (a ++ b) i = octet a i := by
  simp [octet, List.getD_eq_getElem?_getD, List.getElem?_append_left h]

theorem octet_append_right (a b : Octets) (i : Nat) : octet (a ++ b) (a.length + i) = octet b i := by
  simp [octet, List.getD_eq_getElem?_getD, List.getElem?_append_right]

@[simp] theorem put8_length (n : Nat) : (put8 n).length = 1 := rfl
@[simp] theorem put16_length (n : Nat) : (put16 n).length = 2 := rfl
@[simp] theorem put32_length (n : Nat) : (put32 n).length = 4 := rfl
@[simp] theorem putZeros_length (n : Nat) : (putZeros n).length = n := by simp [putZeros]

/-- R195: a field of two octets is read as it was put. -/
theorem read16_put16 (n : Nat) (rest : Octets) (h : n < 65536) : read16 (put16 n ++ rest) 0 = n := by
  simp only [read16, read8, octet, put16, List.cons_append, List.nil_append, List.getD_cons_zero, List.getD_cons_succ,
    BitVec.toNat_ofNat]
  omega

/-! ## Sequences and clamps -/

/-- R2: a sequence is not newer than itself, and never both of two are newer than the other. -/
theorem newer_irrefl (a : TelSeq) : newer a a = false := by simp [newer]

theorem clamp_mem (lo hi x : Int) (h : lo ≤ hi) : lo ≤ clamp lo hi x ∧ clamp lo hi x ≤ hi := by
  unfold clamp; omega

end Sys2Proof.Machine
end

