-- ==== Sys2Proof/Laws/Balance.lean ====
section
/-!
SUPPORT. When the Balance Sheet and the frequency source stay as they are: a genset that moves within the set it counts in, and
a reference that gives the frequency whatever the gensets do.
-/

namespace Sys2Proof.Machine

variable {s : State}

theorem sumOver_eq {α : Type} (l : List α) (counts : α → Bool) (q : α → Int) :
    sumOver l counts q = (l.map fun x => if counts x then q x else 0).sum := by
  induction l with
  | nil => rfl
  | cons x rest ih =>
    simp only [sumOver] at ih ⊢
    by_cases h : counts x <;> simp [h, ih]

/-- Replacing one record by another that counts for the same leaves a sum. -/
theorem sumOver_set {α : Type} {n : Nat} (v : Vector α n) (i : Fin n) (x : α) (counts : α → Bool) (q : α → Int)
    (h : (if counts x then q x else 0) = if counts v[i] then q v[i] else 0) :
    sumOver (v.set i x).toList counts q = sumOver v.toList counts q := by
  rw [sumOver_eq, sumOver_eq, Vector.toList_set, List.map_set, h]
  congr 1
  conv_rhs => rw [← List.set_getElem_self (as := v.toList.map fun x => if counts x then q x else 0) (i := i.val)
    (by simp)]
  simp

/-- R25: a genset that moves within the set it counts in leaves the sheet as it is. -/
theorem computeSheet_modGenset (u : Fin 16) (f : GensetControl → GensetControl)
    (ho : ({ s.units[u] with genset := f s.units[u].genset } : UnitRec).inOnlineSet = (s.units[u]).inOnlineSet)
    (hs : ({ s.units[u] with genset := f s.units[u].genset } : UnitRec).inStartingSet = (s.units[u]).inStartingSet) :
    computeSheet (s.modGenset u f) = computeSheet s := by
  have set : ∀ (counts : UnitRec → Bool) (q : UnitRec → Int),
      counts { s.units[u] with genset := f s.units[u].genset } = counts s.units[u] →
      q { s.units[u] with genset := f s.units[u].genset } = q s.units[u] →
      sumOver (s.modGenset u f).units.toList counts q = sumOver s.units.toList counts q := by
    intro counts q hc hq
    exact sumOver_set _ _ _ _ _ (by rw [hc, hq])
  simp only [computeSheet, State.bank]
  rw [set _ _ ho rfl, set _ _ ho rfl, set _ _ ho rfl, set _ _ rfl rfl, set _ _ rfl rfl, set _ _ rfl rfl, set _ _ rfl rfl,
    set _ _ hs rfl]
  rfl

/-- R29: a recomputation finds nothing new where the sheet stands. -/
theorem recompute_modGenset (u : Fin 16) (f : GensetControl → GensetControl) (h : SheetKept s)
    (ho : ({ s.units[u] with genset := f s.units[u].genset } : UnitRec).inOnlineSet = (s.units[u]).inOnlineSet)
    (hs : ({ s.units[u] with genset := f s.units[u].genset } : UnitRec).inStartingSet = (s.units[u]).inStartingSet) :
    recompute (s.modGenset u f) = s.modGenset u f :=
  recompute_same (by rw [computeSheet_modGenset u f ho hs]; exact h.symm)

/-- R18: while a reference qualifies, the gensets do not matter to the choice. -/
theorem sourceChoice_of_reference {t : State} {i : Fin 64} (h : sourceChoice s = .reference i) (ht : t.sources = s.sources) :
    sourceChoice t = .reference i := by
  have refs : t.references = s.references := by simp [State.references, ht]
  unfold sourceChoice at h ⊢
  rw [refs, ht]
  revert h
  cases (s.references.take 2).find? fun i => s.sources[i].qualifies with
  | some j => exact id
  | none =>
    intro h
    cases hg : (List.finRange 16).find? s.gensetQualifies <;> simp [hg] at h

end Sys2Proof.Machine
end

