-- ==== Sys2Proof/Laws/Diesel.lean ====
section
/-!
SUPPORT. When Dispatch finds nothing to stop, and how an order that has to wait is submitted.
-/

namespace Sys2Proof.Machine

variable {s : State}

/-- R96: with no genset ONLINE there is no stop candidate. -/
theorem stopWanted_none_of_offline (h : ∀ u : Fin 16, s.inState u .online = false) : stopWanted s = none := by
  have online : s.onlineUnits = [] := by simp [State.onlineUnits, h]
  simp [stopWanted, stopCandidate, online]

/-- R97: no genset is wanted to stop while one is starting, unloading or opening. -/
theorem stopWanted_none_of_busy (u : Fin 16) (h : (s.units[u]).inStartingSet = true ∨
    ((s.units[u]).kind = .genset ∧ ((s.units[u]).genset.state = .unloading ∨ (s.units[u]).genset.state = .opening))) :
    stopWanted s = none := by
  have busy : (s.units.toList.any fun r =>
      r.inStartingSet || (r.kind = .genset && (r.genset.state = .unloading || r.genset.state = .opening))) = true := by
    rw [List.any_eq_true]
    refine ⟨s.units[u], by simp, ?_⟩
    rcases h with h | ⟨hk, h | h⟩ <;> simp_all
  unfold stopWanted
  simp only [busy, Bool.true_or, if_true]
  split <;> rfl

/-- A stop test that finds no genset to stop leaves the stop timer idle. -/
theorem stopTest_none (h : stopWanted s = none) : stopTest s = s.setStopTimer none := by simp [stopTest, h]

theorem setStopTimer_self (h : s.dispatch.stopTimer = none) : s.setStopTimer none = s := by
  simp only [State.setStopTimer, ← h]

/-- R172: a start taken from COOLDOWN made no crank. -/
@[simp] theorem crankAttempts_of_cooldown {g : GensetControl} (h : g.fromCooldown = true) : g.crankAttempts = 0 := by
  simp [GensetControl.crankAttempts, h]

/-- R172: the attempts of any other start are those of the attempt count. -/
@[simp] theorem crankAttempts_of_stopped {g : GensetControl} (h : g.fromCooldown = false) : g.crankAttempts = g.attempts := by
  simp [GensetControl.crankAttempts, h]

/-- R57, R60: a ROUTINE order that finds the queue empty and its device not free joins the queue and is counted. -/
theorem submitRoutine_waits {o : Order} (hq : s.orders.queue = []) (hc : s.cycleOf o.target ≠ none ∨ s.holdOffOf o.target ≠ none)
    (hh : s.orders.queueHigh = false) (ho : s.settings.queueOffset ≤ 30) :
    submitRoutine o s = ({ s with orders := { s.orders with
      queue := [{ o with cls := .routine, device := s.targetDevice o.target }]
      counters := { s.orders.counters with accepted := s.orders.counters.accepted + 1 } } }, .taken) := by
  have low : queueHighAt s.settings.queueOffset 1 = false := by simp [queueHighAt, Config.queueSize]; omega
  have set : setQueue [{ o with cls := .routine, device := s.targetDevice o.target }] s =
      { s with orders := { s.orders with queue := [{ o with cls := .routine, device := s.targetDevice o.target }] } } := by
    simp [setQueue, testQueueHigh, low, State.modOrders, hh]
  have waits : ∀ t : State, t.units = s.units → t.feeders = s.feeders →
      eligible t { o with cls := .routine, device := s.targetDevice o.target } = false := by
    intro t hu hf
    have hc' : t.cycleOf o.target ≠ none ∨ t.holdOffOf o.target ≠ none := by
      cases ht : o.target <;> simpa [State.cycleOf, State.holdOffOf, ht, hu, hf] using hc
    rcases hc' with h | h
    · cases ht : t.cycleOf o.target <;> simp_all [eligible]
    · cases ht : t.holdOffOf o.target <;> simp_all [eligible]
  simp only [submitRoutine, hq, List.find?_nil, List.length_nil, Config.queueSize, Nat.zero_lt_succ, if_true, List.nil_append]
  rw [set]
  simp only [countAccepted, State.modOrders]
  rw [sendTest_none]
  rw [List.find?_cons_of_neg (by rw [Bool.not_eq_true]; exact waits _ rfl rfl)]
  rfl

end Sys2Proof.Machine
end

