-- ==== Sys2Proof/Laws/Alone.lean ====
section
/-!
SUPPORT. An order that stands alone: how the only order of the queue is sent, and all that a submission to an empty queue does, in
the words of Safety.lean.
-/

namespace Sys2Proof.Machine

variable {s : State} {o : Order}

/-- R60: an occupancy below the offset leaves QUEUE_HIGH clear. -/
theorem setQueue_low {q : List Order} (hh : s.orders.queueHigh = false) (hq : s.settings.queueOffset + q.length < 32) :
    setQueue q s = { s with orders := { s.orders with queue := q } } := by
  have low : queueHighAt s.settings.queueOffset q.length = false := by simp [queueHighAt, Config.queueSize]; omega
  simp [setQueue, testQueueHigh, low, State.modOrders, hh]

/-- R62 to R64: a send test that finds one order, eligible, with none out and no INHIBIT, sends it. -/
theorem sendTest_alone (hq : s.orders.queue = [o]) (he : eligible s o = true) (ht : s.orders.tracker = [])
    (hi : s.targetInhibit o.target = false) (hh : s.orders.queueHigh = false) (ho : s.settings.queueOffset ≤ 31) :
    sendTest s = s.sendsAlone o := by
  have free : s.slotOf o.target = none := by simp [State.slotOf, ht]
  have found : s.orders.queue.find? (eligible s) = some o := by simp [hq, he]
  have low := setQueue_low (s := s) (q := []) hh (by simp; omega)
  simp only [sendTest, hq, List.length_cons, List.length_nil, sendLoop]
  rw [← hq, found]
  simp only [sendOne, free, hq, List.erase_cons_head, low]
  simp only [ht, List.map_nil, List.length_nil, List.nil_append, nextFreeTag, tagAfter, State.modOrders, State.sendsAlone,
    State.profileOf, Profile.effectiveCycle]
  rw [if_neg]
  cases h : o.target <;> simp_all [State.targetInhibit, State.setCycle] <;> exact fun _ => hi

/-- R61: an order whose target is free of timers and slots is eligible while no order is out. -/
theorem eligible_alone (hc : o.cls = .routine) (ht : s.orders.tracker = []) (hy : s.cycleOf o.target = none)
    (hf : s.holdOffOf o.target = none) (ha : closeAllowed s o = true) : eligible s o = true := by
  simp [eligible, hc, ht, hy, hf, ha, State.slotOf, Config.trackerSize, Config.trackerRoutine]

/-- R57, R61, R62: all that the submission of a ROUTINE order to an empty queue does. -/
theorem submitRoutine_alone (h : TakesAlone s o.target) (ha : closeAllowed s o = true) :
    submitRoutine o s = (s.submitsAlone { o with cls := .routine, device := s.targetDevice o.target }, .taken) := by
  obtain ⟨hq, hh, ho, hw⟩ := h
  by_cases waits : s.cycleOf o.target ≠ none ∨ s.holdOffOf o.target ≠ none
  · rw [submitRoutine_waits hq waits hh ho]
    simp only [State.submitsAlone, if_pos waits, State.queuesAlone]
  · have hy : s.cycleOf o.target = none := by simp_all
    have hf : s.holdOffOf o.target = none := by simp_all
    obtain ⟨ht, hi⟩ : s.orders.tracker = [] ∧ s.targetInhibit o.target = false := by simp_all
    simp only [State.submitsAlone, if_neg waits]
    simp only [submitRoutine, hq, List.find?_nil, List.length_nil, Config.queueSize, Nat.zero_lt_succ, if_true, List.nil_append]
    rw [setQueue_low hh (by simp; omega)]
    rw [show ∀ t : State, t = s.queuesAlone { o with cls := .routine, device := s.targetDevice o.target } →
      sendTest t = t.sendsAlone { o with cls := .routine, device := s.targetDevice o.target } from ?_]
    · rfl
    · rfl
    · rintro t rfl
      exact sendTest_alone rfl (eligible_alone rfl ht hy hf ha) ht hi hh (by exact Nat.le_succ_of_le ho)

/-- R58, R62: a PROTECTIVE order submitted with no order waiting or out, to a device that shows no INHIBIT, is sent. -/
theorem submitProtective_alone (hq : s.orders.queue = []) (ht : s.orders.tracker = []) (hi : s.targetInhibit o.target = false)
    (hh : s.orders.queueHigh = false) (ho : s.settings.queueOffset ≤ 30) :
    let new : Order := { o with cls := .protective, device := s.targetDevice o.target }
    submitProtective o s = (s.queuesAlone new).sendsAlone new := by
  intro new
  have room : dropLast (cancelWhere (fun q => q.cls = .routine && q.target = o.target) false s) = s := by
    simp [cancelWhere, dropLast, hq, Config.queueSize]
  simp only [submitProtective, hq, List.find?_nil, room, List.filter_nil, List.nil_append, List.append_nil]
  rw [setQueue_low hh (by simp; omega)]
  have sends : sendTest (s.queuesAlone new) = (s.queuesAlone new).sendsAlone new :=
    sendTest_alone rfl (by simp [eligible, new, State.queuesAlone, ht, State.slotOf, Config.trackerSize]) ht hi hh
      (Nat.le_succ_of_le ho)
  exact sends

end Sys2Proof.Machine
end

