-- ==== Sys2Proof/Laws/PerInstr.lean ====
section
/-!
SUPPORT. What holds of every command as syntax, one lemma per constructor: no command is both the arrival of a frame and the
expiry of a timer, and a well-formed command that takes a telegram in carries a well-formed telegram (R181).
-/

namespace Sys2Proof.Laws

open Machine

/-- The row takes a telegram in or passes it on as one; the others take the frame whatever it holds. -/
def carriesTelegram : Instr → Bool
  | .forwardFrame _ _ | .removeOwnTelegram _ _ | .malformedTelegram _ _ => false
  | i => i.arrival.isSome

theorem telegram_parses {f : Frame} {test : Telegram → Bool} (h : f.telegram test = true) :
    (parseTelegram f.payload).isSome = true := by
  unfold Frame.telegram at h
  cases hp : parseTelegram f.payload with
  | none => simp [hp] at h
  | some t => rfl

namespace Coding

/-- No command is both an arrival and an expiry, and a well-formed one that carries a telegram carries a well-formed one. -/
def Statement (i : Instr) : Prop :=
  (i.expiry = true → i.arrival = none) ∧
    (carriesTelegram i = true → i.wellFormed = true → ∀ p f, i.arrival = some (p, f) → (parseTelegram f.payload).isSome = true)

theorem of_no_frame {i : Instr} (h : i.arrival = none) : Statement i :=
  ⟨fun _ => h, fun _ _ p f e => by simp [h] at e⟩

theorem of_frame {i : Instr} (he : i.expiry = false) (hc : carriesTelegram i = false) : Statement i :=
  ⟨fun h => by simp [he] at h, fun h => by simp [hc] at h⟩

theorem of_telegram {i : Instr} {p : Port} {f : Frame} (he : i.expiry = false) (ha : i.arrival = some (p, f))
    (hw : i.wellFormed = true → (parseTelegram f.payload).isSome = true) : Statement i :=
  ⟨fun h => by simp [he] at h, fun _ w q g e => by
    rw [ha] at e
    cases e
    exact hw w⟩

theorem coldResetAssert : Statement (.coldResetAssert) := of_no_frame rfl
theorem coldResetRelease (fsel : Bool) (sid : BitVec 4) : Statement (.coldResetRelease fsel sid) := of_no_frame rfl
theorem warmResetPinAssert : Statement (.warmResetPinAssert) := of_no_frame rfl
theorem warmResetPinRelease : Statement (.warmResetPinRelease) := of_no_frame rfl
theorem linkStatusRead (upA upB : Bool) : Statement (.linkStatusRead upA upB) := of_no_frame rfl
theorem badFcsFrame (port : Port) (frame : Frame) : Statement (.badFcsFrame port frame) := of_no_frame rfl
theorem forwardFrame (port : Port) (frame : Frame) : Statement (.forwardFrame port frame) := of_frame rfl rfl
theorem frameTransmit (port : Port) : Statement (.frameTransmit port) := of_no_frame rfl
theorem removeOwnTelegram (port : Port) (frame : Frame) : Statement (.removeOwnTelegram port frame) := of_frame rfl rfl
theorem malformedTelegram (port : Port) (frame : Frame) : Statement (.malformedTelegram port frame) := of_frame rfl rfl
theorem forwardTelegram (port : Port) (frame : Frame) : Statement (.forwardTelegram port frame) := of_telegram rfl rfl id
theorem sampleReport (port : Port) (frame : Frame) : Statement (.sampleReport port frame) := of_telegram rfl rfl telegram_parses
theorem positionReport (port : Port) (frame : Frame) : Statement (.positionReport port frame) := of_telegram rfl rfl telegram_parses
theorem setpointOrder (port : Port) (frame : Frame) : Statement (.setpointOrder port frame) := of_telegram rfl rfl telegram_parses
theorem readEntry (port : Port) (frame : Frame) : Statement (.readEntry port frame) := of_telegram rfl rfl telegram_parses
theorem writeEntrySource (port : Port) (frame : Frame) : Statement (.writeEntrySource port frame) := of_telegram rfl rfl telegram_parses
theorem writeEntryUnit (port : Port) (frame : Frame) : Statement (.writeEntryUnit port frame) := of_telegram rfl rfl telegram_parses
theorem writeEntryFeeder (port : Port) (frame : Frame) : Statement (.writeEntryFeeder port frame) := of_telegram rfl rfl telegram_parses
theorem writeEntryProfile (port : Port) (frame : Frame) : Statement (.writeEntryProfile port frame) := of_telegram rfl rfl telegram_parses
theorem writeEntryShed (port : Port) (frame : Frame) : Statement (.writeEntryShed port frame) := of_telegram rfl rfl telegram_parses
theorem writeEntryProgram (port : Port) (frame : Frame) : Statement (.writeEntryProgram port frame) := of_telegram rfl rfl telegram_parses
theorem writeEntryBank (port : Port) (frame : Frame) : Statement (.writeEntryBank port frame) := of_telegram rfl rfl telegram_parses
theorem writeEntrySettings (port : Port) (frame : Frame) : Statement (.writeEntrySettings port frame) := of_telegram rfl rfl telegram_parses
theorem writeEntryManagers (port : Port) (frame : Frame) : Statement (.writeEntryManagers port frame) := of_telegram rfl rfl telegram_parses
theorem readSheet (port : Port) (frame : Frame) : Statement (.readSheet port frame) := of_telegram rfl rfl telegram_parses
theorem readEvents (port : Port) (frame : Frame) : Statement (.readEvents port frame) := of_telegram rfl rfl telegram_parses
theorem rewindEvents (port : Port) (frame : Frame) : Statement (.rewindEvents port frame) := of_telegram rfl rfl telegram_parses
theorem selectBank (port : Port) (frame : Frame) : Statement (.selectBank port frame) := of_telegram rfl rfl telegram_parses
theorem setMode (port : Port) (frame : Frame) : Statement (.setMode port frame) := of_telegram rfl rfl telegram_parses
theorem operate (port : Port) (frame : Frame) : Statement (.operate port frame) := of_telegram rfl rfl telegram_parses
theorem operateCrank (port : Port) (frame : Frame) : Statement (.operateCrank port frame) := of_telegram rfl rfl telegram_parses
theorem clearLockout (port : Port) (frame : Frame) : Statement (.clearLockout port frame) := of_telegram rfl rfl telegram_parses
theorem arm (port : Port) (frame : Frame) : Statement (.arm port frame) := of_telegram rfl rfl telegram_parses
theorem disarm (port : Port) (frame : Frame) : Statement (.disarm port frame) := of_telegram rfl rfl telegram_parses
theorem beginRestore (port : Port) (frame : Frame) : Statement (.beginRestore port frame) := of_telegram rfl rfl telegram_parses
theorem hold (port : Port) (frame : Frame) : Statement (.hold port frame) := of_telegram rfl rfl telegram_parses
theorem resume (port : Port) (frame : Frame) : Statement (.resume port frame) := of_telegram rfl rfl telegram_parses
theorem warmReset (port : Port) (frame : Frame) : Statement (.warmReset port frame) := of_telegram rfl rfl telegram_parses
theorem unknownRequest (port : Port) (frame : Frame) : Statement (.unknownRequest port frame) := of_telegram rfl rfl telegram_parses
theorem staleTimerExpiry (entry : Fin 64) : Statement (.staleTimerExpiry entry) := of_no_frame rfl
theorem deadlineExpiry (tag : Octet) : Statement (.deadlineExpiry tag) := of_no_frame rfl
theorem inhibitTimerExpiry (tag : Octet) : Statement (.inhibitTimerExpiry tag) := of_no_frame rfl
theorem cycleTimerExpiry (target : Target) : Statement (.cycleTimerExpiry target) := of_no_frame rfl
theorem holdOffExpiry (target : Target) : Statement (.holdOffExpiry target) := of_no_frame rfl
theorem dispatchTimerExpiry : Statement (.dispatchTimerExpiry) := of_no_frame rfl
theorem airHoldOffExpiry : Statement (.airHoldOffExpiry) := of_no_frame rfl
theorem crankRestExpiry (unit : Fin 16) : Statement (.crankRestExpiry unit) := of_no_frame rfl
theorem warmUpExpiry (unit : Fin 16) : Statement (.warmUpExpiry unit) := of_no_frame rfl
theorem stopTimerExpiry : Statement (.stopTimerExpiry) := of_no_frame rfl
theorem cooldownExpiry (unit : Fin 16) : Statement (.cooldownExpiry unit) := of_no_frame rfl
theorem curtailTimerExpiry : Statement (.curtailTimerExpiry) := of_no_frame rfl
theorem mirrorExpiry (unit : Fin 16) : Statement (.mirrorExpiry unit) := of_no_frame rfl
theorem stageTimerExpiry (stage : Fin 8) : Statement (.stageTimerExpiry stage) := of_no_frame rfl
theorem restoreDelayExpiry : Statement (.restoreDelayExpiry) := of_no_frame rfl
theorem stepIntervalExpiry : Statement (.stepIntervalExpiry) := of_no_frame rfl
theorem deadBusTimerExpiry : Statement (.deadBusTimerExpiry) := of_no_frame rfl
theorem waitTimeExpiry : Statement (.waitTimeExpiry) := of_no_frame rfl
theorem stepTimeoutExpiry : Statement (.stepTimeoutExpiry) := of_no_frame rfl
theorem beaconTimerExpiry : Statement (.beaconTimerExpiry) := of_no_frame rfl
theorem retiredIdentityExpiry : Statement (.retiredIdentityExpiry) := of_no_frame rfl

end Coding

end Sys2Proof.Laws
end

