-- ==== Sys2Proof/Laws/Requests.lean ====
section
/-!
SUPPORT. How a frame reaches the Management Agent and how a request is answered: what provers cite in place of unfolding the
reception of a frame.
-/

namespace Sys2Proof.Machine

variable {s s1 s2 : State} {p : Port} {f : Frame} {t : Telegram}

/-- Every command that is the arrival of a frame hands it to `receive` (log 6). -/
theorem exec_arrival {c : Instr} (h : c.arrival = some (p, f)) : exec c s = run (receive p f) s := by
  cases c <;> simp [Instr.arrival] at h <;> obtain ⟨rfl, rfl⟩ := h <;> rfl

/-- A well-formed telegram that arrives is passed on and taken in. -/
theorem receive_arrives (h : Arrives s p f t) : receive p f s = takeIn t (passedOn p f t s) := by
  obtain ⟨⟨hp, -⟩, hl, hr, he, ht⟩ := h
  simp [receive, hp, hl, hr, he, ht, passedOn]

/-- A Management Request addressed to the part reaches the Management Agent and is not forwarded. -/
theorem receive_request (h : Arrives s p f t) (hk : t.kind = kindRequest) (hd : t.dest = s.ownId) :
    receive p f s = takeRequest (requestOf t) s := by
  rw [receive_arrives h]
  simp [passedOn, hd, takeIn, hk, kindSampleReport, kindPositionReport, kindSetpointOrder, kindRequest]

@[simp] theorem formTelegram_handovers (k : Nat) (d : StationId) (b : Octets) :
    (formTelegram k d b s).handovers = s.handovers := rfl

@[simp] theorem answered_handovers (st : Status) (c : Octets) : (answered t st c s).handovers = s.handovers := rfl

@[simp] theorem answered_given (st : Status) (c : Octets) : (answered t st c s).given = s.given := formTelegram_given _ _ _

/-- Admission changes the Manager List or the open record, and nothing else. -/
theorem admitRequest_frame {r : Request} (h : admitRequest r s = some s1) :
    s1 = { s with managers := s1.managers, openRecord := s1.openRecord } := by
  unfold admitRequest at h
  repeat' split at h
  all_goals first | cases h; rfl | cases h

/-- What serving a request of a known kind is. -/
def serveBy (k : RequestKind) (r : Request) (s : State) : Answer :=
  match k with
  | .readEntry => serveReadEntry r s
  | .writeEntry => serveWriteEntry r s
  | .readSheet => serveReadSheet s
  | .readEvents => serveReadEvents r s
  | .rewindEvents => serveRewindEvents s
  | .selectBank => serveSelectBank r s
  | .setMode => serveSetMode r s
  | .operate => serveOperate r s
  | .clearLockout => serveClearLockout r s
  | .arm => serveArm true s
  | .disarm => serveArm false s
  | .beginRestore => serveBeginRestore s
  | .hold => serveHold s
  | .resume => serveResume s
  | .warmReset => { accept s with after := .warmReset }

theorem serve_kind {r : Request} {k : RequestKind} (h : ofCodeFromOne requestKindsFromOne r.kind = some k) :
    serve r s = serveBy k r s := by
  unfold serve
  rw [h]
  cases k <;> rfl

/-- A request that is admitted is served, its effects settle, and the response is formed; what follows it then settles. -/
theorem run_request {k : RequestKind} (h : Requested s p f t k s1) :
    run (receive p f) s = .next (settle (takeAfter (serveBy k (requestOf t) s1).after t.sender
      (answered t (serveBy k (requestOf t) s1).status (serveBy k (requestOf t) s1).content
        (settle (serveBy k (requestOf t) s1).state)))) := by
  obtain ⟨ha, hk, hd, hadm, hq⟩ := h
  rw [run, handovers_self ha.1.2, receive_request ha hk hd]
  simp only [takeRequest, hadm, serve_kind hq, answered]
  rfl

/-- The outcome of a request that nothing follows, once its effects are known. -/
theorem run_request_next {k : RequestKind} (h : Requested s p f t k s1) {a : Answer}
    (hs : serveBy k (requestOf t) s1 = a) (haft : a.after = .nothing) (h3 : settle a.state = s2) :
    run (receive p f) s = .next (answered t a.status a.content s2) := by
  rw [run_request h, hs, haft, h3]
  simp only [takeAfter]
  rw [settle_nil]
  rw [answered_handovers, ← h3, settle_handovers]

/-- The state with the request's sequence recorded is the one before it, but for the Manager List and the open record. -/
theorem requested_same {k : RequestKind} (h : Requested s p f t k s1) :
    s.phase = s1.phase ∧ s.fsel = s1.fsel ∧ s.sid = s1.sid ∧ s.partTime = s1.partTime ∧ s.portA = s1.portA ∧ s.portB =
    s1.portB ∧ s.settings = s1.settings ∧ s.retired = s1.retired ∧ s.telSeq = s1.telSeq ∧ s.beaconTimer =
    s1.beaconTimer ∧ s.sources = s1.sources ∧ s.freqSource = s1.freqSource ∧ s.history = s1.history ∧ s.units =
    s1.units ∧ s.feeders = s1.feeders ∧ s.sheet = s1.sheet ∧ s.banks = s1.banks ∧ s.activeBank = s1.activeBank ∧
    s.profiles = s1.profiles ∧ s.orders = s1.orders ∧ s.dispatch = s1.dispatch ∧ s.arbiter = s1.arbiter ∧
    s.curtailTimer = s1.curtailTimer ∧ s.shed = s1.shed ∧ s.seq = s1.seq ∧ s.record = s1.record ∧ s.pending =
    s1.pending ∧ s.handovers = s1.handovers ∧ s.overrun = s1.overrun := by
  rw [admitRequest_frame h.2.2.2.1]
  simp

theorem requested_handovers {k : RequestKind} (h : Requested s p f t k s1) : s1.handovers = [] := by
  rw [admitRequest_frame h.2.2.2.1]
  exact h.1.1.2

/-- The outcome of a request whose effects hand nothing on. -/
theorem run_request_plain {k : RequestKind} (h : Requested s p f t k s1) {st : Status} {c : Octets}
    (hs : serveBy k (requestOf t) s1 = { state := s2, status := st, content := c }) (hq : s2.handovers = s1.handovers) :
    run (receive p f) s = .next (answered t st c s2) :=
  run_request_next (a := ⟨s2, st, c, .nothing⟩) h hs rfl (settle_nil (s := s2) (hq.trans (requested_handovers h)))

end Sys2Proof.Machine
end

