-- ==== Sys2Proof/Tests/Slice0.lean ====
section
/-!
SUPPORT. Tests: what WellFormed refuses, values the manual tables, single commands on small states, and for every statement of
Certificates/Slice0/Obligations.lean that has hypotheses a concrete state that meets them, one for each of its clauses.
-/

namespace Sys2Proof.Tests

set_option Elab.async false

open Machine

/-! ## Builders -/

/-- Both ports UP, everything else as after reset. -/
def linked : State := { State.reset with portA := { link := true, linkPin := true }, portB := { link := true, linkPin := true } }

/-- A telegram under sequence 1. -/
def telegram (kind : Nat) (sender dest : StationId) (body : Octets) : Telegram := ⟨kind, sender, dest, 1, body⟩

/-- The frame that carries a telegram. -/
def frameOf (t : Telegram) : Frame := ⟨broadcast, 0, 0x9A1C, telegramOctets t.kind t.sender t.dest t.seq t.body⟩

/-- A request of the manager 0x0450 to the part. -/
def ask (kind table index count : Nat) (content : Octets) : Telegram :=
  telegram kindRequest 0x0450 0x7F00 (put8 kind ++ put8 table ++ put8 index ++ put8 count ++ content)

/-- A Sample Report for all stations. -/
def sampleReport (sender : StationId) (quality : Nat) (items : List (Nat × Int)) : Telegram :=
  telegram kindSampleReport sender 0xFFFF
    (put32 0 ++ put8 quality ++ put8 items.length ++ putZeros 2 ++ items.flatMap fun x => put8 x.1 ++ putZeros 1 ++ putSigned x.2)

/-- A Position Report for all stations. -/
def positionReport (sender : StationId) (tag breaker engine flags : Nat) : Telegram :=
  telegram kindPositionReport sender 0xFFFF (put8 tag ++ put8 breaker ++ put8 engine ++ put8 flags)

/-- A Setpoint Order. -/
def setpoint (sender dest : StationId) (value : Int) : Telegram := telegram kindSetpointOrder sender dest (putSigned value)

/-- The state once the request of `ask` is admitted from an empty Manager List. -/
def admitted (s : State) : State := { s with openRecord := some ⟨0x0450, 1⟩ }

/-- A state that the telegrams above reach: the part runs, port A is UP, its identity and the Manager List are as after
reset. -/
abbrev Reached (s : State) : Prop :=
  s.phase = .running ∧ s.handovers = [] ∧ s.portA.link = true ∧ s.retired = none ∧
    (s.settings.ownId = 0 ∧ s.settings.etherType = 0x9A1C) ∧ s.sid = 0 ∧
    s.managers = Vector.replicate 4 {} ∧ s.openRecord = none

/-- The telegram is well formed and another station's. -/
abbrev Good (t : Telegram) : Prop :=
  parseTelegram (frameOf t).payload = some t ∧ senderOf (frameOf t).payload = some t.sender ∧ t.sender ≠ 0x7F00

/-- A well-formed telegram of another station arrives. -/
theorem arrived {s : State} {t : Telegram} (h : Reached s) (g : Good t) : Arrives s .a (frameOf t) t := by
  obtain ⟨hrun, hquiet, hlink, hret, hset, hsid, -⟩ := h
  have own : s.ownId = 0x7F00 := by simp [State.ownId, hset.1, hsid, Config.strapIdBase]
  refine ⟨⟨hrun, hquiet⟩, hlink, ?_, by rw [hset.2]; rfl, g.1⟩
  simp [removed, g.2.1, hret, own]
  exact fun _ => g.2.2

/-- The request is well formed and of this kind. -/
abbrev Asks (kind table index count : Nat) (content : Octets) (k : RequestKind) : Prop :=
  Good (ask kind table index count content) ∧
    ofCodeFromOne requestKindsFromOne (requestOf (ask kind table index count content)).kind = some k

/-- The request of `ask` has been made in this state. -/
abbrev Made (s : State) (kind table index count : Nat) (content : Octets) (k : RequestKind) : Prop :=
  Requested s .a (frameOf (ask kind table index count content)) (ask kind table index count content) k (admitted s)

/-- A request of `ask` that is well formed reaches the Management Agent. -/
theorem asked {s : State} {kind table index count : Nat} {content : Octets} {k : RequestKind} (h : Reached s)
    (g : Asks kind table index count content k) : Made s kind table index count content k := by
  have here := arrived h g.1
  obtain ⟨-, -, -, -, hset, hsid, hman, hopen⟩ := h
  have own : s.ownId = 0x7F00 := by simp [State.ownId, hset.1, hsid, Config.strapIdBase]
  have empty : managersEmpty s = true := by rw [managersEmpty, hman]; decide
  refine ⟨here, rfl, own.symm, ?_, g.2⟩
  simp [admitRequest, empty, hopen]; rfl

/-! ## What WellFormed refuses -/

/-- Ill-formed commands, one for each check: a frame too short for a sender, a telegram taken for a malformed one, a malformed
one taken for a telegram, a telegram of another kind, a request of another kind or table, an order code taken for another, a
known request kind taken for an unknown one, and the tag that is never given. -/
def illFormed : List Instr :=
  [.removeOwnTelegram .a ⟨0, 0, 0, [0, 0, 0]⟩, .malformedTelegram .a (frameOf (ask 3 0 0 0 [])), .forwardTelegram .a ⟨0, 0, 0, []⟩,
   .sampleReport .a (frameOf (positionReport 0x0301 0 0 0 0)), .positionReport .a (frameOf (sampleReport 0x0501 0 [(1, 5)])),
   .setpointOrder .a (frameOf (ask 3 0 0 0 [])), .readEntry .a (frameOf (ask 2 1 0 0 [])), .arm .a (frameOf (ask 11 0 0 0 [])),
   .writeEntrySource .a (frameOf (ask 2 2 0 0 [])), .writeEntryUnit .a (frameOf (ask 1 2 0 0 [])),
   .operate .a (frameOf (ask 8 2 0 0 (put8 2 ++ putZeros 7))), .operateCrank .a (frameOf (ask 8 2 0 0 (putZeros 8))),
   .unknownRequest .a (frameOf (ask 15 0 0 0 [])), .deadlineExpiry 0, .inhibitTimerExpiry 0]

theorem test_ill_formed_commands_are_refused : (illFormed.all fun c => !c.wellFormed) = true := by decide +kernel

theorem test_well_formed_commands_are_taken :
    ([.removeOwnTelegram .a ⟨0, 0, 0, [0, 0, 0, 0]⟩, .malformedTelegram .a ⟨0, 0, 0, []⟩, .forwardTelegram .a (frameOf (ask 3 0 0 0 [])),
      .sampleReport .a (frameOf (sampleReport 0x0501 0 [(1, 5)])), .positionReport .a (frameOf (positionReport 0x0301 0 0 0 0)),
      .setpointOrder .a (frameOf (setpoint 0x0601 0x0303 5)), .writeEntrySource .a (frameOf (ask 2 1 0 0 [])),
      .operateCrank .a (frameOf (ask 8 2 0 0 (put8 2 ++ putZeros 7))), .unknownRequest .a (frameOf (ask 16 0 0 0 [])),
      .deadlineExpiry 255, .beaconTimerExpiry].all Instr.wellFormed) = true := by decide +kernel

/-! ## Values the manual tables -/

/-- R1, Conventions: the table of time codes, and the longest duration. -/
theorem test_time_codes :
    [0x0A, 0x41, 0x4A, 0x82, 0x85, 0x8A, 0xC6, 0xDE, 0xFF].map timeMs =
      [100, 100, 1000, 2000, 5000, 10000, 60000, 300000, 630000] := by decide

/-- R2: the ends of the range of newer. -/
theorem test_newer_ends :
    [newer 1 0, newer 32767 0, newer 32768 0, newer 0 65535, newer 5 5] = [true, true, false, true, false] := by decide

/-- R26: 1,500 kW at 30 % and 725 kW at 35 %. -/
theorem test_minimum_load :
    UnitRec.minimumLoad { rated := 1500, minLoad := 30 } + UnitRec.minimumLoad { rated := 725, minLoad := 35 } = 703 := by decide

/-- 2.6, worked case: RoCoF over a window of 8, of the first two stamps and across the wrap of the counter. -/
theorem test_rocof_worked_case :
    let slope := fun (old new : Sample) => rocofOver (old :: List.replicate 6 ⟨49800, 0⟩ ++ [new]) 8
    slope ⟨49980, 3000040000⟩ ⟨49770, 3000110000⟩ = some (-3000) ∧ slope ⟨49980, 3000040000⟩ ⟨49700, 3000150000⟩ = some (-2545) ∧
      (slope ⟨49980, 0xFFFFF000⟩ ⟨49980, 0x00001000⟩).isSome ∧ slope ⟨49980, 7⟩ ⟨49770, 7⟩ = none := by decide

/-- 2.7, worked cases: 340 kW to shed at 50 Hz, and nothing at 60 Hz, where the store covers it. -/
theorem test_amount_to_shed :
    let at_ := fun (fsel : Bool) (cd q rocof : Int) =>
      { State.reset with fsel := fsel, sheet := { cd := cd, q := q, rocof := some rocof } }
    amountToShed (at_ false 1500 200 (-3000)) 30 = 340 ∧ amountToShed (at_ true 4200 1400 (-2150)) 45 = -46 := by decide +kernel

/-- 2.8, worked cases: the shares of 1,900 kW, and those with a plant above its rating and one never heard. -/
theorem test_shares_and_remainder :
    let split := fun (plants : List UnitRec) (c : Int) =>
      (spread (c - (shares plants c).sum) (plants.zip (shares plants c))).map fun x => clamp 0 (x.1.rated : Int) x.2
    split [{ rated := 2000, avail := some 1600 }, { rated := 1000, avail := some 800 }] 1900 = [1267, 633] ∧
      split [{ rated := 300, avail := some 700 }, { rated := 800 }, { rated := 400, avail := some (-10) }] 1000 =
        [300, 534, 0] := by decide

/-- 2.8, worked case: the mirror minimum and the ramp give 1,200 and 500. -/
theorem test_mirror_and_ramp :
    limitOf (defaultBank false) { pv := { lastSent := some 1100 } } 1267 = 1200 ∧
      limitOf (defaultBank false) { pv := { lastSent := some 600, mirror := 500, mirrorValid := true } } 633 = 500 := by decide

/-- R42, R44, R45: the cold-reset banks of both straps lie within their ranges. -/
theorem test_default_banks_are_valid : (defaultBank false).valid = true ∧ (defaultBank true).valid = true := by decide +kernel

/-- R63: the counter runs from 255 to 1. -/
theorem test_tag_after_255 : nextFreeTag [] 0 255 = 1 ∧ nextFreeTag [1, 2] 2 255 = 3 := by decide

/-- R197: STALE is 1, LOCKOUT_CLEARED 19, REASSERT 20 and WARM_RESET 34. -/
theorem test_event_codes :
    [EventKind.stale, .lockoutCleared, .reassert, .warmReset].map EventKind.code = [1, 19, 20, 34] := by decide

/-- R194, R195: a Setpoint Order of 500 kW written out octet by octet from the layout, padded to 46, is read back. -/
theorem test_setpoint_octets :
    parseTelegram ([4, 1, 0x06, 0x01, 0x03, 0x03, 0x00, 0x01, 0x00, 0x04, 0x00, 0x00, 0x01, 0xF4] ++ List.replicate 32 0) =
      some (setpoint 0x0601 0x0303 500) := by decide

/-- R181, R195: a version other than 1, the sender 0x0000 and a body length that does not fit its kind are malformed. -/
theorem test_malformed_telegrams :
    parseTelegram ([4, 2, 6, 1, 3, 3, 0, 1, 0, 4, 0, 0, 1, 0xF4] ++ List.replicate 32 0) = none ∧
      parseTelegram ([4, 1, 0, 0, 3, 3, 0, 1, 0, 4, 0, 0, 1, 0xF4] ++ List.replicate 32 0) = none ∧
      parseTelegram ([4, 1, 6, 1, 3, 3, 0, 1, 0, 5, 0, 0, 1, 0xF4, 0] ++ List.replicate 31 0) = none := by decide

/-! ## States of the witnesses -/

/-- A genset in AUTO in this state. -/
def genset (state : GensetState) : UnitRec :=
  { kind := .genset, device := 0x0301, rated := 500, startRank := 1, startProfile := 1, breakerProfile := 2, stopProfile := 3,
    genset := { state := state } }

/-- A PV plant in AUTO of 1,000 kW. -/
def plant (last : Option Nat) : UnitRec := { kind := .pv, device := 0x0303, rated := 1000, pv := { lastSent := last } }

/-- A feeder in AUTO of 120 kW with its breaker CLOSED. -/
def feeder : FeederRec := { used := true, device := 0x0403, p := some 120, breaker := .closed }

/-- A FRESH publisher. -/
def publisher (role : Role) (target : Nat) : SourceEntry :=
  { publisher := 0x0501, role := role, target := target, staleLimit := 0x4A, lastSeq := some 0, fresh := true,
    staleTimer := some 0 }

def withUnit (u : Fin 16) (r : UnitRec) (s : State) : State := { s with units := s.units.set u r }
def withFeeder (f : Fin 32) (r : FeederRec) (s : State) : State := { s with feeders := s.feeders.set f r }
def withSource (i : Fin 64) (e : SourceEntry) (s : State) : State := { s with sources := s.sources.set i e }
def withStep (k : Fin 48) (r : StepRec) (s : State) : State :=
  { s with seq := { s.seq with program := s.seq.program.set k r } }
def withSeq (state : SeqState) (stack : List Suspension) (s : State) : State :=
  { s with seq := { s.seq with state := state, stack := stack } }

/-- The sheet formed anew. -/
def balanced (s : State) : State := { s with sheet := computeSheet s }

/-- A state that meets every invariant with something in every place: orders waiting and out, a crank granted and one waiting,
a genset in LOCKED_OUT, a mirror, a feeder shed, a run suspended, a frequency. -/
def busy : State :=
  let order : Order := { target := .unit 0, device := 0x0301, kind := .crank, cls := .routine, cause := .dispatch, profile := 1 }
  let s := { linked with
    arbiter := { state := .granted, grant := some ⟨0, .deficit, 0⟩, waiting := [⟨3, .operator, 0⟩] }
    history := [⟨49900, 100⟩]
    freqSource := .reference 0
    orders := {
      queue := [{ order with target := .feeder 4, kind := .trip, cls := .protective, cause := .stageShed },
                { order with target := .unit 2, kind := .limit, cause := .curtail, value := 250 }]
      tracker := [{ order := order, tag := 1, deadline := 3000 }], tagCounter := 1
      counters := { accepted := 3, sent := 1 } }
    shed := { linked.shed with stack := [⟨3, 120, .stage, true⟩] }
    record := { entries := [⟨1, 5, .portUp, none, 0, 1⟩], nextSeq := 2, unread := 1 } }
  let s := withSeq .suspended [⟨.protection, 0, some 500⟩] s
  let s := withUnit 0 { genset .cranking with genset := { state := .cranking, startCause := .deficit, outstanding := some .crank } } s
  let s := withUnit 1 { genset .lockedOut with genset := { state := .lockedOut, lockout := .startFail } } s
  let s := withUnit 2 { plant (some 200) with pv := { lastSent := some 200, mirror := 300, mirrorValid := true } } s
  let s := withUnit 3 (genset .unavailable) s
  let s := withFeeder 3 { feeder with owner := .shed, shedLoad := some 120, breaker := .opened } (withFeeder 4 feeder s)
  let s := withSource 0 { publisher .reference 0 with f := some 49900 } s
  balanced { s with sheet := { s.sheet with freq := some 49900 } }

theorem witness_StepKeepsRecord : RecordKept busy ∧ RecordKept linked := by decide +kernel
theorem witness_StepKeepsPortsAndHistory : PortsKept busy ∧ HistoryKept busy := by decide +kernel
theorem witness_StepKeepsTablesInRange : BanksKept busy ∧ SettingsKept busy ∧ ProfilesKept busy := by decide +kernel
theorem witness_StepKeepsOrders :
    QueueKept busy ∧ TrackerKept busy ∧ BooksBalance busy ∧ SettingsKept busy ∧ QueueHighKept busy := by decide +kernel
theorem witness_StepKeepsLimits : LimitsKept busy := by decide +kernel
theorem witness_StepKeepsArbiter : ArbiterKept busy := by decide +kernel
theorem witness_StepKeepsLockout : LockoutKept busy := by decide +kernel
theorem witness_StepKeepsShedStack : StackKept busy := by decide +kernel
theorem witness_StepKeepsSuspension : SuspensionKept busy := by decide +kernel
theorem witness_StepKeepsSheet : SheetKept busy := by decide +kernel
theorem witness_StepKeepsSource : SourceKept busy := by decide +kernel

/-- The busy state takes a step. -/
theorem witness_busy_steps : step busy = .next (tick busy) := rfl

/-! ## Witnesses: steps, resets and links -/

theorem witness_IdleStepPassesOneMillisecond :
    linked.pending = [] ∧ linked.phase = .running ∧ (withSeq .suspended [] linked).seq.state = .suspended ∧
      ({ linked with phase := .coldHeld } : State).phase = .coldHeld ∧
      ({ linked with phase := .warmHeld, retired := some ⟨0x7F01, 0x9A1C, 1⟩ } : State).phase = .warmHeld :=
  ⟨rfl, rfl, rfl, rfl, rfl⟩

theorem witness_DueTimersSendTheirCommands : busy.pending = [] ∧ busy.phase = .running ∧ step busy = .next (tick busy) :=
  ⟨rfl, rfl, rfl⟩

theorem witness_ResetPinsHoldAndColdResetStarts :
    linked.handovers = [] ∧ linked.phase ≠ .warmHeld ∧ linked.phase ≠ .coldHeld ∧
      ({ linked with phase := .coldHeld } : State).phase = .coldHeld := ⟨rfl, by decide, by decide, rfl⟩

theorem witness_WarmResetKeepsAndClears :
    (({ busy with phase := .warmHeld } : State).phase = .warmHeld ∧ busy.handovers = []) ∧ Made busy 15 0 0 0 [] .warmReset :=
  ⟨⟨rfl, rfl⟩, asked (by decide +kernel) (by decide +kernel)⟩

theorem witness_LinkStatusReadFollowsTransceivers :
    linked.handovers = [] ∧ linked.phase ≠ .coldHeld ∧ linked.portA.link ≠ false ∧ State.reset.portB.link ≠ true ∧
      ({ linked with phase := .coldHeld } : State).phase = .coldHeld := by decide

/-- A frame of another EtherType, one too short for a header, and one the part sent itself. -/
def foreign : Frame := ⟨broadcast, 0, 0x0800, []⟩
def stub : Frame := ⟨broadcast, 0, 0x9A1C, [1, 1, 0x04]⟩
def returned : Frame := frameOf (telegram kindBeacon 0x7F00 0xFFFF (putZeros 56))

/-- A full forward queue at port B and telegrams waiting at port A. -/
def loaded : State := { linked with
  portA := { linked.portA with ownQ := [returned], forwardQ := [foreign] }
  portB := { linked.portB with forwardQ := List.replicate 16 foreign } }

theorem witness_FramesAreForwardedOrDiscarded :
    (loaded.handovers = [] ∧ loaded.phase ≠ .coldHeld ∧ (loaded.port .a).link = true ∧ (State.reset.port .a).link = false) ∧
    (removed loaded returned = true ∧ removed loaded foreign = false ∧ removed loaded stub = false) ∧
    ((parseTelegram returned.payload).isSome ∧ removed { loaded with retired := some ⟨0x0450, 0x88B5, 1000⟩ }
      { frameOf (telegram kindBeacon 0x0450 0xFFFF (putZeros 56)) with etherType := 0x88B5 } = true) ∧
    foreign.etherType ≠ loaded.settings.etherType ∧
    (stub.etherType = loaded.settings.etherType ∧ parseTelegram stub.payload = none) ∧
    ([telegram kindActionOrder 0x0450 0x7F00 (putZeros 8), telegram kindResponse 0x0450 0x0451 (putZeros 4),
      telegram kindBeacon 0x0450 0xFFFF (putZeros 56), telegram kindRequest 0x0450 0x0451 (putZeros 4)].all fun t =>
        removed loaded (frameOf t) = false ∧ parseTelegram (frameOf t).payload = some t) ∧
    ((loaded.port .b).forwardQ.length = 16 ∧ (loaded.port .a).forwardQ.length = 1) ∧
    (loaded.port .a).ownQ = returned :: [] ∧
    ((linked.port .a).ownQ = [] ∧ (loaded.port .b).ownQ = [] ∧ (loaded.port .b).forwardQ = foreign :: List.replicate 15 foreign) ∧
    (({ loaded with phase := .coldHeld } : State).phase = .coldHeld ∧
      (Instr.forwardFrame .a foreign).arrival = some (.a, foreign)) := by
  decide +kernel

theorem witness_WarmHeldPartTakesNothingIn :
    ({ linked with phase := .warmHeld } : State).phase = .warmHeld ∧ linked.handovers = [] ∧
      Instr.beaconTimerExpiry.expiry = true ∧ (Instr.forwardFrame .a foreign).arrival = some (.a, foreign) := by decide

/-- A port DOWN, one UP, and one with a full queue; the shortest and the longest body of a request, and a beacon. -/
theorem witness_FormedTelegramJoinsBothOwnQueues :
    ((State.reset.port .a).link = false ∧ (linked.port .a).link = true ∧ (linked.port .a).ownQ.length < 32 ∧
      32 ≤ (({ linked with portA := { linked.portA with ownQ := List.replicate 32 foreign } } : State).port .a).ownQ.length) ∧
    bodyFits kindRequest (putZeros 4) = true ∧ bodyFits kindRequest (putZeros 68) = true ∧ (putZeros 68).length < 65536 ∧
      bodyFits kindBeacon (putZeros 56) = true ∧ (0x7F00 : StationId) ≠ 0 ∧ (0x7F00 : StationId) ≠ 0xFFFF := by
  decide

/-! ## Witnesses: Sample Intake, the sheet and the banks -/

/-- A publisher of genset 1, one of a reference, one of a feeder, one of the receiver pressure and a gateway. -/
def measured (role : Role) (target : Nat) : State :=
  withUnit 1 (genset .online) (withFeeder 31 feeder (withSource 63 (publisher role target) linked))

/-- The report is taken for the publisher at entry 63. -/
abbrev From63 (s : State) (t : Telegram) : Prop := findIndex s.sources (fun e => e.used && e.publisher = t.sender) = some 63

theorem reached_measured (role : Role) (target : Nat) : Reached (measured role target) := ⟨rfl, rfl, rfl, rfl, ⟨rfl, rfl⟩, rfl, rfl, rfl⟩

/-- Entry 63 is the reference that gives the frequency, 49,900 mHz, of a part in this state otherwise. -/
def metered (s : State) : State :=
  { withSource 63 { publisher .reference 0 with f := some 49900, u := some 230 } s with freqSource := .reference 63 }

/-- A sample of the reference that gives the frequency. -/
def sampled (f : Int) : Telegram := sampleReport 0x0501 0 [(2, f)]

theorem witness_metered {s : State} {f : Int} (h : Reached (metered s)) (g : Good (sampled f))
    (i : From63 (metered s) (sampled f)) (v : ((sampleItems (sampled f).body).find? fun x => x.1 = 2) = some (2, f))
    (u : ∀ x ∈ sampleItems (sampled f).body, x.1 ≠ 3) (q : read8 (sampled f).body 4 = 0)
    (e : (metered s).sources[(63 : Fin 64)] = { publisher .reference 0 with f := some 49900, u := some 230 }) :
    FreqReport (metered s) .a (frameOf (sampled f)) (sampled f) 63 f :=
  ⟨arrived h g, rfl, i, rfl, by rw [e]; rfl, by rw [e]; rfl, by rw [e]; simp, q, v, u⟩

theorem witness_SampleReportSetAside :
    let r := sampleReport 0x0501 1 [(1, 5)]
    (Arrives linked .a (frameOf r) r ∧ findIndex linked.sources (fun e => e.used && e.publisher = r.sender) = none) ∧
    (Arrives (measured .gateway 0) .a (frameOf r) r ∧ From63 (measured .gateway 0) r) ∧
    (Arrives (measured .unit 1) .a (frameOf r) r ∧ From63 (measured .unit 1) r ∧ newer r.seq 0 = true ∧ read8 r.body 4 ≠ 0) ∧
    newer r.seq 1 = false ∧ (newer 32768 0 = false ∧ newer 0 32768 = false) := by
  have h : Good (sampleReport 0x0501 1 [(1, 5)]) := by decide +kernel
  exact ⟨⟨arrived (by decide +kernel) h, by decide +kernel⟩, ⟨arrived (reached_measured _ _) h, by decide +kernel⟩,
    ⟨arrived (reached_measured _ _) h, by decide +kernel⟩, by decide⟩

/-- Values at and beyond the ends of their ranges, and a kind twice. -/
theorem witness_AcceptedSampleWritesItsRecord :
    let r := sampleReport 0x0501 0 [(1, 65536), (2, 99999), (3, -1), (7, 4001), (2, 7)]
    ([(Role.unit, 1), (.unit, 2), (.feeder, 31), (.reference, 0), (.air, 0)].all fun x =>
      From63 (measured x.1 x.2) r ∧ newerOrFirst r.seq (((measured x.1 x.2).sources[(63 : Fin 64)]).lastSeq) = true) ∧
    (∀ role target, Arrives (measured role target) .a (frameOf r) r) ∧ r.kind = kindSampleReport ∧ read8 r.body 4 = 0 := by
  have h : Good (sampleReport 0x0501 0 [(1, 65536), (2, 99999), (3, -1), (7, 4001), (2, 7)]) := by decide +kernel
  exact ⟨by decide +kernel, fun _ _ => arrived (reached_measured _ _) h, rfl, by decide +kernel⟩

/-- Stage 1, of threshold 49,000 and hysteresis 50, with this timer, latch and delay, and a bank with this restore delay. -/
def staging (timer : Timer) (latch : Bool) (delay restore : TimeCode) : State :=
  metered { linked with
    banks := linked.banks.set 0 { defaultBank false with delay := Vector.replicate 8 delay, restoreDelay := restore }
    shed := { linked.shed with stageTimers := linked.shed.stageTimers.set 0 timer, latches := linked.shed.latches.set 0 latch } }

/-- Samples below the threshold (with a delay and with none), at the end of the hysteresis and short of it, and at the restore
frequency (with a delay and with none). -/
theorem witness_AcceptedSampleWritesItsRecord_stages :
    ∀ x ∈ ([((48999, none), (false, 0x0A)), ((48999, none), (false, 0)), ((49049, some 5), (true, 0x0A)), ((49050, some 5), (true, 0x0A)),
        ((49800, none), (false, 0x0A)), ((49800, none), (false, 0))] : List ((Nat × Timer) × (Bool × TimeCode))),
      let s := staging x.1.2 x.2.1 x.2.2 x.2.2
      let t := sampled x.1.1
      FreqReport s .a (frameOf t) t 63 x.1.1 ∧ (s.sources[(63 : Fin 64)]).lastSeq = some 0 ∧ newer t.seq 0 = true ∧
      s.orders.queue = [] ∧ s.seq.state ≠ .waiting ∧ x.1.1 ≤ s.bank.fOfc ∧ s.inRun = false ∧
      (∀ j : Fin 32, (s.shed.table[j]).feeder = none) ∧ s.shed.stack = [] ∧ s.seq.stack = [] ∧ s.shed.permission = false ∧
      s.shed.restoreDelay = none ∧ ((passedOn .a (frameOf t) t s).sampleTaken 63 t x.1.1).sheet.rocof = none := by
  intro x h
  have r : Reached (staging x.1.2 x.2.1 x.2.2 x.2.2) ∧ From63 (staging x.1.2 x.2.1 x.2.2 x.2.2) (sampled x.1.1) := by
    revert x; decide +kernel
  have g : Good (sampled x.1.1) ∧ ((sampleItems (sampled x.1.1).body).find? fun y => y.1 = 2) = some (2, (x.1.1 : Int)) ∧
      (∀ y ∈ sampleItems (sampled x.1.1).body, y.1 ≠ 3) ∧ read8 (sampled x.1.1).body 4 = 0 := by revert x; decide +kernel
  refine ⟨⟨arrived r.1 g.1, rfl, r.2, rfl, ?_, ?_, ?_, g.2.2.2, g.2.1, g.2.2.1⟩, ?_⟩ <;> revert x <;> decide +kernel

theorem witness_PositionReportWritesDeviceState :
    let s := measured .unit 1
    let heard := { s with units := s.units.set 1 { genset .online with lastPos := some 1 }
                          feeders := s.feeders.set 31 { feeder with lastPos := some 1 } }
    (Good (positionReport 0x0301 0 4 6 0x1F) ∧ Good (positionReport 0x0403 0 4 6 0x1F) ∧ Good (positionReport 0x0777 0 4 6 0x1F)) ∧
      Reached s ∧ Reached heard ∧ recordOf s 0x0777 = none ∧ recordOf s 0x0301 = some (.unit 1) ∧
      recordOf s 0x0403 = some (.feeder 31) ∧ newerOrFirst 1 (s.units[(1 : Fin 16)]).lastPos = true ∧
      newerOrFirst 1 (s.feeders[(31 : Fin 32)]).lastPos = true ∧ recordOf heard 0x0301 = some (.unit 1) ∧
      recordOf heard 0x0403 = some (.feeder 31) ∧ newer 1 1 = false := by decide +kernel

/-- A gateway at entry 63, the plant 0x0303 with this record, and no order waiting. -/
def gated (r : UnitRec) : State := withUnit 15 r (withSource 63 { publisher .gateway 0 with lastSeq := some 0 } linked)

theorem witness_SetpointOrderSetsTheMirror :
    let waiting := { plant (some 600) with cycle := some 7 }
    (∀ r, Reached (gated r)) ∧ (∀ v ∈ ([0, 600, 601, 1001, 0x7FFFFFFF] : List Int), Good (setpoint 0x0501 0x0303 v)) ∧
      Good (setpoint 0x0501 0x0304 500) ∧
      (∀ r ∈ [waiting, plant none, { plant none with mode := .manual }],
        findIndex (gated r).sources (fun e => e.used && e.role = .gateway && e.publisher = 0x0501) = some 63 ∧
        (gated r).freqSource = sourceChoice (gated r) ∧ plantOf (gated r) 0x0303 = some 15 ∧ plantOf (gated r) 0x0304 = none) ∧
      (let first := withSource 63 { publisher .gateway 0 with lastSeq := none, fresh := false } (gated waiting)
       Reached first ∧ findIndex first.sources (fun e => e.used && e.role = .gateway && e.publisher = 0x0501) = some 63 ∧
        (first.sources[(63 : Fin 64)]).lastSeq = none ∧ first.freqSource = sourceChoice first ∧ plantOf first 0x0303 = some 15) ∧
      newer 1 0 = true ∧ newer 1 1 = false ∧ (plant none).participating = true ∧
      ({ plant none with mode := .manual } : UnitRec).participating = false ∧ (gated waiting).orders.queue = [] ∧
      (gated waiting).settings.queueOffset ≤ 30 := by
  exact ⟨fun r => ⟨rfl, rfl, rfl, rfl, ⟨rfl, rfl⟩, rfl, rfl, rfl⟩, by decide +kernel⟩

theorem witness_StaleTimerExpiryMakesStale :
    (∀ role ∈ [Role.air, .unit, .feeder, .reference], let s := balanced (measured role 1)
      Quiet s ∧ (s.sources[(63 : Fin 64)]).staleTimer = some 0 ∧ (s.sources[(0 : Fin 64)]).staleTimer ≠ some 0 ∧
      (s.sources[(63 : Fin 64)]).role = role ∧ SheetKept s ∧
      sourceChoice (s.modSource 63 fun e => { e with fresh := false, staleTimer := none }) = s.freqSource) ∧
    (let s := metered linked
     Quiet s ∧ (s.sources[(63 : Fin 64)]).staleTimer = some 0 ∧ (s.sources[(63 : Fin 64)]).role = .reference ∧
      s.freqSource = .reference 63 ∧ s.orders.queue = [] ∧
      sourceChoice (s.modSource 63 fun e => { e with fresh := false, staleTimer := none }) = .absent) := by decide +kernel

/-- A participating plant with a valid mirror and a last-sent, and a run that holds every plant at 0. -/
theorem witness_PvLimitsStayInBounds :
    ((pvLimits busy busy.bank).any fun x => (busy.units[x.1]).pv.mirrorValid && (busy.units[x.1]).pv.lastSent.isSome) = true ∧
      busy.forcedZero = true ∧ (0 : Int) ≤ 1900 := by decide +kernel

theorem witness_StageThresholdsDescend :
    let b := { defaultBank false with threshold := #v[49000, 49000, 0, 0, 0, 0, 0, 48000] }
    (3 : Fin 4) ≠ linked.activeBank ∧ (bankFrom (bankEntry b)).threshold[(0 : Fin 8)] ≠ 0 ∧
      (bankFrom (bankEntry b)).threshold[(1 : Fin 8)] ≠ 0 ∧
      (bankFrom (bankEntry b)).threshold[(0 : Fin 8)] ≤ (bankFrom (bankEntry b)).threshold[(1 : Fin 8)] := by decide +kernel

theorem witness_SelectBankSwitches :
    (Made linked 6 0 4 0 [] .selectBank ∧ Made linked 6 0 0 0 [] .selectBank ∧ Made linked 6 0 3 0 [] .selectBank ∧
      linked.activeBank = 0 ∧ AtRest linked) ∧
    (let s := { linked with
       shed := { linked.shed with
         stageTimers := linked.shed.stageTimers.set 0 (some 5), restoreDelay := some 5, barrier := .stepping 31 .sequencer 5 }
       dispatch := { linked.dispatch with stopTimer := some ⟨15, 5⟩ }
       seq := { linked.seq with deadBusTimer := some 5 } }
     let bank := s.banks[(3 : Fin 4)]
     let sheet := computeSheet { admitted s with activeBank := 3 }
     Made s 6 0 3 0 [] .selectBank ∧ (3 : Fin 4) ≠ s.activeBank ∧ s.orders.queue = [] ∧
      (sheet.res = s.sheet.res ∧ sheet.req = s.sheet.req ∧ sheet.margin = s.sheet.margin ∧ sheet.exp = s.sheet.exp) ∧
      (∀ i : Fin 8, timeMs bank.delay[i] ≠ 0) ∧ timeMs bank.restoreDelay ≠ 0 ∧ timeMs bank.stopDelay ≠ 0 ∧
      timeMs bank.deadBusTime ≠ 0 ∧ timeMs bank.stepInterval ≠ 0) := by
  exact ⟨⟨asked (by decide +kernel) (by decide +kernel), asked (by decide +kernel) (by decide +kernel),
    asked (by decide +kernel) (by decide +kernel), rfl, by decide +kernel⟩,
    asked (by decide +kernel) (by decide +kernel), by decide +kernel⟩

/-! ## Witnesses: Action Orders -/

theorem witness_NextTagIsFirstFree : ([1, 2, 255] : List Octet).length ≤ 16 ∧ (List.replicate 16 (1 : Octet)).length ≤ 16 := by decide

/-- A queue that is full of other slots, one that is not, and one that holds the slot with the same cause and with another. -/
theorem witness_SubmissionIsAnswered :
    let o : Order := { target := .feeder 0, device := 0, kind := .trip, cls := .routine, cause := .operator, profile := 0 }
    let full := (List.finRange 32).map fun f : Fin 32 => { o with target := .feeder f, kind := .close }
    full.find? o.sameSlot = none ∧ 32 ≤ full.length ∧ linked.orders.queue.find? o.sameSlot = none ∧
      [o].find? o.sameSlot = some o ∧ o.cause = .operator ∧ o.cause ≠ .restore := by decide

/-- An operator's order in the tracker under tag 255, with nothing waiting. -/
def sent (mode : WaitMode) (deadline : Nat) (inhibit : Timer) (seen : Bool) : State :=
  let order : Order := { target := .feeder 5, device := 0x0405, kind := .trip, cls := .routine, cause := .operator, profile := 15 }
  { linked with
    profiles := linked.profiles.set 15 { waitMode := mode, holdOff := 0x0A }
    orders := { tracker := [{ order := order, tag := 255, deadline := deadline, inhibit := inhibit, seen := seen }] } }

theorem witness_OrderTimersEndTheirOrders :
    (∀ s ∈ [sent .plain 0 none true, sent .plain 0 none false, sent .ready 0 none true, sent .plain 5 none true,
        sent .frozen 0 (some 1) true, sent .frozen 9 (some 0) false],
      Quiet s ∧ (∀ x ∈ s.orders.tracker, x.tag ≠ 1) ∧ s.orders.queue = [] ∧
      (s.orders.tracker.find? fun y => y.tag = 255).any fun x => x.order.cause = .operator ∧ x.order.kind ≠ .crank) ∧
    (((sent .plain 0 none true).profiles[(15 : Fin 16)]).waitMode.confirmsAtOnce = false ∧
      ((sent .ready 0 none true).profiles[(15 : Fin 16)]).waitMode.confirmsAtOnce = true) := by decide +kernel

/-- A feeder's timers due, the order that waits for it, and a feeder on top of the Shed Stack in a run and outside one. -/
theorem witness_TargetTimersBecomeIdle :
    let s := withFeeder 31 { feeder with cycle := some 0, holdOff := some 0 } linked
    let o : Order := { target := .feeder 31, device := 0x0403, kind := .trip, cls := .routine, cause := .operator, profile := 0 }
    let one := withFeeder 31 { feeder with cycle := some 0 } { linked with orders := { queue := [o] } }
    let held := withFeeder 31 { feeder with holdOff := some 0 } { linked with orders := { queue := [o] } }
    let top : StackEntry := ⟨31, 120, .stage, true⟩
    let shed := { s with shed := { s.shed with stack := [top] } }
    (Quiet s ∧ s.orders.queue = [] ∧ s.cycleOf (.feeder 31) = some 0 ∧ s.holdOffOf (.feeder 31) = some 0 ∧ s.shed.stack = [] ∧
      s.cycleOf (.unit 15) ≠ some 0 ∧ s.holdOffOf (.unit 15) ≠ some 0) ∧
    (Quiet one ∧ one.orders.queue = [o] ∧ one.cycleOf (.feeder 31) = some 0 ∧ o.target = .feeder 31 ∧ o.cls = .routine ∧
      one.orders.tracker = [] ∧ one.holdOffOf (.feeder 31) = none ∧ closeAllowed one o = true ∧
      one.targetInhibit (.feeder 31) = false ∧ one.orders.queueHigh = false ∧ one.settings.queueOffset ≤ 31) ∧
    (Quiet held ∧ held.orders.queue = [o] ∧ held.holdOffOf (.feeder 31) = some 0 ∧ held.orders.tracker = [] ∧
      held.cycleOf (.feeder 31) = none ∧ closeAllowed held o = true ∧ held.targetInhibit (.feeder 31) = false ∧
      held.orders.queueHigh = false ∧ held.settings.queueOffset ≤ 31 ∧ held.shed.stack = [] ∧
      (let atTop := { held with shed := { held.shed with stack := [top] } }
       atTop.shed.stack.getLast? = some top ∧ atTop.inRun = false ∧ atTop.shed.permission = false)) ∧
    (shed.shed.stack.getLast? = some top ∧ shed.holdOffOf (.feeder 31) = some 0 ∧ shed.inRun = false ∧
      shed.shed.permission = false ∧ (withSeq .running [] shed).inRun = true) := by decide +kernel

/-- Feeder 31 in MANUAL. -/
def manual (r : FeederRec) : State := withFeeder 31 { r with mode := .manual } linked

theorem witness_OperateSubmitsTheOrder :
    let free := { feeder with breaker := .opened }
    let o : Order := { target := .feeder 31, device := 0x0403, kind := .close, cls := .routine, cause := .operator, profile := 0 }
    (∀ s ∈ [linked, manual free, manual { free with cycle := some 1 }, manual { free with device := 0 }],
      Made s 8 3 31 0 (put8 1 ++ putZeros 7) .operate ∧ Made s 8 3 31 0 (putZeros 8) .operate ∧ s.orders = {} ∧
        s.settings.queueOffset ≤ 30) ∧
    ((manual free).feeders[(31 : Fin 32)]).mode = .manual ∧ ((manual free).feeders[(31 : Fin 32)]).used = true ∧
      closeAllowed (manual free) o = true ∧ (linked.feeders[(31 : Fin 32)]).used = false := by
  refine ⟨fun s hs => ?_, by decide +kernel⟩
  have r : Reached s ∧ s.orders = {} ∧ s.settings.queueOffset ≤ 30 := by
    revert s; decide +kernel
  exact ⟨asked r.1 (by decide +kernel), asked r.1 (by decide +kernel), r.2⟩

/-- A queue of 32 orders, none of them for a feeder or for unit 15. -/
def full (s : State) : State :=
  let order : Order := { target := .unit 0, device := 0x0301, kind := .load, cls := .routine, cause := .dispatch, profile := 1 }
  { s with orders := { s.orders with queue := List.replicate 32 order } }

/-- Unit 15 with its cycle timer running, or a full queue: a genset in each state that bars a kind and in one that bars none, a plant
with and without a mirror, an unused record and one in AUTO; a kind of each sort, and a LIMIT above the bound; a feeder and a full
queue. -/
theorem witness_OperateSubmitsTheOrder_units :
    let unit := fun (r : UnitRec) => withUnit 15 { r with mode := .manual, cycle := some 1 } linked
    let diesel := fun state => unit (genset state)
    (∀ s ∈ [diesel .online, diesel .unknown, diesel .lockedOut, unit (plant none), unit { plant none with pv := { mirror := 7, mirrorValid := true } },
        full (diesel .online), full (unit (plant none)), linked, withUnit 15 (plant none) linked],
      Made s 8 2 15 0 (put8 1 ++ putZeros 7) .operate ∧ Made s 8 2 15 0 (put8 3 ++ putZeros 7) .operate ∧
      Made s 8 2 15 0 (put8 7 ++ putZeros 3 ++ put32 5000) .operate ∧
      (s.orders.queue = [] → TakesAlone s (.unit 15)) ∧
      ∀ q ∈ s.orders.queue, ¬ (q.cls = .routine ∧ q.target = .unit 15 ∧ q.kind = .close)) ∧
    (let s := full (manual feeder)
     Made s 8 3 31 0 (put8 1 ++ putZeros 7) .operate ∧ 32 ≤ s.orders.queue.length ∧
      ∀ q ∈ s.orders.queue, ¬ (q.cls = .routine ∧ q.target = .feeder 31 ∧ q.kind = .close)) := by
  refine ⟨fun s hs => ?_, asked (by decide +kernel) (by decide +kernel), by decide +kernel⟩
  have r : Reached s ∧ (s.orders.queue = [] → TakesAlone s (.unit 15)) ∧
      ∀ q ∈ s.orders.queue, ¬ (q.cls = .routine ∧ q.target = .unit 15 ∧ q.kind = .close) := by revert s; decide +kernel
  exact ⟨asked r.1 (by decide +kernel), asked r.1 (by decide +kernel), asked r.1 (by decide +kernel), r.2⟩

/-- The first octet after those that name a kind for a feeder, the last that names one and the first that names none, for a feeder in
MANUAL; and the latter for units that R188's step 2 passes and for those it refuses. -/
theorem witness_OperateSubmitsTheOrder_kinds :
    (∀ kind ∈ [2, 7, 8], Made (manual feeder) 8 3 31 0 (put8 kind ++ putZeros 7) .operate) ∧
    (∀ s ∈ [withUnit 15 { genset .online with mode := .manual } linked, withUnit 15 (genset .online) linked, linked],
      Made s 8 2 15 0 (put8 8 ++ putZeros 7) .operate) := by
  refine ⟨fun kind hk => asked (by decide +kernel) (by revert kind; decide +kernel), fun s hs => asked ?_ (by decide +kernel)⟩
  revert s; decide +kernel

/-- The tracker holds this slot, and no order waits. -/
def tracking (x : Slot) (s : State) : State := { s with orders := { tracker := [x] } }

/-- An order to feeder 31 or to plant 15. -/
def orderTo (target : Target) (kind : OrderKind) (cause : OrderCause) : Order :=
  { target := target, device := 0x0403, kind := kind, cls := .routine, cause := cause, profile := 15, value := 250 }

/-- Feeder 31, of no measured power, and plant 15, and this wait mode in profile 15. -/
def judged (mode : WaitMode) : State := balanced (withUnit 15 (plant (some 600)) (withFeeder 31 { feeder with p := none }
  { linked with profiles := linked.profiles.set 15 { waitMode := mode, inhibitLimit := 0x0A } }))

/-- One state and report for each clause: a report too late; REFUSED; not the expected state; the expected one under a wait mode
that waits and one that does not, for an operator's order, a LIMIT and a shed TRIP; and an INHIBIT that does not freeze, one that
freezes, one with no time left, and its end. -/
theorem witness_TaggedReportsJudgeTheirOrder :
    let toFeeder := fun (kind : OrderKind) (cause : OrderCause) => ({ order := orderTo (.feeder 31) kind cause, tag := 9, deadline := 5 } : Slot)
    let trip := toFeeder .trip .operator
    let limit : Slot := { order := orderTo (.unit 15) .limit .curtail, tag := 9, deadline := 5 }
    let inhibited := withFeeder 31 { feeder with p := none, inhibit := true }
    let stacked := fun (s : State) => withFeeder 31 { feeder with p := none, owner := .shed, shedLoad := some 120 }
      { s with shed := { s.shed with stack := [⟨31, 120, .stage, false⟩] } }
    let cases : List (State × Telegram × Target × Option Slot) :=
      [(judged .plain, positionReport 0x0403 9 0 0 0, .feeder 31, none),
       (tracking trip (judged .plain), positionReport 0x0403 9 1 0 2, .feeder 31, some trip),
       (tracking trip (judged .plain), positionReport 0x0403 9 1 0 0, .feeder 31, some trip),
       (tracking trip (judged .plain), positionReport 0x0403 9 0 0 0, .feeder 31, some trip),
       (tracking trip (judged .ready), positionReport 0x0403 9 0 0 0, .feeder 31, some trip),
       (tracking limit (judged .ready), positionReport 0x0303 9 1 0 16, .unit 15, some limit),
       (stacked (tracking (toFeeder .trip .stageShed) (judged .ready)), positionReport 0x0403 9 0 0 0, .feeder 31,
         some (toFeeder .trip .stageShed)),
       (judged .plain, positionReport 0x0403 0 1 0 1, .feeder 31, none),
       (tracking trip (judged .plain), positionReport 0x0403 0 1 0 1, .feeder 31, some trip),
       (tracking trip (judged .frozen), positionReport 0x0403 0 1 0 1, .feeder 31, some trip),
       (tracking { trip with frozenUsed := 100 } (judged .frozen), positionReport 0x0403 0 1 0 1, .feeder 31,
         some { trip with frozenUsed := 100 }),
       (balanced (inhibited (tracking { trip with inhibit := some 3 } (judged .frozen))), positionReport 0x0403 0 1 0 0, .feeder 31,
         some { trip with inhibit := some 3 })]
    ∀ x ∈ cases.zipIdx, let s := x.1.1; let t := x.1.2.1; let target := x.1.2.2.1; let flag := fun n => (octet t.body 3).getLsbD n
      Reached s ∧ Good t ∧ t.kind = kindPositionReport ∧ recordOf s t.sender = some target ∧ s.lastPosOf target = none ∧
      (s.units[(15 : Fin 16)]).kind = .pv ∧ SheetKept ((passedOn .a (frameOf t) t s).deviceReported target t) ∧ s.orders.queue = [] ∧
      s.slotOf target = x.1.2.2.2 ∧ (x.2 < 7 ↔ octet t.body 0 = 9) ∧ (x.2 < 7 → flag 0 = s.targetInhibit target) ∧
      (x.2 = 1 ↔ flag 1 = true) ∧ StackKept s ∧ (x.2 = 6 ↔ s.shed.stack ≠ []) ∧ s.shed.permission = false ∧ s.dispatch.restoreWait = none ∧
      ((s.profiles[(15 : Fin 16)]).waitMode = .ready ↔ x.2 = 4 ∨ x.2 = 5 ∨ x.2 = 6) ∧
      ((s.profiles[(15 : Fin 16)]).waitMode = .frozen ↔ 9 ≤ x.2) ∧
      (9 ≤ x.2 → (s.targetInhibit target = true ↔ flag 0 = false)) := by decide +kernel

/-! ## Witnesses: the Crank Arbiter and Diesel Dispatch -/

/-- Genset 15 in this state and mode, with its state timer due. -/
def gensetAt (state : GensetState) (mode : Mode) : State := balanced <| withUnit 15
  { genset state with
    mode := mode, cycle := some 7
    genset := { state := state, timer := some 0, startCause := .deficit, attempts := 1,
                lockout := if state = .lockedOut then .startFail else .absent } } linked

/-- The arbiter holds these. -/
def withArbiter (a : Arbiter) (s : State) : State := { s with arbiter := a }

theorem witness_OperatorCrankWaitsItsTurn :
    let held := withArbiter { state := .granted, grant := some ⟨3, .deficit, 0⟩ }
    let present := withArbiter { state := .granted, grant := some ⟨15, .deficit, 0⟩ }
    let free := gensetAt .unavailable .manual
    (∀ s ∈ [gensetAt .stopped .manual, held free, present free, free],
      Made s 8 2 15 0 (put8 2 ++ putZeros 7) .operate ∧ (s.units[(15 : Fin 16)]).mode = .manual) ∧
    (gensetAt .stopped .manual).inState 15 .unavailable = false ∧ (held free).inState 15 .unavailable = true ∧
      (15 : Fin 16) ∉ (held free).arbiter.units ∧ (15 : Fin 16) ∈ (present free).arbiter.units ∧
      (held free).arbiter.state ≠ .free ∧
      ((15 : Fin 16) ∉ free.arbiter.units ∧ free.arbiter.state = .free ∧ TakesAlone free (.unit 15)) := by
  refine ⟨fun s hs => ?_, by decide +kernel⟩
  have r : Reached s ∧ (s.units[(15 : Fin 16)]).mode = .manual := by revert s; decide +kernel
  exact ⟨asked r.1 (by decide +kernel), r.2⟩

/-- Two requests in the batch or in the Waiting Set; the hold-off due with no one waiting, with an operator's request, with one of a
genset in START_QUEUED and with one of a genset that is not. -/
theorem witness_HoldOffEndGrantsInOrder :
    let two : List CrankRequest := [⟨3, .operator, 0⟩, ⟨1, .deficit, 0⟩]
    let due := fun (r : CrankRequest) (state : GensetState) =>
      withArbiter { state := .holdoff, holdOff := some 0, batch := [r] } (gensetAt state .auto)
    (∃ r rest, (withArbiter { batch := two } linked).arbiter.batch = r :: rest) ∧
      ((withArbiter { waiting := two } linked).arbiter.batch = [] ∧ (withArbiter { waiting := two } linked).arbiter.waiting ≠ []) ∧
      (Quiet linked ∧ linked.arbiter.holdOff ≠ some 0) ∧
      (let s := withArbiter { state := .holdoff, holdOff := some 0 } linked
       Quiet s ∧ s.arbiter.holdOff = some 0 ∧ s.arbiter.batch = [] ∧ s.arbiter.waiting = []) ∧
      (∀ x ∈ [((⟨15, .operator, 7⟩ : CrankRequest), GensetState.unavailable), (⟨15, .deficit, 0⟩, .startQueued), (⟨15, .deficit, 0⟩, .stopped)],
        let s := due x.1 x.2
        Quiet s ∧ s.arbiter.holdOff = some 0 ∧ s.arbiter.batch = x.1 :: [] ∧ TakesAlone s (.unit 15) ∧ SheetKept s ∧
        s.inState 15 x.2 = true) := by
  refine ⟨⟨_, _, rfl⟩, by decide +kernel⟩

theorem witness_StateTimersEndTheirStates :
    (∀ state ∈ [GensetState.crankRest, .warming, .cooldown], let s := gensetAt state .auto
      Quiet s ∧ (s.genset 15).timer = some 0 ∧ SheetKept s ∧ s.inState 15 state = true ∧ (s.genset 15).startCause.cls = some .deficit ∧
      (15 : Fin 16) ∉ s.arbiter.units ∧ s.arbiter.state = .free ∧ TakesAlone s (.unit 15) ∧ stopWanted s = none ∧
      s.inState 0 .crankRest = false ∧ s.inState 0 .warming = false ∧ s.inState 0 .cooldown = false) ∧
    (withArbiter { state := .holdoff, holdOff := some 3 } (gensetAt .crankRest .auto)).arbiter.state ≠ .free := by decide +kernel

/-- Genset 15 in this state and mode, cooling down for a second, and a reference that gives the frequency. -/
def reporting (state : GensetState) (mode : Mode) : State :=
  let g := genset state
  let s := metered (withUnit 15
    { g with mode := mode, cooldown := 0x4A, genset := { state := state, lockout := if state = .lockedOut then .startFail else .absent } } linked)
  balanced { s with sheet := { s.sheet with freq := some 49900 } }

/-- Every state in both modes with a report that the statement gives a move for: of a breaker CLOSED or OPENED and an engine FIRING,
STOPPED or FAULTED. -/
theorem witness_GensetFollowsItsReports :
    (∀ state ∈ gensetStatesByCode, ∀ mode ∈ [Mode.auto, .manual], let s := reporting state mode
      Reached s ∧ recordOf s 0x0301 = some (.unit 15) ∧ (s.units[(15 : Fin 16)]).kind = .genset ∧
      (s.units[(15 : Fin 16)]).lastPos = none ∧ (s.units[(15 : Fin 16)]).inhibit = false ∧ DispatchCalm s 15 ∧
      timeMs (s.units[(15 : Fin 16)]).cooldown ≠ 0 ∧ (s.genset 15).state = state ∧ (s.units[(15 : Fin 16)]).isLocal = false) ∧
    (∀ breaker ∈ [0, 1], ∀ engine ∈ [1, 4, 6], let t := positionReport 0x0301 0 breaker engine 0
      Good t ∧ t.kind = kindPositionReport ∧ octet t.body 0 = 0 ∧ (octet t.body 3).getLsbD 0 = false) ∧
    (let lost := computeSheet ((reporting .online .auto).modGenset 15 fun g => { g with state := .lockedOut, lockout := .breakerTrip })
     let free := { (reporting .online .auto) with banks := (reporting .online .auto).banks.set 0 { defaultBank false with baseReserve := 0 } }
     lost.req = 500 ∧ (computeSheet (free.modGenset 15 fun g => { g with state := .lockedOut })).req + free.bank.startMargin ≤
       (computeSheet (free.modGenset 15 fun g => { g with state := .lockedOut })).exp) := by decide +kernel

/-- An order of Dispatch of this kind to genset 15, in this state, is out, its deadline over; it has been seen done or not. -/
def dispatched (state : GensetState) (kind : OrderKind) (cause : StartCause) (seen : Bool) : State × Slot :=
  let x : Slot := { order := orderTo (.unit 15) kind .dispatch, tag := 9, deadline := 0, seen := seen }
  let s := tracking x (reporting state .auto)
  let s := s.modUnit 15 fun r => { r with
    warmUp := 0x4A, genset := { r.genset with startCause := cause, outstanding := some kind, attempts := 1 } }
  ({ s with profiles := (s.profiles.set 15 { holdOff := 0x4A }).set 1 { cycle := 0x4A, attempts := 2 } }, x)

/-- Each state with the order it calls for, CONFIRMED and TIMED_OUT; a LOAD; and an order that the state does not call for. -/
theorem witness_OrderTimersEndTheirOrders_gensets :
    ∀ x ∈ [(GensetState.closing, OrderKind.close), (.unloading, .unload), (.opening, .opn), (.stopping, .stop), (.online, .load),
        (.unavailable, .stop)], ∀ seen ∈ [true, false], let y := dispatched x.1 x.2 .deficit seen
      SlotExpires y.1 9 y.2 (if seen then .confirmed else .timedOut) (.deadlineExpiry 9) ∧ y.2.order.target = .unit 15 ∧
      y.2.order.cause = .dispatch ∧ (y.1.units[(15 : Fin 16)]).kind = .genset ∧ SheetKept y.1 ∧
      DispatchCalm { y.1 with arbiter := {} } 15 ∧ (15 : Fin 16) ∉ y.1.arbiter.units ∧ (y.1.genset 15).state = x.1 ∧
      timeMs (y.1.units[(15 : Fin 16)]).cooldown ≠ 0 ∧
      TakesAlone (y.1.slotEnds y.2 .confirmed (y.1.orders.counters.ended .confirmed)) (.unit 15) := by decide +kernel

/-- The values of the entries of this kind in the Event Record after the command. -/
def logged (c : Instr) (s : State) (kind : EventKind) : Option (List Int) :=
  match exec c s with
  | .next t => some ((t.record.entries.filter (·.kind = kind)).map (·.value))
  | _ => none

/-- R172: START_FAIL of a CLOSE that times out carries the attempts of its start: one, and none for a start from COOLDOWN, which still
shows the one of the crank before it. -/
theorem test_start_fail_attempts :
    let lost := fun (fromCooldown : Bool) =>
      logged (.deadlineExpiry 9) ((dispatched .closing .close .deficit false).1.modGenset 15 fun g => { g with fromCooldown := fromCooldown })
        .startFail
    lost false = some [1] ∧ lost true = some [0] := by decide +kernel

/-- A CRANK out to genset 15 under its grant, at this attempt of two. -/
def cranked (cause : StartCause) (seen : Bool) (attempts : Nat) : State × Slot :=
  let y := dispatched .cranking .crank cause seen
  (withArbiter { state := .granted, grant := some ⟨15, .deficit, 0⟩, waiting := [⟨0, .deficit, 0⟩] }
    (y.1.modGenset 15 fun g => { g with attempts := attempts }), y.2)

/-- A CRANK of each start cause, CONFIRMED and TIMED_OUT, at the last attempt too. -/
theorem witness_OrderTimersEndTheirOrders_cranks :
    ∀ cause ∈ [StartCause.absent, .deficit], ∀ seen ∈ [true, false], ∀ attempts ∈ [1, 2], let y := cranked cause seen attempts
      SlotExpires y.1 9 y.2 (if seen then .confirmed else .timedOut) (.deadlineExpiry 9) ∧ SheetKept y.1 ∧
      DispatchCalm { y.1 with arbiter := {} } 15 ∧ y.2.order.kind = .crank ∧ (y.1.genset 15).state = .cranking ∧
      y.1.arbiter.grant = some ⟨15, .deficit, 0⟩ ∧ (∀ w ∈ y.1.arbiter.batch ++ y.1.arbiter.waiting, w.unit ≠ 15) ∧
      (y.1.genset 15).startCause = cause := by decide +kernel

/-- Its durations and attempts; and a CRANK whose inhibit timer is over. -/
theorem witness_OrderTimersEndTheirOrders_rests :
    (∀ attempts ∈ [1, 2], let y := cranked .deficit false attempts
      let start := y.1.profiles[(1 : Fin 16)]
      timeMs (y.1.profiles[y.2.order.profile]).holdOff ≠ 0 ∧ timeMs (y.1.units[(15 : Fin 16)]).warmUp ≠ 0 ∧
      timeMs (y.1.units[(15 : Fin 16)]).cooldown ≠ 0 ∧ (y.1.units[(15 : Fin 16)]).startProfile = 1 ∧
      ((y.1.genset 15).attempts < start.attempts ↔ attempts = 1) ∧ max (timeMs start.cycle) start.deadline - start.deadline ≠ 0) ∧
    (let y := dispatched .cranking .crank .deficit false
     let x := { y.2 with inhibit := some 0 }
     SlotExpires (tracking x y.1) 9 x .inhibited (.inhibitTimerExpiry 9)) := by decide +kernel

/-- An order to feeder 31 of this kind and cause is out, its deadline over. -/
def answeredLate (kind : OrderKind) (cause : OrderCause) (seen : Bool) (s : State) : State × Slot :=
  let x : Slot := { order := { orderTo (.feeder 31) kind cause with step := s.seq.serial }, tag := 9, deadline := 0, seen := seen }
  (balanced (tracking x (withFeeder 31 { feeder with owner := if cause = .restore then .shed else .sequencer } s)), x)

/-- A RESTORE CLOSE of the feeder under restoration and of another, CONFIRMED and TIMED_OUT. -/
theorem witness_OrderTimersEndTheirOrders_restoration :
    ∀ seen ∈ [true, false], ∀ under ∈ [some (31 : Fin 32), none],
      let y := answeredLate .close .restore seen
        { linked with shed := { linked.shed with stack := [⟨31, 120, .stage, true⟩], underRestore := under } }
      SlotExpires y.1 9 y.2 (if seen then .confirmed else .timedOut) (.deadlineExpiry 9) ∧ y.2.order.target = .feeder 31 ∧
      y.1.orders.queue = [] ∧ y.2.order.kind = .close ∧ y.2.order.cause = .restore ∧ y.1.shed.underRestore = under ∧
      y.1.dispatch.restoreWait = none ∧ y.1.dispatch.stopTimer = none ∧ (∀ u : Fin 16, y.1.inState u .online = false) ∧
      SheetKept y.1 ∧ y.1.shed.permission = false := by decide +kernel

/-- An order of the step of this kind at 46, that waits for it and for this one. -/
def stepped (kind : StepKind) (other : Option OrderEnd) (seen : Bool) : State × Slot :=
  let s := withStep 46 { kind := kind, operand := 31, onFail := .hold } (withStep 47 { kind := .waitTime, time := 1 } linked)
  answeredLate (if kind = .closeFeeder then .close else .trip) .sequencer seen
    { s with seq := { s.seq with state := .running, position := 46, progress := { orders := [⟨0, other⟩, ⟨31, none⟩] } } }

/-- The orders of the two steps: the CLOSE, a TRIP that is not the last, the last one, and a failed one under HOLD; and an order of a
run that is over. -/
theorem witness_OrderTimersEndTheirOrders_steps :
    (∀ kind ∈ [StepKind.closeFeeder, .openFeeders], ∀ other ∈ [none, some OrderEnd.confirmed], ∀ seen ∈ [true, false],
      let y := stepped kind other seen
      SlotExpires y.1 9 y.2 (if seen then .confirmed else .timedOut) (.deadlineExpiry 9) ∧ y.2.order.target = .feeder 31 ∧
      y.1.orders.queue = [] ∧ y.2.order.cause = .sequencer ∧ y.2.order.step = y.1.seq.serial ∧ y.1.inRun = true ∧
      y.1.seq.progress.orders = [⟨0, other⟩, ⟨31, none⟩]) ∧
    (answeredLate .close .sequencer true linked).1.inRun = false := by decide +kernel

theorem witness_OrderTimersEndTheirOrders_runs :
    ∀ kind ∈ [StepKind.closeFeeder, .openFeeders], let s := (stepped kind none true).1
      s.seq.progress.ended = false ∧ s.seq.state = .running ∧ s.shed.barrier = .idle ∧ s.seq.position.val + 1 = 47 ∧
      WaitStep s.seq 47 ∧ (s.seq.program[s.seq.position]).kind = kind ∧ (s.seq.program[s.seq.position]).onFail = .hold ∧
      s.seq.stack.length < 4 := by decide +kernel

/-- Gensets 0 and 15 ONLINE, a reference of 49,900 mHz, and the stop timer of genset 15 due. -/
def stopping : State :=
  let s := withSource 63 { publisher .reference 0 with f := some 49900 } (withUnit 0 (genset .online) (gensetAt .online .auto))
  balanced { s with dispatch := { s.dispatch with stopTimer := some ⟨15, 0⟩ }, freqSource := .reference 63 }

theorem witness_StopCandidateIsTheLastInRank : stopCandidate stopping = some 15 ∧ stopCandidate linked = none := by decide +kernel

theorem witness_StopTimerExpiryUnloads :
    (Quiet stopping ∧ stopping.dispatch.stopTimer = some ⟨15, 0⟩ ∧ stopping.inState 15 .online = true ∧ SheetKept stopping ∧
      TakesAlone stopping (.unit 15) ∧
      sourceChoice (stopping.modGenset 15 fun g => { g with state := .unloading, timer := none }) = stopping.freqSource) ∧
    (let gone := { gensetAt .opening .auto with dispatch := { timer := 7, stopTimer := some ⟨15, 0⟩ } }
     Quiet gone ∧ gone.dispatch.stopTimer = some ⟨15, 0⟩ ∧ gone.inState 15 .online = false) ∧
    linked.dispatch.stopTimer = none := by decide +kernel

/-- Gensets 0 and 15 ONLINE, this P of genset 0 so far, this stop timer and this stop margin; entry 63 publishes genset 0. -/
def unloading (p : Option Int) (timer : Option StopTimer) (margin : Nat) : State :=
  let s := withSource 0 { publisher .reference 0 with publisher := 0x0502, f := some 49900 } <|
    withSource 63 (publisher .unit 0) (withUnit 0 { genset .online with p := p, f := some 49900 } (gensetAt .online .auto))
  balanced { s with
    banks := s.banks.set 0 { defaultBank false with baseReserve := 0, stopMargin := margin }, freqSource := .reference 0
    dispatch := { s.dispatch with stopTimer := timer } }

/-- A report of 100 kW: the conditions hold with the timer idle, running for another genset and for the candidate; they fail; and the
reserve stays. -/
theorem witness_StopTimerExpiryUnloads_test :
    let r := sampleReport 0x0501 0 [(1, 100)]
    let taken := fun (s : State) => (match exec (.sampleReport .a (frameOf r)) s with | .next t => t | _ => s)
    (Good r ∧ r.kind = kindSampleReport ∧ read8 r.body 4 = 0) ∧
    (∀ x ∈ ([(none, none, 0), (none, some ⟨0, 5⟩, 0), (none, some ⟨15, 5⟩, 0), (none, some ⟨15, 5⟩, 65535), (some 100, none, 0)] :
        List (Option Int × Option StopTimer × Nat)),
      let s := unloading x.1 x.2.1 x.2.2
      Reached s ∧ From63 s r ∧ (s.sources[(63 : Fin 64)]).fresh = true ∧ (s.sources[(63 : Fin 64)]).lastSeq = some 0 ∧
      (s.sources[(63 : Fin 64)]).role = .unit ∧ (s.sources[(63 : Fin 64)]).target = 0 ∧ SheetKept s ∧
      s.freqSource = .reference 0 ∧ (s.units[(0 : Fin 16)]).f ≠ none ∧ timeMs s.bank.stopDelay ≠ 0 ∧ s.shed.permission = false ∧
      s.dispatch.stopTimer = x.2.1 ∧ ((taken s).sheet.res = s.sheet.res ↔ x.1 = some 100) ∧
      (StopHolds (taken s) 15 ↔ x.2.2 = 0)) := by decide +kernel

/-- Genset 15 in this state, its order owed, the dispatch timer due, and this much reserve. -/
def evaluated (state : GensetState) (owed : Option OrderKind) (exp : Int) (arbiter : ArbState) : State :=
  let s := withUnit 15 { genset state with cycle := some 7, genset := { state := state, owed := owed } } linked
  withArbiter { state := arbiter } { s with dispatch := { timer := 0 }, sheet := { computeSheet s with exp := exp } }

theorem witness_EvaluationTimersStartAgain :
    let s := { busy with dispatch := { busy.dispatch with timer := 0 }, curtailTimer := 0, sheet := { busy.sheet with exp := 500 } }
    let held := { s with orders := { s.orders with queueHigh := true } }
    let plain := { linked with dispatch := { timer := 0 }, curtailTimer := 0, sheet := { linked.sheet with exp := 500 } }
    let curtailing := { withUnit 15 { plant (some 600) with cycle := some 7, breaker := .closed } linked with curtailTimer := 0 }
    (Quiet linked ∧ linked.dispatch.timer ≠ 0 ∧ linked.curtailTimer ≠ 0) ∧
    (Quiet s ∧ s.dispatch.timer = 0 ∧ s.sheet.req + s.bank.startMargin ≤ s.sheet.exp ∧ s.dispatch.restoreWait = none ∧
      ∀ u : Fin 16, (s.genset u).owed = none ∧ (s.inState u .online = true → (s.units[u]).unloaded = false)) ∧
    (Quiet held ∧ held.curtailTimer = 0 ∧ held.orders.queueHigh = true) ∧
    (Quiet plain ∧ plain.curtailTimer = 0 ∧ ∀ u : Fin 16, (plain.units[u]).participating = false) ∧
    (Quiet curtailing ∧ curtailing.curtailTimer = 0 ∧ curtailing.orders.queueHigh = false ∧ curtailing.orders.queue = [] ∧
      curtailing.settings.queueOffset ≤ 15 ∧ (curtailing.units[(15 : Fin 16)]).participating = true ∧
      ∀ u : Fin 16, (curtailing.units[u]).participating = true → (curtailing.units[u]).cycle ≠ none) ∧
    (let mirrored := withUnit 2 { plant none with pv := { mirrorValid := true, mirrorExpiry := some 0 } } linked
     Quiet mirrored ∧ (mirrored.units[(2 : Fin 16)]).kind = .pv ∧ (mirrored.units[(2 : Fin 16)]).pv.mirrorValid = true ∧
      (mirrored.units[(2 : Fin 16)]).pv.mirrorExpiry = some 0 ∧ (mirrored.partTime - 0).toNat < 2 ^ 31) ∧
    choose stopping 500 [0, 15] = [0] := by decide +kernel

/-- An order owed in CRANKING and in STOPPING, and a start from STOPPED and from COOLDOWN. -/
theorem witness_EvaluationTimersStartAgain_acts :
    (∀ x ∈ [evaluated .cranking (some .crank) 500 .free, evaluated .stopping (some .stop) 500 .free],
      Quiet x ∧ x.dispatch.timer = 0 ∧ x.sheet.req + x.bank.startMargin ≤ x.sheet.exp ∧ x.dispatch.restoreWait = none ∧
      (x.genset 15).owed ≠ none ∧ (∀ v : Fin 16, v ≠ 15 → (x.genset v).owed = none) ∧ TakesAlone x (.unit 15)) ∧
    (∀ x ∈ [evaluated .stopped none 0 .granted, evaluated .cooldown none 0 .free], let y := balanced x
      Quiet y ∧ y.dispatch.timer = 0 ∧ y.sheet.exp < y.sheet.req + y.bank.startMargin ∧ y.dispatch.restoreWait = none ∧ SheetKept y ∧
      (∀ u : Fin 16, (y.genset u).owed = none ∧ y.inState u .unloading = false ∧ y.inState u .online = false) ∧
      (∀ v : Fin 16, ((y.inState v .stopped = true ∨ y.inState v .cooldown = true) ∧ (y.units[v]).device ≠ 0) ↔ v = 15) ∧
      (15 : Fin 16) ∉ y.arbiter.units ∧ TakesAlone y (.unit 15)) := by decide +kernel

theorem witness_EvaluationTimersStartAgain_calm :
    ∀ x ∈ [evaluated .stopped none 0 .granted, evaluated .cooldown none 0 .free], restoreTest (balanced x) = balanced x := by
  decide +kernel

/-- An ONLINE genset that reports UNLOADED, and an UNLOADING one to be recalled. -/
theorem witness_EvaluationTimersStartAgain_loads :
    (let s := (evaluated .online none 500 .free).modUnit 15 fun r => { r with unloaded := true }
     Quiet s ∧ s.dispatch.timer = 0 ∧ s.sheet.req + s.bank.startMargin ≤ s.sheet.exp ∧ s.dispatch.restoreWait = none ∧
      (∀ v : Fin 16, (s.genset v).owed = none) ∧ s.inState 15 .online = true ∧ (s.units[(15 : Fin 16)]).unloaded = true ∧
      (s.genset 15).outstanding = none ∧ (∀ v : Fin 16, v ≠ 15 → s.inState v .online = false) ∧ TakesAlone s (.unit 15)) ∧
    (let y := evaluated .unloading none 0 .free
     let s := balanced (withSource 63 { publisher .reference 0 with f := some 49900 }
       { y with dispatch := { timer := 0, restoreWait := some 600 }, freqSource := .reference 63 })
     Quiet s ∧ s.dispatch.timer = 0 ∧ s.dispatch.restoreWait = some 600 ∧
      s.sheet.exp < s.sheet.req + s.bank.startMargin + (600 + s.bank.restoreMargin) ∧ SheetKept s ∧
      (∀ v : Fin 16, (s.genset v).owed = none) ∧ s.inState 15 .unloading = true ∧ (s.genset 15).want = false ∧
      (∀ v : Fin 16, v ≠ 15 → s.inState v .unloading = false ∧ s.inState v .online = false) ∧ candidates s = [] ∧
      sourceChoice (s.modGenset 15 fun g => { g with state := .online }) = s.freqSource ∧ TakesAlone s (.unit 15)) := by
  decide +kernel

/-- A genset in LOCKED_OUT that is MANUAL, one that is LOCAL, and one for each derived state. -/
theorem witness_ClearLockoutFreesTheGenset :
    let locked := fun (mode : Mode) (isLocal : Bool) (pos : Option TelSeq) (engine : Engine) (breaker : Breaker) =>
      balanced ((reporting .lockedOut mode).modUnit 15 fun r =>
        { r with isLocal := isLocal, lastPos := pos, engine := engine, breaker := breaker })
    (Made linked 9 0 16 0 [] .clearLockout ∧ Made linked 9 0 15 0 [] .clearLockout ∧ linked.inState 15 .lockedOut = false) ∧
    ∀ s ∈ [locked .manual false none .absent .unknown, locked .auto true (some 1) .firing .closed,
        locked .auto false none .absent .unknown, locked .auto false (some 1) .stopped .opened,
        locked .auto false (some 1) .firing .closed, locked .auto false (some 1) .firing .opened],
      Made s 9 0 15 0 [] .clearLockout ∧ s.inState 15 .lockedOut = true ∧ SheetKept s ∧ AtRest s ∧
      (15 : Fin 16) ∉ s.arbiter.units ∧ (s.genset 15).want = false ∧ timeMs (s.units[(15 : Fin 16)]).cooldown ≠ 0 ∧
      (∀ state ∈ [GensetState.unknown, .stopped, .online, .cooldown],
        sourceChoice ((admitted s).modGenset 15 fun g => { g with state := state }) = s.freqSource) := by
  refine ⟨⟨asked (by decide +kernel) (by decide +kernel), asked (by decide +kernel) (by decide +kernel), by decide +kernel⟩,
    fun s h => ?_⟩
  have r : Reached s := by revert s; decide +kernel
  exact ⟨asked r (by decide +kernel), by revert s; decide +kernel⟩

/-- Entry 63 is a FRESH publisher of this role, for feeder 31. -/
def from63 (role : Role) (s : State) : State := withSource 63 { publisher role 31 with staleTimer := some 5 } s

/-- The air hold-off with genset 15 in this state and these in the batch. -/
def restingAir (state : GensetState) (batch : List CrankRequest) : State :=
  let s := from63 .air (withArbiter { state := .holdoff, holdOff := some 5, batch := batch } (gensetAt state .auto))
  { s with settings := { s.settings with airReady := 700 } }

/-- The freshness barrier counts the reports for feeder 31. -/
def counting (used : Bool) (n : Nat) : State :=
  let s := from63 .feeder (withFeeder 31 { feeder with used := used } linked)
  balanced { s with shed := { s.shed with barrier := .counting 31 .restoration n } }

/-- The hold-off with no one waiting, with a genset in START_QUEUED and with one that is not, at the air ready pressure and below. -/
theorem witness_AcceptedSampleWritesItsRecord_press :
    (∀ press ∈ ([699, 700] : List Int), let r := sampleReport 0x0501 0 [(7, press)]
      Good r ∧ r.kind = kindSampleReport ∧ read8 r.body 4 = 0 ∧
      (sampleItems r.body).find? (fun x => x.1 = 7) = some (7, press)) ∧
    (∀ x ∈ [(GensetState.stopped, ([] : List CrankRequest)), (.stopped, [⟨15, .deficit, 0⟩]), (.startQueued, [⟨15, .deficit, 0⟩])],
      let s := restingAir x.1 x.2
      Reached s ∧ From63 s (sampleReport 0x0501 0 [(7, 700)]) ∧ (s.sources[(63 : Fin 64)]).fresh = true ∧
      (s.sources[(63 : Fin 64)]).role = .air ∧ newerOrFirst 1 (s.sources[(63 : Fin 64)]).lastSeq = true ∧
      s.arbiter.state = .holdoff ∧ s.settings.airReady = 700 ∧ s.arbiter.batch = x.2 ∧ s.arbiter.waiting = [] ∧
      s.inState 15 x.1 = true ∧ SheetKept s ∧ TakesAlone s (.unit 15)) := by decide +kernel

theorem witness_AcceptedSampleWritesItsRecord_counting :
    ∀ used ∈ [true, false], ∀ n ∈ [0, 1], let s := counting used n
      Reached s ∧ From63 s (sampleReport 0x0501 0 [(7, 700)]) ∧ (s.sources[(63 : Fin 64)]).fresh = true ∧
      (s.sources[(63 : Fin 64)]).role = .feeder ∧ (s.sources[(63 : Fin 64)]).target = 31 ∧ SheetKept s ∧
      timeMs s.bank.stepInterval ≠ 0 ∧ (s.feeders[(31 : Fin 32)]).used = used ∧
      s.shed.barrier = .counting 31 .restoration n := by decide +kernel

/-! ## Witnesses: Shedding and Restoration -/

/-- The timer of stage 8 due, with this entry in the Shed Table, and feeder 31 eligible. -/
def staged (e : ShedEntry) : State :=
  let s := withFeeder 31 feeder linked
  { s with shed := { s.shed with stageTimers := s.shed.stageTimers.set 7 (some 0), table := s.shed.table.set 31 e } }

theorem witness_StageTimerExpiryTripsTheStage :
    (∀ s ∈ [staged {}, staged { feeder := some 31, stage := 7 }],
      Quiet s ∧ s.shed.stageTimers[(7 : Fin 8)] = some 0 ∧ s.shed.stageTimers[(0 : Fin 8)] ≠ some 0 ∧ s.inRun = false) ∧
    (∀ k : Fin 32, ((staged {}).shed.table[k]).feeder = none ∨ ((staged {}).shed.table[k]).stage ≠ 7) ∧
    (let s := staged { feeder := some 31, stage := 7 }
     (s.shed.table[(31 : Fin 32)]).feeder = some 31 ∧ (s.shed.table[(31 : Fin 32)]).stage = 7 ∧
      (∀ j : Fin 32, j ≠ 31 → (s.shed.table[j]).feeder = none ∨ (s.shed.table[j]).stage ≠ 7) ∧
      eligibleFeeder s 31 = true ∧ s.shed.underRestore = none ∧ s.orders.queue = [] ∧ s.orders.queueHigh = false ∧
      s.settings.queueOffset ≤ 30 ∧ s.orders.tracker = [] ∧ (s.feeders[(31 : Fin 32)]).inhibit = false ∧
      (let out : Slot := { order := orderTo (.feeder 31) .close .operator, tag := 9, deadline := 5 }
       (tracking out s).orders.tracker = [out] ∧ (tracking out s).orders.queue = [] ∧ eligibleFeeder (tracking out s) 31 = true)) ∧
    (let plain := staged { feeder := some 31, stage := 7 }
     let s := withFeeder 0 feeder { plain with shed := { plain.shed with
       table := plain.shed.table.set 0 { feeder := some 0, stage := 7, condition := .skipNextIfTaken } } }
     (0 : Fin 32) < 31 ∧ (s.shed.table[(0 : Fin 32)]).feeder = some 0 ∧ (s.shed.table[(31 : Fin 32)]).feeder = some 31 ∧
      (s.shed.table[(0 : Fin 32)]).stage = 7 ∧ (s.shed.table[(31 : Fin 32)]).stage = 7 ∧
      (∀ l : Fin 32, l ≠ 0 → l ≠ 31 → (s.shed.table[l]).feeder = none ∨ (s.shed.table[l]).stage ≠ 7) ∧ s.orders.tracker = [] ∧
      (s.feeders[(0 : Fin 32)]).inhibit = false ∧ eligibleFeeder s 0 = true ∧ eligibleFeeder s 31 = true) := by decide +kernel

/-- A trip in a run: it is suspended with a record of its own, above another, and the record is popped at once while permission is
granted. -/
theorem witness_StageTimerExpiryTripsTheStage_run :
    (∀ stack ∈ [[], [(⟨.operator, 0, none⟩ : Suspension)]], ∀ e ∈ [{}, ({ feeder := some 31, stage := 7 } : ShedEntry)],
      let s := withSeq (if stack = [] then .running else .suspended) stack (staged e)
      Quiet s ∧ s.shed.stageTimers[(7 : Fin 8)] = some 0 ∧ s.inRun = true ∧ s.seq.stack.length < 4 ∧ s.shed.permission = false ∧
      eligibleFeeder s 31 = true ∧ s.orders.tracker = []) ∧
    (∀ x ∈ [(SeqState.running, StepKind.startGenset), (.running, .closeFeeder), (.waiting, .waitTime)],
      let s := withStep 0 { kind := x.2 } (withSeq x.1 [] (staged {}))
      let s := { s with shed := { s.shed with permission := true } }
      Quiet s ∧ s.shed.stageTimers[(7 : Fin 8)] = some 0 ∧ s.shed.permission = true ∧ s.seq.stack = [] ∧
      s.seq.progress.ended = false ∧ s.seq.progress.pendingEnd = none ∧ s.seq.state = x.1 ∧
      (s.seq.program[s.seq.position]).kind = x.2 ∧ ∀ k : Fin 32, (s.shed.table[k]).feeder = none) := by decide +kernel

/-- RoCoF falling fast: eight samples, 10 ms and 40 mHz apart, the newest that of the report to come. -/
def falling (s : State) : State :=
  let s := metered s
  { s with history := (List.range 7).map fun k => ⟨49400 - 40 * k, BitVec.ofNat 32 (4294967295 - 70000 + 10000 * k)⟩ }

/-- Feeder 31 behind the only deficit entry, and this much covered by the stores. -/
def short (q : Int) : State :=
  let s := falling (withFeeder 31 feeder linked)
  { s with sheet := { s.sheet with cd := 1500, q := q }, shed := { s.shed with table := s.shed.table.set 31 { feeder := some 31, deficit := true } } }

/-- The deficit TRIP of feeder 31 out, its deadline over, and another feeder on top of the stack. -/
def unanswered : State :=
  let x : Slot := { order := { orderTo (.feeder 31) .trip .deficitShed with cls := .protective }, tag := 9, deadline := 0 }
  let s := tracking x (withFeeder 31 { feeder with owner := .shed, shedLoad := some 120 } linked)
  { s with shed := { s.shed with
      stack := [⟨31, 120, .deficit, false⟩, ⟨0, 5, .stage, true⟩], deficitLatch := true, progress := some ⟨32, [], .deficit⟩ } }

theorem witness_DeficitShedsUntilCovered :
    (let s := short 0
     s.shed.underRestore = none ∧ (∀ i j : Fin 32, i ≠ j → (s.shed.table[i]).feeder ≠ none →
        (s.shed.table[i]).feeder ≠ (s.shed.table[j]).feeder) ∧ (∀ i : Fin 32, (s.shed.table[i]).condition = .plain) ∧
      (s.shed.table[(31 : Fin 32)]).deficit = true ∧ eligibleFeeder s 31 = true) ∧
    (∀ q ∈ ([0, 100000] : List Int), let s := short q
      FreqReport s .a (frameOf (sampled 49100)) (sampled 49100) 63 49100 ∧
      ((s.sources[(63 : Fin 64)]).lastSeq = some 0 ∧ newer (sampled 49100).seq 0 = true) ∧ StagesQuiet s 49100 ∧
      49100 < s.bank.restoreFreq ∧ 49100 < s.bank.deficitArming ∧
      ((passedOn .a (frameOf (sampled 49100)) (sampled 49100) s).sampleTaken 63 (sampled 49100) 49100).sheet.rocof = some (-4285) ∧
      -4285 ≤ -(s.bank.deficitTrigger : Int) ∧ s.shed.deficitLatch = false ∧ s.inRun = false ∧ s.shed.underRestore = none ∧
      (s.shed.table[(31 : Fin 32)]).feeder = some 31 ∧ (s.shed.table[(31 : Fin 32)]).condition = .plain ∧
      (∀ l : Fin 32, l ≠ 31 → (s.shed.table[l]).feeder = none) ∧ eligibleFeeder s 31 = true ∧
      (s.feeders[(31 : Fin 32)]).inhibit = false ∧ s.orders.tracker = [] ∧ s.orders.queueHigh = false ∧
      s.settings.queueOffset ≤ 30) ∧
    (Quiet unanswered ∧ (unanswered.orders.tracker.find? fun y => y.tag = 9).isSome ∧ unanswered.orders.queue = [] ∧
      unanswered.shed.entryOf 31 = some ⟨31, 120, .deficit, false⟩ ∧ unanswered.shed.stack.getLast? = some ⟨0, 5, .stage, true⟩ ∧
      unanswered.shed.underRestore ≠ some 31 ∧ unanswered.shed.deficitLatch = true ∧
      unanswered.shed.progress = some ⟨32, [], .deficit⟩) := by
  refine ⟨by decide +kernel, fun q h => ?_, by decide +kernel⟩
  have r : Reached (short q) ∧ From63 (short q) (sampled 49100) := by revert q; decide +kernel
  have g : Good (sampled 49100) ∧ ((sampleItems (sampled 49100).body).find? fun x => x.1 = 2) = some (2, 49100) ∧
      (∀ x ∈ sampleItems (sampled 49100).body, x.1 ≠ 3) ∧ read8 (sampled 49100).body 4 = 0 := by decide +kernel
  refine ⟨⟨arrived r.1 g.1, rfl, r.2, rfl, ?_, ?_, ?_, g.2.2.2, g.2.1, g.2.2.1⟩, ?_⟩ <;> revert q <;> decide +kernel

/-- The same sample in a run, beside another suspension. -/
theorem witness_DeficitShedsUntilCovered_run :
    let s := withSeq .suspended [⟨.operator, 0, none⟩] (short 0)
    FreqReport s .a (frameOf (sampled 49100)) (sampled 49100) 63 49100 ∧ StagesQuiet s 49100 ∧ s.inRun = true ∧
      s.seq.stack.length < 4 ∧ eligibleFeeder s 31 = true ∧ s.shed.deficitLatch = false ∧ s.shed.underRestore = none := by
  have r : Reached (withSeq .suspended [⟨.operator, 0, none⟩] (short 0)) ∧
      From63 (withSeq .suspended [⟨.operator, 0, none⟩] (short 0)) (sampled 49100) := by decide +kernel
  have g : Good (sampled 49100) ∧ ((sampleItems (sampled 49100).body).find? fun x => x.1 = 2) = some (2, 49100) ∧
      (∀ x ∈ sampleItems (sampled 49100).body, x.1 ≠ 3) ∧ read8 (sampled 49100).body 4 = 0 := by decide +kernel
  refine ⟨⟨arrived r.1 g.1, rfl, r.2, rfl, ?_, ?_, ?_, g.2.2.2, g.2.1, g.2.2.1⟩, ?_⟩ <;> decide +kernel

/-- The restore delay due in a run suspended by these records, in a step of this kind. -/
def regained (kind : StepKind) (stack : List Suspension) : State :=
  balanced { withStep 0 { kind := kind } (withSeq .suspended stack linked) with shed := { linked.shed with restoreDelay := some 0 } }

/-- A PROTECTION record alone, over one of OPERATOR, over another of its own and with another bank, and an OPERATOR record on top. -/
theorem witness_RestoreTimersGrantAndFree_pops :
    (∀ kind ∈ [StepKind.startGenset, .closeFeeder, .waitTime],
      ∀ stack ∈ [[(⟨.protection, 0, some 5⟩ : Suspension)], [⟨.operator, 1, none⟩, ⟨.protection, 0, some 5⟩],
        [⟨.protection, 0, none⟩, ⟨.protection, 0, some 5⟩], [⟨.protection, 0, none⟩, ⟨.operator, 0, none⟩], [⟨.protection, 3, none⟩]],
      let s := regained kind stack
      Quiet s ∧ SuspensionKept s ∧ s.shed.restoreDelay = some 0 ∧ s.shed.stack = [] ∧ s.seq.stack = stack ∧ s.activeBank = 0 ∧
      s.seq.progress.ended = false ∧ s.seq.progress.pendingEnd = none ∧ (s.seq.program[s.seq.position]).kind = kind) ∧
    (let s := regained .waitTime [⟨.protection, 3, none⟩]
     let sheet := computeSheet { s with activeBank := 3 }
     s.orders.queue = [] ∧ (∀ i : Fin 8, s.shed.stageTimers[i] = none) ∧ s.dispatch.stopTimer = none ∧ s.seq.deadBusTimer = none ∧
      s.shed.barrier = .idle ∧ sheet.res = s.sheet.res ∧ sheet.req = s.sheet.req ∧ sheet.margin = s.sheet.margin ∧
      sheet.exp = s.sheet.exp) := by decide +kernel

theorem witness_RestoreTimersGrantAndFree :
    let delayed := { linked with shed := { linked.shed with restoreDelay := some 0 } }
    let stepping := fun owner (s : State) => { s with shed := { s.shed with barrier := .stepping 31 owner 0 } }
    let closing := fun (state : SeqState) => withStep 5 { kind := .closeFeeder, operand := 31 } <| withStep 6 { kind := .waitTime, time := 1 }
      { linked with seq := { linked.seq with state := state, position := 5 } }
    (Quiet linked ∧ linked.shed.restoreDelay ≠ some 0 ∧ linked.shed.barrier = .idle) ∧
    (Quiet delayed ∧ delayed.shed.stack = [] ∧ delayed.shed.restoreDelay = some 0 ∧ delayed.seq.stack = []) ∧
    (stepping .restoration linked).shed.barrier = .stepping 31 .restoration 0 ∧
    ((stepping .sequencer linked).shed.barrier = .stepping 31 .sequencer 0 ∧ (stepping .sequencer linked).inRun = false) ∧
    (∀ state ∈ [SeqState.suspended, .running], let s := stepping .sequencer (closing state)
      Quiet s ∧ s.shed.barrier = .stepping 31 .sequencer 0 ∧ (s.seq.program[s.seq.position]).kind = .closeFeeder ∧
      (s.seq.program[s.seq.position]).operand = 31 ∧ s.seq.progress.ended = false ∧ s.seq.state = state ∧
      s.seq.progress.pendingEnd = none ∧ s.seq.position.val + 1 = 6 ∧ WaitStep s.seq 6 ∧ s.orders.queue = []) := by
  decide +kernel

/-- Feeder 31 on top of the Shed Stack with this load, permission granted, and this margin. -/
def shedTop (load : Nat) (margin : Int) : State :=
  let s := withFeeder 31 { feeder with owner := .shed, breaker := .opened, cycle := some 7 } linked
  { s with sheet := { s.sheet with margin := margin },
           shed := { s.shed with stack := [⟨31, load, .stage, true⟩], permission := true } }

theorem witness_RestoreTestClosesTheTop :
    (∀ s ∈ [shedTop 120 220, shedTop 120 219],
      s.inRun = false ∧ s.shed.stack.getLast? = some ⟨31, 120, .stage, true⟩ ∧ s.shed.permission = true ∧
      s.shed.underRestore = none ∧ s.shed.barrier = .idle ∧ (s.feeders[(31 : Fin 32)]).holdOff = none) ∧
    min 1048575 (((120 : Nat) : Int) + linked.bank.restoreMargin) ≤ (shedTop 120 220).sheet.margin ∧
    ¬ min 1048575 (((120 : Nat) : Int) + linked.bank.restoreMargin) ≤ (shedTop 120 219).sheet.margin ∧
    ((shedTop 120 220).orders.queue = [] ∧ ((shedTop 120 220).feeders[(31 : Fin 32)]).cycle ≠ none) ∧
    linked.shed.stack.getLast? = none ∧ (withSeq .running [] linked).inRun = true := by decide +kernel

/-! ## Witnesses: the Sequencer -/

theorem witness_DeadBusTimerDeclaresBlackout :
    let due := fun (s : State) => { s with seq := { s.seq with deadBusTimer := some 0 } }
    let armed := due (withSeq .armed [] (withStep 0 { kind := .waitTime, time := 1 } (withFeeder 31 feeder linked)))
    (Quiet (due linked) ∧ (due linked).seq.deadBusTimer = some 0 ∧ (due linked).seq.state ≠ .armed ∧
      linked.seq.deadBusTimer ≠ some 0) ∧
    (Quiet armed ∧ armed.seq.deadBusTimer = some 0 ∧ armed.seq.state = .armed ∧ RunReady armed) := by decide +kernel

/-- Entry 63 is the primary reference; its dead-bus timer and declared flag, the dead-bus time of the bank, and a genset in this
state. -/
def watched (timer : Timer) (declared : Bool) (time : TimeCode) (state : GensetState) : State :=
  let s := withUnit 1 (genset state) (withSource 63 (publisher .reference 0) linked)
  { s with banks := s.banks.set 0 { defaultBank false with deadBusTime := time }
           seq := { s.seq with deadBusTimer := timer, declared := declared } }

/-- A U below the dead-bus voltage of 100 and at it; an idle timer, a running one, a declared spell, no dead-bus time, and a genset
ONLINE. -/
theorem witness_DeadBusTimerDeclaresBlackout_voltage :
    (∀ u ∈ ([99, 100, -1] : List Int), let r := sampleReport 0x0501 0 [(3, u)]
      Good r ∧ r.kind = kindSampleReport ∧ read8 r.body 4 = 0 ∧
      (sampleItems r.body).find? (fun x => x.1 = 3) = some (3, u) ∧ ∀ x ∈ sampleItems r.body, x.1 ≠ 2) ∧
    (∀ x ∈ ([(none, false, 0x82, .stopped), (some 5, false, 0x82, .stopped), (none, true, 0x82, .stopped), (none, false, 0, .stopped),
        (some 5, false, 0x82, .online)] : List (Timer × Bool × TimeCode × GensetState)),
      let s := watched x.1 x.2.1 x.2.2.1 x.2.2.2
      Reached s ∧ From63 s (sampleReport 0x0501 0 [(3, 99)]) ∧ s.primaryRef = some 63 ∧ (s.sources[(63 : Fin 64)]).fresh = true ∧
      newerOrFirst 1 (s.sources[(63 : Fin 64)]).lastSeq = true ∧ s.bank.deadBusVoltage = 100 ∧ s.seq.state ≠ .armed ∧
      s.seq.deadBusTimer = x.1 ∧ s.seq.declared = x.2.1 ∧ (s.inState 1 .online = true ↔ x.2.2.2 = .online)) := by decide +kernel

theorem witness_BeginRestoreStartsTheRun :
    let s := withStep 0 { kind := .waitTime, time := 1 } (withFeeder 31 feeder linked)
    (Made linked 12 0 0 0 [] .beginRestore ∧ (linked.seq.program[(0 : Fin 48)]).kind = .finish) ∧
    (Made (withSeq .waiting [] s) 12 0 0 0 [] .beginRestore ∧ (withSeq .waiting [] s).inRun = true) ∧
    (Made s 12 0 0 0 [] .beginRestore ∧ s.inRun = false ∧ RunReady s) :=
  ⟨⟨asked (by decide +kernel) (by decide +kernel), rfl⟩, ⟨asked (by decide +kernel) (by decide +kernel), rfl⟩,
    asked (by decide +kernel) (by decide +kernel), by decide +kernel⟩

/-- A run at this step of a program of WAIT_TIMEs that hold on a failure, the timers of the step due. -/
def running (at_ : Fin 48) (state : SeqState) (stack : List Suspension) : State := { linked with seq := { linked.seq with
  program := Vector.replicate 48 { kind := .waitTime, time := 1, onFail := .hold }
  position := at_, state := state, stack := stack, stepTimeout := some 0, progress := { waitTimer := some 0 } } }

theorem witness_WaitTimeExpiryEndsTheStep :
    (∀ k ∈ ([0, 46] : List (Fin 48)), let s := running k .waiting []
      Quiet s ∧ s.seq.state = .waiting ∧ s.seq.progress.waitTimer = some 0 ∧ s.seq.progress.ended = false ∧
      WaitStep s.seq 47 ∧ s.orders.queue = [] ∧ s.shed.barrier = .idle) ∧
    (let s := withFeeder 31 { feeder with owner := .sequencer, breaker := .opened } (withStep 47 {} (running 46 .waiting []))
     (s.seq.program[(47 : Fin 48)]).kind = .finish ∧ s.shed.permission = false ∧ ∀ u : Fin 16, (s.units[u]).participating = false) ∧
    (running 0 .suspended [⟨.operator, 0, none⟩]).seq.state ≠ .waiting ∧ linked.seq.progress.waitTimer ≠ some 0 := by
  decide +kernel

/-- The wait timer of step 44 due, this step at 45 and a WAIT_TIME at 46. -/
def beginning (step : StepRec) (s : State) : State :=
  withStep 45 { step with onFail := .hold } { s with seq := (running 44 .waiting []).seq }

/-- What the clauses on the steps but the failing ones ask of every state. -/
abbrev Begins (step : StepRec) (s : State) : Prop :=
  Quiet s ∧ s.seq.state = .waiting ∧ s.seq.progress.waitTimer = some 0 ∧ s.seq.progress.ended = false ∧ s.seq.position = 44 ∧
    s.orders.queue = [] ∧ s.shed.barrier = .idle ∧ s.seq.program[(45 : Fin 48)] = { step with onFail := .hold } ∧
    WaitStep s.seq 46 ∧ s.seq.stack.length < 4

/-- A feeder step that begins: the feeder of the run and of no run, in AUTO and in MANUAL, the frequency below the restore frequency,
at it and none. -/
theorem witness_WaitTimeExpiryEndsTheStep_feeders :
    ∀ kind ∈ [StepKind.openFeeders, .closeFeeder], ∀ owner ∈ [FeederOwner.sequencer, .free], ∀ mode ∈ [Mode.auto, .manual],
      ∀ freq ∈ ([none, some 49799, some 49800] : List (Option Nat)),
      let fed := withFeeder 31 { feeder with owner := owner, mode := mode } linked
      let s := beginning { kind := kind, operand := 31 } { fed with sheet := { fed.sheet with freq := freq } }
      Begins { kind := kind, operand := 31 } s ∧ TakesAlone s (.feeder 31) ∧ (s.feeders[(31 : Fin 32)]).owner = owner ∧
      (s.feeders[(31 : Fin 32)]).mode = mode ∧ s.sheet.freq = freq ∧ s.bank.restoreFreq = 49800 ∧
      ∀ j : Fin 32, j ≠ 31 → (s.feeders[j]).owner ≠ .sequencer := by decide +kernel

/-- A START_GENSET that begins: a genset ONLINE, LOCKED_OUT, one that waits, and a unit that is no genset. -/
theorem witness_WaitTimeExpiryEndsTheStep_gensets :
    ∀ state ∈ [GensetState.online, .lockedOut, .opening], ∀ operand ∈ ([1, 2] : List Nat),
      let s := beginning { kind := .startGenset, operand := operand } (withUnit 1 (genset state) linked)
      Begins { kind := .startGenset, operand := operand } s ∧ (s.units[(1 : Fin 16)]).kind = .genset ∧ s.inState 1 state = true ∧
      (s.units[(2 : Fin 16)]).kind ≠ .genset := by decide +kernel

/-- A START_GENSET that begins for a genset in STOPPED behind a hold-off, in COOLDOWN and in UNLOADING; and the wait of step 47. -/
theorem witness_WaitTimeExpiryEndsTheStep_starts :
    (∀ state ∈ [GensetState.stopped, .cooldown, .unloading],
      let s := beginning { kind := .startGenset, operand := 15 } (withArbiter { state := .holdoff, holdOff := some 9 } <|
        balanced (withUnit 15 { genset state with cycle := some 7 } (withSource 63 (publisher .reference 0) linked)))
      Begins { kind := .startGenset, operand := 15 } s ∧ s.inState 15 state = true ∧ SheetKept s ∧ TakesAlone s (.unit 15) ∧
      (15 : Fin 16) ∉ s.arbiter.units ∧ (s.genset 15).want = false ∧
      (∀ v : Fin 16, v ≠ 15 → s.inState v .unloading = false ∧ s.inState v .online = false) ∧
      sourceChoice (s.modGenset 15 fun g => { g with state := .online }) = s.freqSource) ∧
    (let s := running 47 .waiting []
     Quiet s ∧ s.seq.state = .waiting ∧ s.seq.progress.waitTimer = some 0 ∧ s.seq.progress.ended = false ∧ s.seq.position = 47 ∧
      s.orders.queue = [] ∧ s.shed.barrier = .idle ∧ s.shed.permission = false ∧
      ∀ u : Fin 16, (s.units[u]).participating = false) := by decide +kernel

/-- A step on the frequency, the reserve or the plants that begins: a frequency below the restore frequency, at it and none; a margin
at the operand and short of it. -/
theorem witness_WaitTimeExpiryEndsTheStep_levels :
    (∀ freq ∈ ([none, some 49799, some 49800] : List (Option Nat)),
      Begins { kind := .waitFreq } (beginning { kind := .waitFreq } { linked with sheet := { linked.sheet with freq := freq } })) ∧
    (∀ operand ∈ ([0, 1] : List Nat), let step : StepRec := { kind := .checkReserve, operand := operand }
      Begins step (beginning step { linked with sheet := { linked.sheet with margin := 0 } })) ∧
    Begins { kind := .releasePv } (beginning { kind := .releasePv } linked) ∧
    ∀ u : Fin 16, (linked.units[u]).participating = false := by decide +kernel

/-- A SELECT_BANK that begins: of the active bank and of another. -/
theorem witness_WaitTimeExpiryEndsTheStep_banks :
    ∀ b ∈ ([0, 3] : List (Fin 4)), let s := beginning { kind := .selectBank, operand := b.val } (balanced linked)
      let sheet := computeSheet { s with activeBank := b }
      Begins { kind := .selectBank, operand := b.val } s ∧ s.activeBank = 0 ∧ (∀ i : Fin 8, s.shed.stageTimers[i] = none) ∧
      s.shed.restoreDelay = none ∧ s.dispatch.stopTimer = none ∧ s.seq.deadBusTimer = none ∧ sheet.res = s.sheet.res ∧
      sheet.req = s.sheet.req ∧ sheet.margin = s.sheet.margin ∧ sheet.exp = s.sheet.exp := by decide +kernel

theorem witness_StepTimeoutFailsTheStep :
    (∀ state ∈ [SeqState.running, .waiting], let s := running 47 state []
      Quiet s ∧ s.seq.state = state ∧ s.seq.stepTimeout = some 0 ∧ s.seq.progress.ended = false ∧
      (s.seq.program[s.seq.position]).onFail = .hold ∧ s.seq.stack.length < 4 ∧ s.orders.queue = [] ∧ s.shed.barrier = .idle) ∧
    (let s := withStep 45 { onFail := .skipNext } (running 45 .running [])
     (s.seq.program[s.seq.position]).onFail = .skipNext ∧ s.seq.position.val + 2 = 47 ∧ WaitStep s.seq 47) ∧
    (let s := balanced (withStep 47 { onFail := .abort } (withFeeder 31 { feeder with owner := .sequencer } (running 47 .running [])))
     (s.seq.program[s.seq.position]).onFail = .abort ∧ SheetKept s ∧ s.shed.permission = false ∧
      ∀ u : Fin 16, (s.genset u).want = false ∧ (s.units[u]).participating = false) ∧
    (let s := balanced (running 47 .running (List.replicate 4 ⟨.operator, 0, none⟩))
     (s.seq.program[s.seq.position]).onFail = .hold ∧ 4 ≤ s.seq.stack.length ∧ SheetKept s ∧ s.shed.permission = false ∧
      ∀ u : Fin 16, (s.genset u).want = false ∧ (s.units[u]).participating = false) ∧
    (running 0 .suspended [⟨.operator, 0, none⟩]).seq.state = .suspended ∧ linked.seq.stepTimeout ≠ some 0 := by decide +kernel

theorem witness_SequencerRequestsAct :
    let op : Suspension := ⟨.operator, 0, some 5⟩
    let prot : Suspension := ⟨.protection, 0, none⟩
    (∀ s ∈ [linked, running 0 .waiting [], running 47 .suspended [op], running 0 .suspended [prot, op],
        running 0 .suspended [op, prot], running 0 .suspended [op, op]],
      Made s 10 0 0 0 [] .arm ∧ Made s 11 0 0 0 [] .disarm ∧ Made s 13 0 0 0 [] .hold ∧ Made s 14 0 0 0 [] .resume) ∧
    linked.inRun = false ∧ (running 0 .waiting []).inRun = true ∧ (running 0 .waiting []).seq.stack.length < 4 ∧
    (running 0 .suspended [op, prot]).seq.stack = [op] ++ [prot] ∧ (running 0 .suspended [prot, op]).seq.stack = [prot] ++ [op] ∧
    (running 0 .suspended [op, op]).seq.stack = [op] ++ [op] ∧ (running 47 .suspended [op]).seq.stack = [] ++ [op] ∧
    op.bank = linked.activeBank ∧ (running 0 .suspended [prot, op]).shed.permission = false ∧
    (running 47 .suspended [op]).seq.progress.ended = false ∧ (running 47 .suspended [op]).seq.progress.pendingEnd = none ∧
    ((running 47 .suspended [op]).seq.program[(47 : Fin 48)]).kind = .waitTime := by
  refine ⟨fun s hs => ?_, rfl, rfl, by decide, rfl, rfl, rfl, rfl, rfl, rfl, rfl, rfl, rfl⟩
  have r : Reached s := by revert s; decide +kernel
  exact ⟨asked r (by decide +kernel), asked r (by decide +kernel), asked r (by decide +kernel), asked r (by decide +kernel)⟩

/-- A run SUSPENDED at step 46 with nothing under way but what `progress` holds, and a WAIT_TIME there and after it. -/
def suspended (stack : List Suspension) (progress : StepProgress) : State :=
  let s := running 46 .suspended stack
  balanced { s with seq := { s.seq with progress := progress } }

/-- HOLD at a full stack; RESUME after a step ended DONE while SUSPENDED, and after a failure under HOLD. -/
theorem witness_SequencerRequestsAct_ends :
    let op : Suspension := ⟨.operator, 0, some 5⟩
    (∀ s ∈ [suspended (List.replicate 4 op) {}, suspended [op] { pendingEnd := some .done }, suspended [op] { ended := true }],
      Made s 13 0 0 0 [] .hold ∧ Made s 14 0 0 0 [] .resume ∧ s.inRun = true ∧ s.seq.state = .suspended ∧ SheetKept s ∧
      s.orders.queue = [] ∧ s.shed.barrier = .idle ∧ s.shed.permission = false ∧
      (∀ u : Fin 16, (s.genset u).want = false ∧ (s.units[u]).participating = false) ∧ op.bank = s.activeBank ∧
      s.seq.position.val + 1 = 47 ∧ WaitStep s.seq 47 ∧ WaitStep s.seq s.seq.position) := by
  intro op s hs
  have r : Reached s ∧ s.inRun = true ∧ s.seq.state = .suspended ∧ SheetKept s ∧
      s.orders.queue = [] ∧ s.shed.barrier = .idle ∧ s.shed.permission = false ∧
      (∀ u : Fin 16, (s.genset u).want = false ∧ (s.units[u]).participating = false) ∧ op.bank = s.activeBank ∧
      s.seq.position.val + 1 = 47 ∧ WaitStep s.seq 47 ∧ WaitStep s.seq s.seq.position := by revert s; decide +kernel
  exact ⟨asked r.1 (by decide +kernel), asked r.1 (by decide +kernel), r.2⟩

/-- RESUME that uncovers a PROTECTION record over an OPERATOR one, while permission is granted; and one of another saved bank, over an
OPERATOR record. -/
theorem witness_SequencerRequestsAct_pops :
    let op : Suspension := ⟨.operator, 0, some 5⟩
    let prot : Suspension := ⟨.protection, 0, none⟩
    let away : Suspension := ⟨.operator, 3, none⟩
    (let s := { suspended [op, prot, op] {} with shed := { linked.shed with permission := true } }
     Made s 14 0 0 0 [] .resume ∧ s.seq.state = .suspended ∧ s.seq.stack = ([] ++ [op, prot]) ++ [op] ∧
      s.shed.permission = true ∧ op.bank = s.activeBank ∧ prot.bank = s.activeBank) ∧
    (let s := suspended [op, away] {}
     let sheet := computeSheet { s with activeBank := away.bank }
     Made s 14 0 0 0 [] .resume ∧ s.seq.state = .suspended ∧ s.seq.stack = [op] ++ [away] ∧ away.bank ≠ s.activeBank ∧
      s.orders.queue = [] ∧ s.shed.barrier = .idle ∧ (∀ i : Fin 8, s.shed.stageTimers[i] = none) ∧ s.shed.restoreDelay = none ∧
      s.dispatch.stopTimer = none ∧ s.seq.deadBusTimer = none ∧ sheet.res = s.sheet.res ∧ sheet.req = s.sheet.req ∧
      sheet.margin = s.sheet.margin ∧ sheet.exp = s.sheet.exp) :=
  ⟨⟨asked (by decide +kernel) (by decide +kernel), rfl, rfl, rfl, rfl, rfl⟩,
    asked (by decide +kernel) (by decide +kernel), by decide +kernel⟩

/-! ## Witnesses: management -/

theorem witness_AdmissionBySenderAndSequence :
    let again := { linked with openRecord := some ⟨0x0450, 1⟩ }
    let listed := { linked with managers := linked.managers.set 3 { id := 0x0450, lastSeq := some 1 } }
    (∀ k : Fin 4, (linked.managers[k]).id = 0) ∧ (listed.managers[(3 : Fin 4)]).id = 0x0450 ∧
      (∀ j : Fin 4, j < 3 → (listed.managers[j]).id ≠ 0x0450) ∧ (∀ k : Fin 4, (listed.managers[k]).id ≠ 0x0451) ∧
      (let t := ask 3 0 0 0 []
       Arrives again .a (frameOf t) t ∧ t.kind = kindRequest ∧ t.dest = again.ownId ∧ admitRequest (requestOf t) again = none ∧
        (Instr.readSheet .a (frameOf t)).arrival = some (.a, frameOf t)) := by
  decide +kernel

theorem witness_ReadsAnswerAndMoveTheCursor :
    (Made busy 1 0 0 0 [] .readEntry ∧ Made busy 1 10 0 0 [] .readEntry) ∧
    (Made busy 1 7 4 0 [] .readEntry ∧ readEntryOctets (admitted busy) .bank 4 = none) ∧
    (Made busy 1 7 3 0 [] .readEntry ∧ (readEntryOctets (admitted busy) .bank 3).isSome) ∧
    Made busy 3 0 0 0 [] .readSheet ∧ Made busy 4 0 0 4 [] .readEvents ∧ Made busy 5 0 0 0 [] .rewindEvents ∧
    (∀ t ∈ [ask 0 0 0 0 [], ask 16 0 0 0 []], Arrives busy .a (frameOf t) t ∧ t.kind = kindRequest ∧ t.dest = busy.ownId ∧
      admitRequest (requestOf t) busy = some (admitted busy)) := by
  have r : Reached busy := by decide +kernel
  exact ⟨⟨asked r (by decide +kernel), asked r (by decide +kernel)⟩, ⟨asked r (by decide +kernel), by decide +kernel⟩,
    ⟨asked r (by decide +kernel), by decide +kernel⟩, asked r (by decide +kernel), asked r (by decide +kernel),
    asked r (by decide +kernel), by decide +kernel⟩

/-- One write for each clause, at the last index of its table, and one of the wrong length. -/
theorem witness_ConfigurationWritesReplaceTheEntry :
    let bank := bankEntry (defaultBank true)
    let settings := settingsEntry { ownId := 0x7F05, airReady := 100, beacon := 0x41, queueOffset := 31, eventOffset := 250 } 0
    (Made linked 2 4 15 0 [] .writeEntry ∧ Made linked 2 4 15 0 (profileEntry { attempts := 6 }) .writeEntry ∧
      Made linked 2 5 31 0 (shedEntry { feeder := some 31, stage := 7 }) .writeEntry ∧
      Made linked 2 6 47 0 (programEntry { kind := .waitTime, onFail := .hold }) .writeEntry ∧
      Made linked 2 7 3 0 bank .writeEntry ∧ Made linked 2 8 0 0 settings .writeEntry ∧
      Made linked 2 9 3 0 (managerEntry { id := 0x0450 }) .writeEntry) ∧
    ((profileEntry { attempts := 6 }).length = 8 ∧ (shedEntry { feeder := some 31, stage := 7 }).length = 4 ∧
      (programEntry { kind := .waitTime, onFail := .hold }).length = 8 ∧ bank.length = 64 ∧ settings.length = 16 ∧
      (managerEntry { id := 0x0450 }).length = 8) ∧
    ((∀ i : Fin 8, linked.shed.stageTimers[i] = none) ∧ shedTripSent linked = false ∧
      (∀ j : Fin 32, j ≠ 31 → (linked.shed.table[j]).feeder ≠ some 31) ∧ linked.inRun = false ∧ operandOk .waitTime 0 = true ∧
      (3 : Fin 4) ≠ linked.activeBank ∧ (bankFrom bank).valid = true) ∧
    ((settingsFrom settings).valid = true ∧ (settingsFrom settings).queueOffset ≠ linked.settings.queueOffset ∧
      (settingsFrom settings).eventOffset ≠ linked.settings.eventOffset ∧ (settingsFrom settings).beacon ≠ linked.settings.beacon) ∧
    (∀ j : Fin 4, j ≠ 3 → (linked.managers[j]).id ≠ 0x0450) := by
  have r : Reached linked := by decide +kernel
  exact ⟨⟨asked r (by decide +kernel), asked r (by decide +kernel), asked r (by decide +kernel), asked r (by decide +kernel),
    asked r (by decide +kernel), asked r (by decide +kernel), asked r (by decide +kernel)⟩, by decide +kernel⟩

theorem witness_RecordWritesReplaceTheConfiguration :
    let source := sourceEntry (publisher .unit 15)
    let unit := unitEntry { genset .unknown with mode := .manual, startProfile := 15 } true
    let feeder := feederEntry { feeder with profile := 15 } true
    let s := balanced linked
    (Made s 2 1 63 0 source .writeEntry ∧ Made s 2 1 63 0 (putZeros 24) .writeEntry ∧
      Made s 2 2 15 0 unit .writeEntry ∧ Made s 2 3 31 0 feeder .writeEntry) ∧
    source.length = 24 ∧ (sourceFrom source).isSome ∧
      (sourceFrom source).all (fun e => firstFailure (sourceChecks s 63 e) = .ok ∧ e.role ≠ .reference) = true ∧
    unit.length = 56 ∧ ofCode unitKindsByCode (read8 unit 0) = some .genset ∧
      firstFailure (unitChecks s 15 .genset unit) = .ok ∧
    feeder.length = 24 ∧ firstFailure (feederChecks s 31 feeder) = .ok ∧ read8 feeder 0 = 1 ∧
      s.orders.queue = [] ∧ s.shed.stack = [] ∧ SheetKept s ∧ s.freqSource = sourceChoice s ∧ s.sources[(63 : Fin 64)] = {} ∧
      s.units[(15 : Fin 16)] = {} ∧ stopTest s = s ∧ (15 : Fin 16) ∉ s.arbiter.units ∧ s.feeders[(31 : Fin 32)] = {} ∧
      s.shed.entryOf 31 = none := by
  have r : Reached (balanced linked) := by decide +kernel
  exact ⟨⟨asked r (by decide +kernel), asked r (by decide +kernel), asked r (by decide +kernel), asked r (by decide +kernel)⟩,
    by decide +kernel⟩

theorem witness_SetModeSetsTheMode :
    let s := balanced (withUnit 14 (plant (some 600)) <| withUnit 13 { plant none with kind := .store } <|
      withUnit 15 (genset .unavailable) (withFeeder 31 { feeder with failed := true } linked))
    (∀ content ∈ [[], [(0 : Octet)], [1], [2]],
      Made s 7 1 0 0 content .setMode ∧ Made s 7 2 16 0 content .setMode ∧ Made s 7 3 32 0 content .setMode ∧
      Made s 7 2 15 0 content .setMode ∧ Made s 7 2 0 0 content .setMode ∧ Made s 7 3 31 0 content .setMode ∧
      Made s 7 3 0 0 content .setMode ∧ Made s 7 2 14 0 content .setMode ∧ Made s 7 2 13 0 content .setMode) ∧
    (s.units[(15 : Fin 16)]).kind ≠ .unused ∧ (s.units[(14 : Fin 16)]).kind = .pv ∧ (s.units[(13 : Fin 16)]).kind = .store ∧ (s.units[(0 : Fin 16)]).kind = .unused ∧
      (s.feeders[(31 : Fin 32)]).used = true ∧ (s.feeders[(0 : Fin 32)]).used = false ∧ SheetKept s ∧ s.orders.queue = [] ∧
      s.shed.stack = [] := by
  intro s
  have r : Reached s := by decide +kernel
  refine ⟨fun content h => ?_, by decide +kernel⟩
  have g : Asks 7 1 0 0 content .setMode ∧ Asks 7 2 16 0 content .setMode ∧ Asks 7 3 32 0 content .setMode ∧
      Asks 7 2 15 0 content .setMode ∧ Asks 7 2 0 0 content .setMode ∧ Asks 7 3 31 0 content .setMode ∧
      Asks 7 3 0 0 content .setMode ∧ Asks 7 2 14 0 content .setMode ∧ Asks 7 2 13 0 content .setMode := by revert content; decide +kernel
  exact ⟨asked r g.1, asked r g.2.1, asked r g.2.2.1, asked r g.2.2.2.1, asked r g.2.2.2.2.1, asked r g.2.2.2.2.2.1,
    asked r g.2.2.2.2.2.2.1, asked r g.2.2.2.2.2.2.2.1, asked r g.2.2.2.2.2.2.2.2⟩

theorem witness_BeaconAndRetiredIdentity :
    let due := { linked with beaconTimer := 0, retired := some ⟨0x7F01, 0x9A1C, 0⟩ }
    due.handovers = [] ∧ due.phase = .running ∧ due.beaconTimer = 0 ∧ due.retired = some ⟨0x7F01, 0x9A1C, 0⟩ ∧
      linked.beaconTimer ≠ 0 ∧ linked.retired = none := by decide

theorem witness_EntriesReadBack :
    (defaultBank true).valid = true ∧ ({} : Settings).valid = true ∧ ({ attempts := 6 } : Profile).attempts ≤ 6 ∧
      ({ feeder := some 31 } : ShedEntry).feeder ≠ none ∧ ({ operand := 65535 } : StepRec).operand < 65536 ∧
      (publisher .unit 255).target < 256 ∧ (publisher .unit 255).role = .unit ∧
      (let r := { genset .unknown with rated := 65535, minLoad := 80, startRank := 255 }
       r.kind ≠ .unused ∧ r.rated < 65536 ∧ r.minLoad < 256 ∧ r.startRank < 256) ∧ (plant none).kind = .pv ∧ feeder.used = true := by
  decide +kernel

/-! ## One step each, from the worked examples -/

/-- 6, worked example, step 1: the gateway's 500 kW to B becomes its mirror and its last-sent, and nothing is submitted. -/
theorem test_gateway_lowers :
    (match exec (.setpointOrder .a (frameOf (setpoint 0x0501 0x0303 500))) (gated (plant (some 700))) with
      | .next t => ((t.units[(15 : Fin 16)]).pv.mirror, (t.units[(15 : Fin 16)]).pv.lastSent, t.orders.queue.length)
      | _ => (0, none, 99)) = (500, some 500, 0) := by decide +kernel

/-- 6, worked example, step 5: 900 kW above B's last-sent of 500 sets out-of-step and submits 500 again. -/
theorem test_gateway_raises :
    (match exec (.setpointOrder .a (frameOf (setpoint 0x0501 0x0303 900))) (gated { plant (some 500) with cycle := some 7 }) with
      | .next t => ((t.units[(15 : Fin 16)]).pv.outOfStep, t.orders.queue.map Order.value, t.record.entries.map Event.kind)
      | _ => (false, [], [])) = (true, [500], [.mirrorSet, .reassert]) := by decide +kernel

/-- R184, R185: the same request again leaves no trace, and its first arrival is answered. -/
theorem test_repeated_request_is_dropped :
    let c := Instr.readSheet .a (frameOf (ask 3 0 0 0 []))
    (match exec c linked with
      | .next t => (match exec c t with | .next u => decide (t.portA.ownQ.length = 1 ∧ u = t) | _ => false)
      | _ => false) = true := by decide +kernel

/-- R123: a FEEDER write of the feeder under restoration takes it off the Shed Stack and submits no CLOSE again. -/
theorem test_rewritten_feeder_leaves_the_stack :
    let s := shedTop 120 500
    let restoring := { s with
      shed := { s.shed with underRestore := some 31 }
      orders := { queue := [{ closeOrder s 31 .restore with device := 0x0403 }], counters := { accepted := 1 } } }
    (match exec (.writeEntryFeeder .a (frameOf (ask 2 3 31 0 (putZeros 24)))) restoring with
      | .next t => decide (t.shed.stack = [] ∧ t.shed.underRestore = none ∧ t.orders.queue = [] ∧ t.orders.tracker = [] ∧
          t.orders.counters.cancelled = 1)
      | _ => false) = true := by decide +kernel

/-- R102: a DEFICIT grant is not kept by an operator's CRANK that is still out to the genset; a CRANK of its own keeps it. -/
theorem test_withdrawn_grant_is_kept_by_its_own_crank :
    let held := fun (cause : OrderCause) => withdrawCrank (fun _ => true) 15 <|
      withArbiter { state := .granted, grant := some ⟨15, .deficit, 0⟩ } (tracking ⟨orderTo (.unit 15) .crank cause, 9, 5, 0, none, false⟩ linked)
    (held .operator).arbiter.state ≠ .granted ∧ (held .dispatch).arbiter.state = .granted := by decide +kernel

/-- R77: a recall's LOAD that is DROPPED is owed again, and the UNLOAD still out is the outstanding order. -/
theorem test_dropped_load_leaves_the_unload_outstanding :
    let x : Slot := ⟨orderTo (.unit 15) .unload .dispatch, 9, 5, 0, none, false⟩
    let s := (tracking x (gensetAt .online .auto)).modGenset 15 fun g => { g with outstanding := some .load }
    let t := dispatchOrderEnd 15 .load .dropped false s
    (t.genset 15).outstanding = some .unload ∧ (t.genset 15).owed = some .load := by decide +kernel

/-- R97: a UNIT write of a plant is no test of the stop conditions, though they hold; one that makes a genset is (log 48). -/
theorem test_plant_write_makes_no_stop_test :
    let s := { stopping with
      banks := stopping.banks.set 0 { defaultBank false with stopMargin := 0 }, dispatch := { stopping.dispatch with stopTimer := none } }
    let after := fun (r : UnitRec) =>
      match exec (.writeEntryUnit .a (frameOf (ask 2 2 5 0 (unitEntry { r with device := 0x0355 } true)))) s with
      | .next t => (decide ((t.units[(5 : Fin 16)]).kind = r.kind), t.dispatch.stopTimer.map StopTimer.unit)
      | _ => (false, none)
    stopWanted s = some 15 ∧ after (plant none) = (true, none) ∧ after (genset .unknown) = (true, some 15) := by decide +kernel

/-- The host's questions: no row of the table spells a word, so a word puts no command in the queue. -/
theorem test_no_word_is_a_command : decodeTableWord 8 0xFF = none ∧ (linked.withFetchWord 8 0xFF).pending = [] := by decide

end Sys2Proof.Tests
end

section
/-!
SUPPORT. How a Sample Report reaches Sample Intake and which ones are set aside (R2, R5, R6).
-/

namespace Sys2Proof.Machine

variable {s : State} {p : Port} {f : Frame} {t : Telegram} {r : SampleReport} {i : Fin 64}

/-! ## Sequences (R2) -/

/-- R2: newer is the forward half of the circle, measured from `a` to `b`. -/
theorem newer_iff (b a : TelSeq) : newer b a = true ↔
    1 ≤ (b.toNat + 65536 - a.toNat) % 65536 ∧ (b.toNat + 65536 - a.toNat) % 65536 ≤ 32767 := by
  have distance : (b - a).toNat = (b.toNat + 65536 - a.toNat) % 65536 := by
    rw [BitVec.toNat_sub]
    congr 1
    omega
  simp [newer, distance]

/-- R2: the two distances around the circle add up to the whole of it, so they do not both lie in the forward half. -/
theorem newer_asymm (a b : TelSeq) : ¬ (newer b a = true ∧ newer a b = true) := by
  rw [newer_iff, newer_iff]
  omega

/-- R2: of two sequences neither of which is newer, both distances are half the circle. -/
theorem eq_add_half_of_not_newer {a b : TelSeq} (hne : a ≠ b) (hba : newer b a = false) (hab : newer a b = false) :
    b = a + 32768 := by
  have ne : a.toNat ≠ b.toNat := fun h => hne (BitVec.eq_of_toNat_eq h)
  have noForward := mt (newer_iff b a).mpr (by simp [hba])
  have noBackward := mt (newer_iff a b).mpr (by simp [hab])
  have half : (32768 : TelSeq).toNat = 32768 := rfl
  apply BitVec.eq_of_toNat_eq
  rw [BitVec.toNat_add, half]
  omega

theorem newerOrFirst_iff (b : TelSeq) (last : Option TelSeq) :
    newerOrFirst b last = true ↔ last = none ∨ ∃ l, last = some l ∧ newer b l = true := by
  cases last <;> simp [newerOrFirst]

theorem newerOrFirst_eq_false_iff (b : TelSeq) (last : Option TelSeq) :
    newerOrFirst b last = false ↔ ∃ l, last = some l ∧ newer b l = false := by
  cases last <;> simp [newerOrFirst]

/-! ## Passing a telegram on (R181) -/

/-- Passing a telegram on changes the ports alone. -/
theorem passedOn_frame : passedOn p f t s =
    { s with portA := (passedOn p f t s).portA, portB := (passedOn p f t s).portB } := by
  unfold passedOn forward
  split
  · rfl
  · cases p <;> rfl

@[simp] theorem passedOn_sources : (passedOn p f t s).sources = s.sources := by rw [passedOn_frame]
@[simp] theorem passedOn_partTime : (passedOn p f t s).partTime = s.partTime := by rw [passedOn_frame]
@[simp] theorem passedOn_handovers : (passedOn p f t s).handovers = s.handovers := by rw [passedOn_frame]

/-! ## Admission of a Sample Report (R5, R6) -/

/-- A Sample Report that arrives is passed on and handed to Sample Intake. -/
theorem receive_sampleReport (h : Arrives s p f t) (hk : t.kind = kindSampleReport) :
    receive p f s = takeSampleReport (sampleOf t) (passedOn p f t s) := by
  rw [receive_arrives h, takeIn, if_pos hk]

/-- The outcome of a Sample Report that hands nothing to another block. -/
theorem exec_sampleReport_next {s' : State} (h : Arrives s p f t) (hk : t.kind = kindSampleReport)
    (ht : takeSampleReport (sampleOf t) (passedOn p f t s) = s') (hq : s'.handovers = []) :
    exec (.sampleReport p f) s = .next s' := by
  rw [exec_arrival (p := p) (f := f) rfl]
  exact run_next h.1.2 ((receive_sampleReport h hk).trans ht) hq

/-- R5: a report from no publisher is set aside. -/
theorem takeSampleReport_unlisted (hi : findIndex s.sources (fun e => e.used && e.publisher = r.sender) = none) :
    takeSampleReport r s = s := by
  simp only [takeSampleReport, hi]

/-- R5: a report from a GATEWAY, or no newer than the last of a FRESH entry, is set aside. -/
theorem takeSampleReport_refused (hi : findIndex s.sources (fun e => e.used && e.publisher = r.sender) = some i)
    (h : (s.sources[i]).role = .gateway ∨
      ((s.sources[i]).fresh = true ∧ newerOrFirst r.seq (s.sources[i]).lastSeq = false)) :
    takeSampleReport r s = s := by
  simp only [takeSampleReport, hi, Bool.and_eq_true, decide_eq_true_eq, Bool.or_eq_true, Bool.not_eq_true']
  refine if_neg fun ⟨hrole, hseq⟩ => ?_
  obtain gateway | ⟨fresh, old⟩ := h
  · exact hrole gateway
  · rw [fresh, old] at hseq
    simp at hseq

/-- R5, R6: an admitted report has its sequence and arrival recorded; one of quality VALID is accepted then. -/
theorem takeSampleReport_admitted (hi : findIndex s.sources (fun e => e.used && e.publisher = r.sender) = some i)
    (hrole : (s.sources[i]).role ≠ .gateway)
    (hseq : (s.sources[i]).fresh = false ∨ newerOrFirst r.seq (s.sources[i]).lastSeq = true) :
    takeSampleReport r s =
      if r.valid then
        acceptSample i r (s.modSource i fun e => { e with lastSeq := some r.seq, lastArrival := some s.partTime })
      else s.modSource i fun e => { e with lastSeq := some r.seq, lastArrival := some s.partTime } := by
  simp only [takeSampleReport, hi, Bool.and_eq_true, decide_eq_true_eq, Bool.or_eq_true, Bool.not_eq_true']
  exact if_pos ⟨hrole, hseq⟩

/-- Settles O10: the report's way to Sample Intake is followed once, and each case is one outcome of its admission. -/
theorem sampleReportSetAside : Obligations.SampleReportSetAside := by
  refine ⟨fun s p f t h hk => ⟨fun hi => ?unlisted, fun i hi => ⟨fun hout => ?refused, fun hrole hseq hsuspect => ?suspect⟩⟩,
    fun a b => ⟨newer_iff b a, newer_asymm a b, eq_add_half_of_not_newer⟩⟩
  all_goals have quiet : (passedOn p f t s).handovers = [] := passedOn_handovers.trans h.1.2
  case unlisted =>
    exact exec_sampleReport_next h hk (takeSampleReport_unlisted (by rwa [passedOn_sources])) quiet
  case refused =>
    rw [← newerOrFirst_eq_false_iff] at hout
    exact exec_sampleReport_next h hk
      (takeSampleReport_refused (i := i) (by rwa [passedOn_sources]) (by rwa [passedOn_sources])) quiet
  case suspect =>
    rw [← newerOrFirst_iff] at hseq
    have invalid : (sampleOf t).valid = false := by simpa [sampleOf] using hsuspect
    refine exec_sampleReport_next h hk ?_ quiet
    rw [takeSampleReport_admitted (i := i) (by rwa [passedOn_sources]) (by rwa [passedOn_sources])
      (by rwa [passedOn_sources]), invalid, passedOn_partTime]
    rfl

end Sys2Proof.Machine
end

section
/-!
SUPPORT. What the hand-overs of a command keep, for any property of the state that the shared updates of the jobs and a genset's
change of state keep. The way through every operation is followed once here; an invariant then owes its own updates alone.
-/

namespace Sys2Proof.Machine

variable {P : State → Prop} {s : State}

/-- The property survives every shared update of the jobs that leaves the records' kinds, frequencies and genset states, and the
frequency of the sheet, as they are. -/
structure KeptByUpdates (P : State → Prop) : Prop where
  handovers : ∀ {s : State} {l : List Handover}, P s → P { s with handovers := l }
  overrun : ∀ {s : State} {b : Bool}, P s → P { s with overrun := b }
  log : ∀ {s : State} {k : EventKind} {x : Option Subject} {v : Int} {d : Nat}, P s → P (s.log k x v d)
  orders : ∀ {s : State} {o : OrderUnit}, P s → P { s with orders := o }
  formTelegram : ∀ {s : State} {k : Nat} {d : StationId} {b : Octets}, P s → P (formTelegram k d b s)
  arbiter : ∀ {s : State} {a : Arbiter}, P s → P { s with arbiter := a }
  dispatch : ∀ {s : State} {d : DispatchUnit}, P s → P { s with dispatch := d }
  curtailTimer : ∀ {s : State} {n : Nat}, P s → P { s with curtailTimer := n }
  shed : ∀ {s : State} {x : Shedding}, P s → P { s with shed := x }
  seq : ∀ {s : State} {q : Sequencer}, P s → P { s with seq := q }
  feeders : ∀ {s : State} {v : Vector FeederRec 32}, P s → P { s with feeders := v }
  activeBank : ∀ {s : State} {b : Fin 4}, P s → P { s with activeBank := b }
  sheet : ∀ {s : State} {b : Sheet}, b.freq = s.sheet.freq → P s → P { s with sheet := b }
  modUnit : ∀ {s : State} {u : Fin 16} {f : UnitRec → UnitRec},
    (∀ r, (f r).kind = r.kind ∧ (f r).f = r.f ∧ (f r).genset.state = r.genset.state) → P s → P (s.modUnit u f)

/-- The property survives a genset's change of state too, and the breaker trip, which counts as leaving ONLINE (R82, R85). -/
structure KeptByHandovers (P : State → Prop) : Prop extends KeptByUpdates P where
  changeState : ∀ {s : State} {u : Fin 16} {g : GensetState}, P s → P (changeState u g s)
  tripUnit : ∀ {s : State} {u : Fin 16}, P s → P (tripUnit u s)

theorem ite_kept {c : Prop} [Decidable c] {a b : State} (ha : P a) (hb : P b) : P (if c then a else b) := by
  split <;> assumption

/-- An action on each element of a list in turn keeps what each of them keeps. -/
theorem foldl_kept {α : Type} {f : State → α → State} (h : ∀ t x, P t → P (f t x)) (l : List α) (hs : P s) :
    P (l.foldl f s) := by
  induction l generalizing s with
  | nil => exact hs
  | cons x rest ih => exact ih (h _ _ hs)

theorem forUnits_kept {f : Fin 16 → State → State} (hf : ∀ u t, P t → P (f u t)) (hs : P s) : P (forUnits f s) :=
  foldl_kept (fun t u => hf u t) _ hs

namespace KeptByUpdates

variable (h : KeptByUpdates P)
include h

/-! ## Shared updates -/

theorem post_kept {l : List Handover} (hs : P s) : P (s.post l) := h.handovers hs
theorem postFirst_kept {x : Handover} (hs : P s) : P (s.postFirst x) := h.handovers hs
theorem modOrders_kept {f : OrderUnit → OrderUnit} (hs : P s) : P (s.modOrders f) := h.orders hs
theorem modArbiter_kept {f : Arbiter → Arbiter} (hs : P s) : P (s.modArbiter f) := h.arbiter hs
theorem modShed_kept {f : Shedding → Shedding} (hs : P s) : P (s.modShed f) := h.shed hs
theorem modSeq_kept {f : Sequencer → Sequencer} (hs : P s) : P (s.modSeq f) := h.seq hs
theorem modFeeder_kept {i : Fin 32} {f : FeederRec → FeederRec} (hs : P s) : P (s.modFeeder i f) := h.feeders hs
theorem setStopTimer_kept {t : Option StopTimer} (hs : P s) : P (s.setStopTimer t) := h.dispatch hs
theorem postRestoreWait_kept {x : Option Nat} (hs : P s) : P (postRestoreWait x s) := h.dispatch hs

theorem modGenset_kept {u : Fin 16} {f : GensetControl → GensetControl} (hf : ∀ g, (f g).state = g.state) (hs : P s) :
    P (s.modGenset u f) := h.modUnit (fun r => ⟨rfl, rfl, hf r.genset⟩) hs

theorem modPv_kept {u : Fin 16} {f : PvControl → PvControl} (hs : P s) : P (s.modPv u f) :=
  h.modUnit (fun _ => ⟨rfl, rfl, rfl⟩) hs

theorem recompute_kept (hs : P s) : P (recompute s) :=
  have formed : P { s with sheet := computeSheet s } := h.sheet rfl hs
  ite_kept (h.post_kept formed) formed

theorem formRocof_kept (hs : P s) : P (formRocof s) := h.sheet rfl hs

/-! ## The Order Unit -/

theorem setCycle_kept {t : Target} {x : Timer} (hs : P s) : P (s.setCycle t x) := by
  cases t
  · exact h.modUnit (fun _ => ⟨rfl, rfl, rfl⟩) hs
  · exact h.modFeeder_kept hs

theorem setHoldOff_kept {t : Target} {x : Timer} (hs : P s) : P (s.setHoldOff t x) := by
  cases t
  · exact h.modUnit (fun _ => ⟨rfl, rfl, rfl⟩) hs
  · exact h.modFeeder_kept hs

theorem testQueueHigh_kept (hs : P s) : P (testQueueHigh s) :=
  have tested := h.modOrders_kept hs
  ite_kept (h.log tested) tested

theorem setQueue_kept {q : List Order} (hs : P s) : P (setQueue q s) := h.testQueueHigh_kept (h.modOrders_kept hs)

theorem recordEnd_kept {o : Order} {e : OrderEnd} {v : Nat} (hs : P s) : P (recordEnd o e v s) :=
  have counted := h.modOrders_kept hs
  ite_kept counted (h.log counted)

theorem startHoldOff_kept {o : Order} {e : OrderEnd} (hs : P s) : P (startHoldOff o e s) :=
  ite_kept hs (h.setHoldOff_kept hs)

theorem endSlot_kept {x : Slot} {e : OrderEnd} (hs : P s) : P (endSlot x e s) :=
  h.post_kept (h.startHoldOff_kept (h.recordEnd_kept (h.modOrders_kept hs)))

theorem endQueued_kept {o : Order} {e : OrderEnd} {own : Bool} (hs : P s) : P (endQueued o e own s) :=
  h.post_kept (h.recordEnd_kept hs)

theorem freeze_kept {x : Slot} (hs : P s) : P (freeze x s) := ite_kept (h.endSlot_kept hs) (h.modOrders_kept hs)

theorem sendOne_kept {o : Order} (hs : P s) : P (sendOne o s) := by
  have sent : ∀ {free : State}, P free → ∀ {q : List Order} {f : OrderUnit → OrderUnit} {k d b t x},
      P ((Machine.formTelegram k d b ((setQueue q free).modOrders f)).setCycle t x) := fun hf =>
    h.setCycle_kept (h.formTelegram (h.modOrders_kept (h.setQueue_kept hf)))
  unfold sendOne
  cases s.slotOf o.target with
  | none => exact ite_kept (h.freeze_kept (sent hs)) (sent hs)
  | some x => exact ite_kept (h.freeze_kept (sent (h.endSlot_kept hs))) (sent (h.endSlot_kept hs))

theorem sendLoop_kept {n : Nat} (hs : P s) : P (sendLoop n s) := by
  induction n generalizing s with
  | zero => exact hs
  | succ n ih => unfold sendLoop; split <;> [exact hs; exact ih (h.sendOne_kept hs)]

theorem sendTest_kept (hs : P s) : P (sendTest s) := h.sendLoop_kept hs

theorem countAccepted_kept (hs : P s) : P (countAccepted s) := h.modOrders_kept hs

theorem submitRoutine_kept {o : Order} (hs : P s) : P (submitRoutine o s).1 := by
  unfold submitRoutine
  simp only
  split
  · split
    · exact h.sendTest_kept (h.modOrders_kept hs)
    · exact h.sendTest_kept (h.countAccepted_kept (h.endQueued_kept (h.modOrders_kept hs)))
  · split
    · exact h.sendTest_kept (h.countAccepted_kept (h.setQueue_kept hs))
    · exact hs

theorem submitRoutine_out_kept {o : Order} {out : State} {a : SubmitAnswer} (e : submitRoutine o s = (out, a)) (hs : P s) :
    P out := by
  have kept := h.submitRoutine_kept (o := o) hs
  rwa [e] at kept

theorem cancelWhere_kept {p : Order → Bool} {own : Bool} (hs : P s) : P (cancelWhere p own s) :=
  foldl_kept (fun _ _ ht => h.endQueued_kept (h.setQueue_kept ht)) _ hs

theorem dropLast_kept (hs : P s) : P (dropLast s) := by
  unfold dropLast
  refine ite_kept hs ?_
  split <;> [exact hs; exact h.endQueued_kept (h.setQueue_kept hs)]

theorem submitProtective_kept {o : Order} (hs : P s) : P (submitProtective o s) := by
  unfold submitProtective
  simp only
  split
  · exact h.sendTest_kept (h.modOrders_kept hs)
  · exact h.sendTest_kept (h.countAccepted_kept (h.setQueue_kept (h.dropLast_kept (h.cancelWhere_kept hs))))

theorem withdraw_kept {c : List OrderCause} {t : Target} {k : Option OrderKind} (hs : P s) : P (withdraw c t k s) :=
  h.cancelWhere_kept hs

theorem idleTarget_kept {t : Target} (hs : P s) : P (idleTarget t s) := h.setHoldOff_kept (h.setCycle_kept hs)

theorem cancelTarget_kept {t : Target} (hs : P s) : P (cancelTarget t s) := h.cancelWhere_kept hs

theorem releaseTarget_kept {t : Target} (hs : P s) : P (releaseTarget t s) := h.cancelTarget_kept (h.idleTarget_kept hs)

theorem matchReport_kept {t : Target} {g : Octet} {r a : Bool} (hs : P s) : P (matchReport t g r a s) := by
  unfold matchReport
  split
  · exact h.log hs
  · exact ite_kept (h.endSlot_kept hs) (ite_kept hs (ite_kept (h.endSlot_kept hs) (h.modOrders_kept hs)))

theorem inhibitChange_kept {t : Target} (hs : P s) : P (inhibitChange t s) := by
  unfold inhibitChange
  split
  · exact hs
  · exact ite_kept hs (ite_kept (ite_kept hs (h.freeze_kept hs)) (h.modOrders_kept hs))

theorem deadlineExpires_kept {g : Octet} (hs : P s) : P (deadlineExpires g s) := by
  unfold deadlineExpires
  split
  · exact hs
  · exact ite_kept hs (ite_kept (h.endSlot_kept hs) (h.endSlot_kept hs))

theorem inhibitExpires_kept {g : Octet} (hs : P s) : P (inhibitExpires g s) := by
  unfold inhibitExpires
  split
  · exact hs
  · exact ite_kept (h.endSlot_kept hs) hs

theorem cycleExpires_kept {t : Target} (hs : P s) : P (cycleExpires t s) :=
  ite_kept (h.sendTest_kept (h.setCycle_kept hs)) hs

theorem holdOffExpires_kept {t : Target} (hs : P s) : P (holdOffExpires t s) := by
  have tested := h.sendTest_kept (h.setHoldOff_kept (t := t) (x := none) hs)
  unfold holdOffExpires
  refine ite_kept ?_ hs
  cases t with
  | unit u => exact tested
  | feeder f => exact ite_kept (h.post_kept tested) tested

/-! ## Solar Curtailment -/

theorem submitLimit_kept {u : Fin 16} {v : Int} (hs : P s) : P (submitLimit u v s) := h.submitRoutine_kept hs

theorem curtailEval_kept (hs : P s) : P (curtailEval s) :=
  ite_kept hs (foldl_kept (fun _ _ ht => h.submitLimit_kept ht) _ hs)

theorem curtailTimerExpires_kept (hs : P s) : P (curtailTimerExpires s) :=
  ite_kept (h.curtailEval_kept (h.curtailTimer hs)) hs

theorem limitOrderEnd_kept {u : Fin 16} {v : Int} {e : OrderEnd} (hs : P s) : P (limitOrderEnd u v e s) :=
  ite_kept (h.modPv_kept hs) hs

theorem lowerQueued_kept {u : Fin 16} (hs : P s) : P (lowerQueued u s) := h.orders hs

theorem setMirror_kept {u : Fin 16} {v : Int} (hs : P s) : P (setMirror u v s) :=
  ite_kept (h.log (h.modPv_kept hs)) (h.log (h.modPv_kept hs))

theorem reassert_kept {u : Fin 16} {n : Nat} (hs : P s) : P (reassert u n s) := h.log (h.submitLimit_kept (h.modPv_kept hs))

theorem followCopy_kept {u : Fin 16} {b : Bool} (hs : P s) : P (followCopy u b s) := by
  unfold followCopy
  simp only
  split
  · exact ite_kept hs (h.modPv_kept hs)
  · exact ite_kept (h.reassert_kept hs) (h.modPv_kept hs)

theorem setpointCopy_kept {d : StationId} {v : Int} (hs : P s) : P (setpointCopy d v s) := by
  unfold setpointCopy
  split
  · exact hs
  · exact ite_kept (ite_kept (h.followCopy_kept (h.setMirror_kept hs)) (h.setMirror_kept hs))
      (h.lowerQueued_kept (ite_kept (h.followCopy_kept (h.setMirror_kept hs)) (h.setMirror_kept hs)))

theorem mirrorExpires_kept {u : Fin 16} (hs : P s) : P (mirrorExpires u s) := ite_kept (h.modPv_kept hs) hs

theorem withdrawLimits_kept {u : Fin 16} (hs : P s) : P (withdrawLimits u s) := ite_kept hs (h.withdraw_kept hs)

theorem pvMode_kept {u : Fin 16} (hs : P s) : P (pvMode u s) :=
  ite_kept (h.withdrawLimits_kept (h.modPv_kept hs)) (ite_kept (h.modPv_kept hs) hs)

/-! ## The Crank Arbiter -/

theorem grantTo_kept {r : CrankRequest} (hs : P s) : P (grantTo r s) := h.post_kept (h.log (h.modArbiter_kept hs))

theorem nextCrank_kept (hs : P s) : P (nextCrank s) := by
  unfold nextCrank
  split
  · exact h.grantTo_kept (h.modArbiter_kept hs)
  · split
    · exact h.grantTo_kept (h.modArbiter_kept hs)
    · exact h.modArbiter_kept hs

theorem releaseGrant_kept {p : Fin 16} (hs : P s) : P (releaseGrant p s) :=
  have released := h.modArbiter_kept hs
  ite_kept (h.nextCrank_kept released) released

theorem requestCrank_kept {r : CrankRequest} (hs : P s) : P (requestCrank r s) := by
  have free := ite_kept (c := s.arbiter.holds r.unit = true) (h.releaseGrant_kept (p := s.units[r.unit].startProfile) hs) hs
  exact ite_kept free (ite_kept (h.grantTo_kept free) (h.modArbiter_kept free))

theorem crankOutcome_kept {u p : Fin 16} {b : Bool} (hs : P s) : P (crankOutcome u p b s) := by
  unfold crankOutcome
  split
  · exact ite_kept (h.releaseGrant_kept hs) hs
  · exact hs

theorem withdrawCrank_kept {c : CauseClass → Bool} {u : Fin 16} (hs : P s) : P (withdrawCrank c u s) :=
  ite_kept (ite_kept hs (h.releaseGrant_kept hs)) (h.modArbiter_kept hs)

theorem operatorWithdraw_kept {u : Fin 16} (hs : P s) : P (operatorWithdraw u s) := h.withdrawCrank_kept hs

theorem operatorGrant_kept {r : CrankRequest} (hs : P s) : P (operatorGrant r s) := by
  unfold operatorGrant
  refine ite_kept hs ?_
  simp only
  split <;> rename_i e
  · exact h.log (h.releaseGrant_kept (h.submitRoutine_out_kept e hs))
  · exact h.submitRoutine_out_kept e hs

theorem pressureReady_kept {k : Nat} (hs : P s) : P (pressureReady k s) := ite_kept (h.nextCrank_kept hs) hs

theorem airHoldOffExpires_kept (hs : P s) : P (airHoldOffExpires s) := ite_kept (h.nextCrank_kept hs) hs

/-! ## Diesel Dispatch, apart from the changes of state -/

theorem startStateTimer_kept {u : Fin 16} {n : Nat} (hs : P s) : P (startStateTimer u n s) :=
  have started := h.modGenset_kept (u := u) (f := fun g => { g with timer := some n }) (fun _ => rfl) hs
  ite_kept (h.post_kept started) started

theorem submitDispatch_kept {k : OrderKind} {u : Fin 16} (hs : P s) : P (submitDispatch k u s) := by
  unfold submitDispatch
  split <;> rename_i e <;> exact h.modGenset_kept (fun _ => rfl) (h.submitRoutine_out_kept e hs)

theorem dispatchWithdraw_kept {k : Option OrderKind} {u : Fin 16} (hs : P s) : P (dispatchWithdraw k u s) :=
  ite_kept (h.modGenset_kept (fun _ => rfl) (h.withdraw_kept hs)) (h.withdraw_kept hs)

theorem logLockout_kept {u : Fin 16} {c : LockoutCause} (hs : P s) : P (logLockout u c s) := by
  unfold logLockout; split <;> exact h.log hs

theorem startStopTimer_kept {c : Fin 16} (hs : P s) : P (startStopTimer c s) :=
  ite_kept (h.post_kept (h.setStopTimer_kept hs)) (h.setStopTimer_kept hs)

theorem stopTest_kept (hs : P s) : P (stopTest s) := by
  unfold stopTest
  split
  · exact h.setStopTimer_kept hs
  · exact h.startStopTimer_kept hs
  · exact ite_kept hs (h.startStopTimer_kept hs)

theorem clearOutstanding_kept {k : OrderKind} {u : Fin 16} (hs : P s) : P (clearOutstanding k u s) :=
  h.modGenset_kept (fun g => by split <;> rfl) hs

theorem settleOwed_kept {u : Fin 16} (hs : P s) : P (settleOwed u s) := by
  unfold settleOwed
  split
  · exact ite_kept (h.submitDispatch_kept hs) hs
  · exact hs

theorem settleUnloaded_kept {u : Fin 16} (hs : P s) : P (settleUnloaded u s) := ite_kept (h.submitDispatch_kept hs) hs

/-! ## Shedding and Restoration -/

theorem setStack_kept {q : List StackEntry} (hs : P s) : P (setStack q s) := h.post_kept (h.modShed_kept hs)

theorem removeEntry_kept {f : Fin 32} (hs : P s) : P (removeEntry f s) :=
  have out := h.setStack_kept (h.modFeeder_kept hs)
  ite_kept (h.post_kept (h.modShed_kept out)) out

theorem takeFeeder_kept {f : Fin 32} {c : ShedCause} {n : Nat} (hs : P s) : P (takeFeeder f c n s) :=
  h.log (h.submitProtective_kept (h.modFeeder_kept (h.setStack_kept (ite_kept (h.removeEntry_kept hs) hs))))

theorem walkEntry_kept {c : ShedCause} {p : ShedEntry → Bool} {i : Fin 32} {w : Walk} (hw : P w.state) :
    P (walkEntry c p i w).state := by
  unfold walkEntry
  simp only
  split
  · exact hw
  · split_ifs <;> [exact hw; exact hw; exact h.takeFeeder_kept hw; exact hw]

theorem walkOver_kept {c : ShedCause} {p : ShedEntry → Bool} {target : Option Int} {l : List (Fin 32)} {w : Walk}
    (hw : P w.state) : P (walkOver c p target l w).state := by
  induction l generalizing w with
  | nil => exact hw
  | cons i rest ih =>
    unfold walkOver
    simp only
    split <;> [exact h.walkEntry_kept hw; exact ih (h.walkEntry_kept hw)]

theorem setStageTimer_kept {i : Fin 8} {t : Timer} (hs : P s) : P (s.setStageTimer i t) := h.modShed_kept hs

theorem stageTrip_kept {i : Fin 8} (hs : P s) : P (stageTrip i s) :=
  h.post_kept (h.walkOver_kept (h.log (h.modShed_kept (h.setStageTimer_kept hs))))

theorem stageTimerExpires_kept {i : Fin 8} (hs : P s) : P (stageTimerExpires i s) := ite_kept (h.stageTrip_kept hs) hs

theorem stageSample_kept {b : Bank} {f : Nat} {i : Fin 8} (hs : P s) : P (stageSample b f i s) := by
  unfold stageSample
  refine ite_kept hs ?_
  split
  · exact ite_kept (ite_kept (h.stageTrip_kept hs) (h.setStageTimer_kept hs)) hs
  · exact ite_kept (h.setStageTimer_kept hs) hs

theorem deficitWalk_kept {n : Nat} {m : List Nat} {t : Int} (hs : P s) : P (deficitWalk n m t s) := by
  unfold deficitWalk
  exact h.modShed_kept (h.walkOver_kept hs)

theorem deficitTest_kept {b : Bank} {f : Nat} (hs : P s) : P (deficitTest b f s) :=
  ite_kept (h.post_kept (h.deficitWalk_kept (h.log (h.modShed_kept hs)))) hs

theorem makeUpWalk_kept {n : Nat} (hs : P s) : P (makeUpWalk n s) := by
  unfold makeUpWalk
  split
  · exact h.deficitWalk_kept (h.log hs)
  · exact hs

theorem shedTripEnd_kept {f : Fin 32} {e : OrderEnd} (hs : P s) : P (shedTripEnd f e s) := by
  unfold shedTripEnd
  split
  · exact hs
  · have told := fun {c : Prop} [Decidable c] {g k x v d} => ite_kept (c := c) (h.removeEntry_kept (f := f) hs)
      (h.log (k := k) (x := x) (v := v) (d := d) (h.modFeeder_kept (i := f) (f := g) (h.removeEntry_kept (f := f) hs)))
    exact ite_kept hs (ite_kept (h.setStack_kept hs) (ite_kept (h.makeUpWalk_kept told) told))

theorem restoreTest_kept (hs : P s) : P (restoreTest s) := by
  unfold restoreTest
  refine ite_kept hs ?_
  split
  · exact h.postRestoreWait_kept hs
  · exact h.postRestoreWait_kept hs
  · split <;> rename_i e
    · exact h.postRestoreWait_kept (h.submitRoutine_out_kept e hs)
    · exact h.postRestoreWait_kept (h.modShed_kept (h.submitRoutine_out_kept e hs))

theorem grantPermission_kept (hs : P s) : P (grantPermission s) := h.post_kept (h.modShed_kept hs)

theorem losePermission_kept (hs : P s) : P (losePermission s) := h.postRestoreWait_kept (h.modShed_kept hs)

theorem withdrawCloses_kept (hs : P s) : P (withdrawCloses s) := h.cancelWhere_kept hs

theorem cancelRestoration_kept (hs : P s) : P (cancelRestoration s) :=
  h.withdrawCloses_kept (ite_kept (h.post_kept (h.modShed_kept hs)) hs)

theorem restoreDelaySample_kept {b : Bank} {f : Nat} (hs : P s) : P (restoreDelaySample b f s) :=
  ite_kept (h.cancelRestoration_kept (h.losePermission_kept hs))
    (ite_kept hs (ite_kept (h.grantPermission_kept hs) (h.modShed_kept hs)))

theorem restoreDelayExpires_kept (hs : P s) : P (restoreDelayExpires s) := ite_kept (h.grantPermission_kept hs) hs

theorem restoreCloseEnd_kept {f : Fin 32} {e : OrderEnd} (hs : P s) : P (restoreCloseEnd f e s) := by
  unfold restoreCloseEnd
  refine ite_kept hs ?_
  have ended := h.modShed_kept (f := fun x => { x with underRestore := none }) hs
  have failed := fun {v} => h.post_kept (l := [.restoreTest]) (h.recompute_kept
    (h.log (k := .feederFailed) (x := feederSubject f) (v := v) (d := detailCloseFailed)
      (h.modFeeder_kept (i := f) (f := fun r => { r with failed := true, mode := .manual }) (h.removeEntry_kept (f := f) ended))))
  cases e with
  | confirmed => exact h.log (h.removeEntry_kept (h.modShed_kept ended))
  | timedOut => exact failed
  | inhibited => exact failed
  | refused => exact failed
  | cancelled => exact h.post_kept ended
  | dropped => exact h.post_kept ended
  | superseded => exact h.post_kept ended

theorem runStart_kept (hs : P s) : P (runStart s) := h.postRestoreWait_kept (h.modShed_kept (h.withdrawCloses_kept hs))

theorem runEnd_kept (hs : P s) : P (runEnd s) := h.restoreTest_kept (h.modShed_kept hs)

theorem startStepInterval_kept {f : Fin 32} {o : BarrierOwner} {n : Nat} (hs : P s) : P (startStepInterval f o n s) :=
  have started := h.modShed_kept hs
  ite_kept (h.post_kept started) started

theorem feederReport_kept {f : Fin 32} (hs : P s) : P (feederReport f s) := by
  unfold feederReport
  split
  · exact ite_kept hs (ite_kept (h.modShed_kept hs) (h.startStepInterval_kept hs))
  · exact hs

theorem stepIntervalExpires_kept (hs : P s) : P (stepIntervalExpires s) := by
  unfold stepIntervalExpires
  split
  · simp only
    split
    · exact h.restoreTest_kept (h.modShed_kept hs)
    · exact h.post_kept (h.modShed_kept hs)
  · exact hs

theorem clearLatches_kept {b : Bank} {f : Nat} (hs : P s) : P (clearLatches b f s) :=
  ite_kept (h.modShed_kept (h.modShed_kept hs)) (h.modShed_kept hs)

theorem shedSample_kept {f : Nat} (hs : P s) : P (shedSample f s) :=
  have tested := h.deficitTest_kept (foldl_kept (fun _ _ ht => h.stageSample_kept ht) (List.finRange 8)
    (h.restoreDelaySample_kept (h.clearLatches_kept hs)))
  ite_kept (h.restoreTest_kept tested) tested

theorem shedFreqChange_kept (hs : P s) : P (shedFreqChange s) := ite_kept hs (h.losePermission_kept (h.modShed_kept hs))

theorem feederMode_kept {f : Fin 32} (hs : P s) : P (feederMode f s) := by
  unfold feederMode
  split
  · exact h.modFeeder_kept hs
  · exact h.withdraw_kept (ite_kept (h.removeEntry_kept hs) hs)

theorem feederRewritten_kept {f : Fin 32} {b : Bool} (hs : P s) : P (feederRewritten f b s) :=
  have off := ite_kept (h.removeEntry_kept hs) hs
  ite_kept (h.modFeeder_kept off) off

theorem restartStage_kept {b : Bank} {i : Fin 8} (hs : P s) : P (restartStage b i s) := by
  unfold restartStage
  split
  · exact hs
  · exact ite_kept (h.setStageTimer_kept hs) (ite_kept (h.post_kept (h.setStageTimer_kept hs)) (h.setStageTimer_kept hs))

theorem restartRestoreDelay_kept {b : Bank} (hs : P s) : P (restartRestoreDelay b s) := by
  unfold restartRestoreDelay
  split
  · exact hs
  · exact ite_kept (h.post_kept (h.modShed_kept hs)) (h.modShed_kept hs)

theorem shedBankSwitch_kept (hs : P s) : P (shedBankSwitch s) := by
  have delayed := h.restartRestoreDelay_kept (b := s.bank)
    (foldl_kept (f := fun t i => restartStage s.bank i t) (fun _ _ ht => h.restartStage_kept ht) (List.finRange 8) hs)
  unfold shedBankSwitch
  simp only
  split
  · exact h.startStepInterval_kept delayed
  · exact delayed

/-! ## Setting Banks -/

theorem dispatchBankSwitch_kept (hs : P s) : P (dispatchBankSwitch s) := by
  unfold dispatchBankSwitch
  simp only
  split
  · exact h.startStopTimer_kept (h.dispatch hs)
  · exact h.dispatch hs

theorem deadBusBankSwitch_kept (hs : P s) : P (deadBusBankSwitch s) := by
  unfold deadBusBankSwitch
  split
  · exact hs
  · exact ite_kept (h.post_kept (h.seq hs)) (h.seq hs)

theorem bankSwitched_kept (hs : P s) : P (bankSwitched s) :=
  h.sendTest_kept (h.deadBusBankSwitch_kept (h.curtailTimer (h.dispatchBankSwitch_kept (h.shedBankSwitch_kept
    (h.recompute_kept hs)))))

theorem selectBank_kept {b : Fin 4} {c : SwitchCause} (hs : P s) : P (selectBank b c s) :=
  ite_kept hs (h.bankSwitched_kept (h.log (h.activeBank hs)))

/-! ## The Sequencer, apart from the ends of its steps -/

theorem dropBarrier_kept (hs : P s) : P (dropBarrier s) := h.modShed_kept hs

theorem handRunEnd_kept (hs : P s) : P (handRunEnd s) := h.post_kept hs

theorem pushLeftOpen_kept {f : Fin 32} (hs : P s) : P (pushLeftOpen f s) :=
  ite_kept hs (h.log (h.setStack_kept (h.modFeeder_kept hs)))

theorem completeRun_kept (hs : P s) : P (completeRun s) :=
  h.handRunEnd_kept (h.log (h.dropBarrier_kept (h.feeders
    (foldl_kept (fun _ _ ht => h.pushLeftOpen_kept ht) (List.finRange 32) (h.modSeq_kept hs)))))

theorem closeStep_kept {e : StepEnd} (hs : P s) : P (closeStep e s) :=
  h.log (h.dropBarrier_kept (h.cancelWhere_kept (h.modSeq_kept hs)))

theorem startRun_kept {c : RunCause} (hs : P s) : P (startRun c s) :=
  h.post_kept (h.setStack_kept (h.feeders (h.log (h.modSeq_kept hs))))

theorem declareBlackout_kept (hs : P s) : P (declareBlackout s) :=
  have logged := h.log (h.modSeq_kept hs)
  ite_kept (h.startRun_kept logged) logged

theorem deadBusTest_kept {b : Bool} (hs : P s) : P (deadBusTest b s) :=
  have cleared := ite_kept (h.modSeq_kept hs) hs
  ite_kept (h.modSeq_kept cleared)
    (ite_kept cleared (ite_kept (h.declareBlackout_kept cleared) (h.modSeq_kept cleared)))

theorem deadBusExpires_kept (hs : P s) : P (deadBusExpires s) := ite_kept (h.declareBlackout_kept hs) hs

theorem setArmed_kept {b : Bool} (hs : P s) : P (setArmed b s) := h.modSeq_kept hs

end KeptByUpdates

/-- R84: what a lockout does before the state changes: the genset's orders and crank requests are withdrawn, the lockout is logged
and its control fields are cleared. -/
def lockoutReady (cause : LockoutCause) (u : Fin 16) (s : State) : State :=
  let own := withdrawCrank (fun _ => true) u (dispatchWithdraw none u s)
  let agent := withdraw [.operator] (.unit u) (some .close) (withdraw [.operator] (.unit u) (some .crank) own)
  (logLockout u cause agent).modGenset u fun g => { g with owed := none, attempts := 0, startCause := .absent, lockout := cause }

theorem lockOut_eq (c : LockoutCause) (u : Fin 16) : lockOut c u s = changeState u .lockedOut (lockoutReady c u s) := rfl

theorem KeptByUpdates.lockoutReady_kept (h : KeptByUpdates P) {c : LockoutCause} {u : Fin 16} (hs : P s) :
    P (lockoutReady c u s) := by
  unfold lockoutReady
  exact h.modGenset_kept (fun _ => rfl) (h.logLockout_kept (h.withdraw_kept (h.withdraw_kept (h.withdrawCrank_kept
    (h.dispatchWithdraw_kept hs)))))

namespace KeptByHandovers

variable (h : KeptByHandovers P)
include h

/-! ## Diesel Dispatch -/

theorem toClosing_kept {u : Fin 16} (hs : P s) : P (toClosing u s) := h.submitDispatch_kept (h.changeState hs)

theorem toCooldown_kept {u : Fin 16} (hs : P s) : P (toCooldown u s) := h.startStateTimer_kept (h.changeState hs)

theorem toDerived_kept {b : Bool} {u : Fin 16} (hs : P s) : P (toDerived b u s) := by
  unfold toDerived
  split
  · exact h.toCooldown_kept hs
  · exact ite_kept (h.log (h.changeState hs)) (h.changeState hs)
  · exact h.changeState hs

theorem toUnavailable_kept {u : Fin 16} (hs : P s) : P (toUnavailable u s) :=
  h.changeState (h.modGenset_kept (fun _ => rfl) (h.withdrawCrank_kept (h.dispatchWithdraw_kept hs)))

theorem lockOut_kept {c : LockoutCause} {u : Fin 16} (hs : P s) : P (lockOut c u s) :=
  h.changeState (h.lockoutReady_kept hs)

theorem toStartQueued_kept {u : Fin 16} (hs : P s) : P (toStartQueued u s) := by
  have logged := fun {v d} => h.log (k := .startRequest) (x := unitSubject u) (v := v) (d := d)
    (h.changeState (u := u) (g := .startQueued) hs)
  unfold toStartQueued
  simp only
  split <;> [exact h.post_kept logged; exact logged]

theorem startFrom_kept {c : StartCause} {u : Fin 16} (hs : P s) : P (startFrom c u s) := by
  unfold startFrom
  split
  · exact h.toClosing_kept (h.modGenset_kept (fun _ => rfl) hs)
  · exact h.toStartQueued_kept (h.modGenset_kept (fun _ => rfl) hs)
  · exact hs

theorem reportInState_kept {u : Fin 16} (hs : P s) : P (reportInState u s) := by
  unfold reportInState
  refine ite_kept (h.tripUnit hs) ?_
  have failed := h.lockOut_kept (u := u) (c := .startFail) hs
  split
  · exact h.lockOut_kept hs
  iterate 4 exact failed
  · exact h.log (h.changeState hs)
  · exact h.toDerived_kept hs
  · exact hs

theorem gensetReport_kept {u : Fin 16} (hs : P s) : P (gensetReport u s) := by
  have free := ite_kept (c := (s.units[u]).isLocal = true) (h.operatorWithdraw_kept (u := u) hs) hs
  unfold gensetReport
  refine ite_kept hs ?_
  simp only
  split
  · exact ite_kept (h.toUnavailable_kept free) (h.toDerived_kept free)
  · exact ite_kept free (h.toDerived_kept free)
  · exact free
  · exact ite_kept (h.toUnavailable_kept free) (h.reportInState_kept free)

theorem gensetMode_kept {u : Fin 16} (hs : P s) : P (gensetMode u s) := by
  unfold gensetMode
  simp only
  split
  · exact hs
  · exact ite_kept hs (h.toDerived_kept hs)
  · exact ite_kept (h.toUnavailable_kept hs) hs

theorem clearLockout_kept {u : Fin 16} (hs : P s) : P (clearLockout u s) :=
  have cleared := h.log (h.modGenset_kept (u := u) (f := fun g => { g with lockout := .absent }) (fun _ => rfl) hs)
  ite_kept (h.toUnavailable_kept cleared) (h.toDerived_kept cleared)

theorem takeGrant_kept {u : Fin 16} (hs : P s) : P (takeGrant u s) :=
  ite_kept (h.submitDispatch_kept (h.changeState (h.modGenset_kept (fun _ => rfl) hs))) hs

theorem crankEnds_kept {u : Fin 16} {e : OrderEnd} (hs : P s) : P (crankEnds u e s) :=
  ite_kept (ite_kept (h.toCooldown_kept hs) (h.changeState hs))
    (ite_kept (h.startStateTimer_kept (h.changeState hs))
      (ite_kept (h.startStateTimer_kept (h.changeState hs)) (h.lockOut_kept hs)))

theorem closeEnds_kept {u : Fin 16} {e : OrderEnd} (hs : P s) : P (closeEnds u e s) :=
  ite_kept (h.log (h.changeState (h.modGenset_kept (fun _ => rfl) hs))) (h.lockOut_kept hs)

theorem stopTimerExpires_kept (hs : P s) : P (stopTimerExpires s) := by
  unfold stopTimerExpires
  split
  · exact ite_kept (ite_kept (h.submitDispatch_kept (h.changeState (h.setStopTimer_kept hs))) (h.setStopTimer_kept hs)) hs
  · exact hs

theorem unloadEnds_kept {u : Fin 16} {e : OrderEnd} (hs : P s) : P (unloadEnds u e s) :=
  ite_kept (h.submitDispatch_kept (h.changeState hs)) (h.log (h.changeState hs))

theorem openEnds_kept {u : Fin 16} {e : OrderEnd} (hs : P s) : P (openEnds u e s) :=
  ite_kept (h.toCooldown_kept hs) (h.lockOut_kept hs)

theorem stopEnds_kept {u : Fin 16} {e : OrderEnd} (hs : P s) : P (stopEnds u e s) :=
  ite_kept (h.log (h.changeState hs)) (h.lockOut_kept hs)

theorem stateTimerExpires_kept {g : GensetState} {u : Fin 16} (hs : P s) : P (stateTimerExpires g u s) := by
  unfold stateTimerExpires
  refine ite_kept ?_ hs
  split
  · exact h.toClosing_kept hs
  · exact h.toStartQueued_kept hs
  · exact h.submitDispatch_kept (h.changeState hs)
  · exact hs

theorem dispatchOrderEnd_kept {u : Fin 16} {k : OrderKind} {e : OrderEnd} {own : Bool} (hs : P s) :
    P (dispatchOrderEnd u k e own s) := by
  have out := h.clearOutstanding_kept (k := k) (u := u) hs
  unfold dispatchOrderEnd
  refine ite_kept hs (ite_kept out ?_)
  split
  · exact h.modGenset_kept (fun _ => rfl) out
  · exact h.modGenset_kept (fun _ => rfl) out
  · exact h.crankEnds_kept out
  · exact h.closeEnds_kept out
  · exact h.unloadEnds_kept out
  · exact h.openEnds_kept out
  · exact h.stopEnds_kept out
  · exact out

theorem recallUnit_kept {u : Fin 16} (hs : P s) : P (recallUnit u s) :=
  h.changeState (h.submitDispatch_kept (h.dispatchWithdraw_kept hs))

theorem dispatchEval_kept (hs : P s) : P (dispatchEval s) := by
  have settled : P (forUnits settleUnloaded (forUnits settleOwed s)) :=
    forUnits_kept (fun _ _ ht => h.settleUnloaded_kept ht) (forUnits_kept (fun _ _ ht => h.settleOwed_kept ht) hs)
  exact ite_kept settled (foldl_kept (fun _ _ ht => h.startFrom_kept ht) _
    (forUnits_kept (fun _ _ ht => ite_kept (h.recallUnit_kept ht) ht) settled))

theorem dispatchTimerExpires_kept (hs : P s) : P (dispatchTimerExpires s) :=
  ite_kept (h.dispatchEval_kept (h.dispatch hs)) hs

theorem wantTest_kept {u : Fin 16} (hs : P s) : P (wantTest u s) := ite_kept (h.startFrom_kept hs) hs

theorem startAsk_kept {u : Fin 16} (hs : P s) : P (startAsk u s) := by
  have wanted := h.modGenset_kept (u := u) (f := fun g => { g with want := true }) (fun _ => rfl) hs
  unfold startAsk
  simp only
  split
  · exact h.post_kept hs
  · exact h.post_kept hs
  · exact h.post_kept (h.recallUnit_kept hs)
  · exact h.startFrom_kept wanted
  · exact h.startFrom_kept wanted
  · exact wanted

theorem withdrawWant_kept {u : Fin 16} (hs : P s) : P (withdrawWant u s) := by
  have clear := h.modGenset_kept (u := u) (f := fun g => { g with want := false }) (fun _ => rfl) hs
  unfold withdrawWant
  refine ite_kept hs (ite_kept clear ?_)
  simp only
  split
  · exact h.changeState (h.modGenset_kept (fun _ => rfl) (h.withdrawCrank_kept clear))
  · exact h.changeState (h.modGenset_kept (fun _ => rfl) (h.withdrawCrank_kept clear))
  · exact ite_kept (h.modGenset_kept (fun _ => rfl) clear) (h.changeState (h.modGenset_kept (fun _ => rfl)
      (h.withdrawCrank_kept (h.dispatchWithdraw_kept clear))))
  · exact clear

/-! ## The Sequencer -/

theorem abortRun_kept {c : AbortCause} (hs : P s) : P (abortRun c s) :=
  h.handRunEnd_kept (h.log (h.dropBarrier_kept (h.recompute_kept (h.feeders
    (forUnits_kept (fun _ _ ht => h.withdrawWant_kept ht) (h.cancelWhere_kept (h.modSeq_kept hs)))))))

theorem pushRecord_kept {c : SuspendCause} (hs : P s) : P (pushRecord c s) :=
  ite_kept (h.abortRun_kept hs) (h.log (h.modSeq_kept hs))

theorem stepFailed_kept (hs : P s) : P (stepFailed s) := by
  unfold stepFailed
  split
  · exact h.abortRun_kept hs
  · exact h.postFirst_kept hs
  · exact h.pushRecord_kept hs

theorem endStep_kept {e : StepEnd} (hs : P s) : P (endStep e s) :=
  ite_kept (h.postFirst_kept (h.closeStep_kept hs)) (h.stepFailed_kept (h.closeStep_kept hs))

theorem stepBecomes_kept {e : StepEnd} (hs : P s) : P (stepBecomes e s) := by
  unfold stepBecomes
  refine ite_kept hs ?_
  split
  · exact h.endStep_kept hs
  · exact h.endStep_kept hs
  · exact ite_kept hs (h.modSeq_kept hs)
  · exact hs

theorem continueStep_kept {t : Timer} (hs : P s) : P (continueStep t s) := by
  have out := h.modSeq_kept (f := fun q => { q with state := s.stepRec.kind.runState, stepTimeout := t }) hs
  unfold continueStep
  refine ite_kept (h.postFirst_kept out) ?_
  split
  · exact h.endStep_kept out
  · split
    · exact ite_kept (h.endStep_kept out) out
    · exact ite_kept (h.endStep_kept out) out
    · exact out

theorem popRecords_kept {n : Nat} (hs : P s) : P (popRecords n s) := by
  induction n generalizing s with
  | zero => exact hs
  | succ n ih =>
    unfold popRecords
    split
    · exact hs
    · have selected := fun {f b k x v d} => h.selectBank_kept (b := b) (c := .pop)
        (h.log (k := k) (x := x) (v := v) (d := d) (h.modSeq_kept (f := f) hs))
      simp only
      split
      · exact h.continueStep_kept selected
      · exact ite_kept (ih selected) selected

theorem popTop_kept (hs : P s) : P (popTop s) := h.popRecords_kept hs

theorem popProtection_kept (hs : P s) : P (popProtection s) := by
  unfold popProtection
  split
  · exact ite_kept (h.popTop_kept hs) hs
  · exact hs

theorem suspendRun_kept {c : SuspendCause} (hs : P s) : P (suspendRun c s) :=
  ite_kept (ite_kept (h.popProtection_kept (h.pushRecord_kept hs)) (h.pushRecord_kept hs)) hs

theorem submitStep_kept {l : List Order} (hs : P s) : P (submitStep l s) := by
  induction l generalizing s with
  | nil => exact hs
  | cons o rest ih =>
    unfold submitStep
    split <;> rename_i e
    · exact h.stepBecomes_kept (h.submitRoutine_out_kept e hs)
    · exact ih (h.modSeq_kept (h.submitRoutine_out_kept e hs))

theorem beginOpenFeeders_kept (hs : P s) : P (beginOpenFeeders s) := by
  unfold beginOpenFeeders
  split
  · exact h.stepBecomes_kept hs
  · exact h.submitStep_kept hs

theorem beginStartGenset_kept {n : Nat} (hs : P s) : P (beginStartGenset n s) := by
  unfold beginStartGenset
  split
  · exact ite_kept (h.post_kept hs) (h.stepBecomes_kept hs)
  · exact h.stepBecomes_kept hs

theorem skipOwner_kept {f : Fin 32} (hs : P s) : P (skipOwner f s) := h.stepBecomes_kept (h.log hs)

theorem beginCloseFeeder_kept {n : Nat} (hs : P s) : P (beginCloseFeeder n s) := by
  unfold beginCloseFeeder
  split
  · exact ite_kept (h.skipOwner_kept hs) (h.submitStep_kept hs)
  · exact hs

theorem beginWaitTime_kept {n : Nat} (hs : P s) : P (beginWaitTime n s) :=
  ite_kept (h.stepBecomes_kept hs) (h.modSeq_kept hs)

theorem beginReleasePv_kept (hs : P s) : P (beginReleasePv s) :=
  h.stepBecomes_kept (ite_kept hs (h.post_kept (h.modSeq_kept hs)))

theorem actStep_kept {r : StepRec} (hs : P s) : P (actStep r s) := by
  unfold actStep
  split
  · exact h.beginOpenFeeders_kept hs
  · exact h.beginStartGenset_kept hs
  · exact h.beginCloseFeeder_kept hs
  · exact h.beginWaitTime_kept hs
  · exact ite_kept (h.stepBecomes_kept hs) hs
  · exact h.stepBecomes_kept hs
  · split <;> [exact h.stepBecomes_kept (h.selectBank_kept hs); exact hs]
  · exact h.beginReleasePv_kept hs
  · exact h.completeRun_kept hs

theorem beginStep_kept {n : Nat} (hs : P s) : P (beginStep n s) := by
  unfold beginStep
  refine ite_kept hs ?_
  split
  · exact h.completeRun_kept (h.modSeq_kept hs)
  · exact ite_kept (h.modSeq_kept hs) (h.actStep_kept (h.modSeq_kept hs))

theorem openFeedersTold_kept {f : Fin 32} {e : OrderEnd} (hs : P s) : P (openFeedersTold f e s) :=
  ite_kept (h.stepBecomes_kept hs) (ite_kept (h.stepBecomes_kept hs) hs)

theorem closeFeederTold_kept {f : Fin 32} {e : OrderEnd} (hs : P s) : P (closeFeederTold f e s) := by
  unfold closeFeederTold
  split
  · exact h.modShed_kept hs
  · exact ite_kept (h.skipOwner_kept hs) (h.stepBecomes_kept hs)
  · exact ite_kept (h.skipOwner_kept hs) (h.stepBecomes_kept hs)
  · exact h.stepBecomes_kept hs

theorem seqOrderEnd_kept {o : Order} {e : OrderEnd} (hs : P s) : P (seqOrderEnd o e s) := by
  unfold seqOrderEnd
  split
  · exact hs
  · refine ite_kept hs ?_
    simp only
    split
    · exact h.openFeedersTold_kept (h.modSeq_kept hs)
    · exact h.closeFeederTold_kept (h.modSeq_kept hs)
    · exact h.modSeq_kept hs

theorem startAnswer_kept {u : Fin 16} {b : Bool} (hs : P s) : P (startAnswer u b s) := ite_kept (h.stepBecomes_kept hs) hs

theorem barrierEnd_kept {f : Fin 32} (hs : P s) : P (barrierEnd f s) := ite_kept (h.stepBecomes_kept hs) hs

theorem waitFreqTest_kept (hs : P s) : P (waitFreqTest s) := ite_kept (h.stepBecomes_kept hs) hs

theorem waitTimeExpires_kept (hs : P s) : P (waitTimeExpires s) := ite_kept (h.stepBecomes_kept hs) hs

theorem stepTimeoutExpires_kept (hs : P s) : P (stepTimeoutExpires s) := ite_kept (h.stepBecomes_kept hs) hs

/-! ## Hand-overs -/

theorem ownerTold_kept {o : Order} {e : OrderEnd} {own : Bool} (hs : P s) : P (ownerTold o e own s) := by
  unfold ownerTold
  split
  · exact h.shedTripEnd_kept hs
  · exact h.shedTripEnd_kept hs
  · exact h.restoreCloseEnd_kept hs
  · exact h.dispatchOrderEnd_kept hs
  · exact h.limitOrderEnd_kept hs
  · exact h.seqOrderEnd_kept hs
  · exact hs

/-- A hand-over keeps what its block's updates keep. -/
theorem handle_kept (x : Handover) (hs : P s) : P (handle x s) := by
  cases x with
  | stopTest => exact h.stopTest_kept hs
  | restoreTest => exact h.restoreTest_kept hs
  | freqChange => exact h.post_kept (h.waitFreqTest_kept (h.shedFreqChange_kept hs))
  | sample f => exact h.post_kept (h.shedSample_kept (h.formRocof_kept hs))
  | sampleJobs f => exact h.post_kept (h.waitFreqTest_kept hs)
  | feederReport f => exact h.feederReport_kept hs
  | pressure k => exact h.pressureReady_kept hs
  | deadBusTest b => exact h.deadBusTest_kept hs
  | taggedReport t g r a => exact h.matchReport_kept hs
  | inhibitChange t => exact h.inhibitChange_kept hs
  | setpointCopy d v => exact h.setpointCopy_kept hs
  | sendTest => exact h.sendTest_kept hs
  | gensetReport u => exact h.gensetReport_kept hs
  | orderEnd o e own => exact h.ownerTold_kept hs
  | crankOutcome u p b => exact h.crankOutcome_kept hs
  | crankRequest r => exact h.requestCrank_kept hs
  | grant u => exact h.takeGrant_kept hs
  | operatorGrant r => exact h.operatorGrant_kept hs
  | operatorWithdraw u => exact h.operatorWithdraw_kept hs
  | dispatchEval => exact h.dispatchEval_kept hs
  | curtailEval => exact h.curtailEval_kept hs
  | wantTest u => exact h.wantTest_kept hs
  | stateTimerEnd u => exact h.stateTimerExpires_kept hs
  | stopTimerEnd => exact h.stopTimerExpires_kept hs
  | startAsk u => exact h.startAsk_kept hs
  | startAnswer u b => exact h.startAnswer_kept hs
  | shedTaken => exact h.suspendRun_kept hs
  | permissionGrant => exact h.popProtection_kept hs
  | barrierEnd f => exact h.barrierEnd_kept hs
  | stageEnd i => exact h.stageTimerExpires_kept hs
  | restoreDelayEnd => exact h.restoreDelayExpires_kept hs
  | stepIntervalEnd => exact h.stepIntervalExpires_kept hs
  | deadBusEnd => exact h.deadBusExpires_kept hs
  | feederRewritten f b => exact h.feederRewritten_kept hs
  | runStart => exact h.runStart_kept hs
  | runEnd => exact h.runEnd_kept hs
  | stepBegin n => exact h.beginStep_kept hs

/-- The whole cascade of a command keeps it. -/
theorem settle_kept (hs : P s) : P (settle s) :=
  settle_keeps (fun _ => h.overrun) (fun _ => h.handovers) (fun x _ => h.handle_kept x) hs

theorem run_kept {event : State → State} (he : ∀ t, P t → P (event t)) {t : State} (e : run event s = .next t) (hs : P s) :
    P t := run_keeps (fun _ => h.overrun) (fun _ => h.handovers) (fun x _ => h.handle_kept x) he hs e

theorem runWhenUp_kept {event : State → State} (he : ∀ t, P t → P (event t)) {t : State} (e : runWhenUp event s = .next t)
    (hs : P s) : P t := h.run_kept (fun t ht => ite_kept (he t ht) ht) e hs

end KeptByHandovers

/-! ## A taken UNIT write -/

/-- R78, R186: a taken UNIT write up to the recomputation: the record is replaced and logged, and what waits for it is withdrawn. -/
def unitFreed (u : Fin 16) (kind : UnitKind) (o : Octets) (by_ : StationId) (s : State) : State :=
  let old := s.units[u]
  let new := unitAfterWrite kind o old
  let logged := logWrite .unit u.val by_ (s.modUnit u fun _ => new)
  let released := if old.kind ≠ new.kind || old.device ≠ new.device || kind = .unused then releaseTarget (.unit u) logged
    else logged
  let dropped := dropGenset u old (kind = .genset) released
  if new.used then withdrawOperator (.unit u) new.mode dropped else dropped

theorem replaceUnit_eq (u : Fin 16) (kind : UnitKind) (o : Octets) (by_ : StationId) (s : State) :
    replaceUnit u kind o by_ s =
      let chosen := chooseSource (recompute (unitFreed u kind o by_ s))
      writtenStateTest s.units[u] (unitAfterWrite kind o s.units[u])
        (plantQueue u s.units[u] (if kind = .genset then gensetMode u chosen else chosen)) := rfl

namespace KeptByUpdates

variable (h : KeptByUpdates P)
include h

theorem logWrite_kept {t : TableId} {i : Nat} {b : StationId} (hs : P s) : P (logWrite t i b s) := h.log hs

theorem withdrawOperator_kept {t : Target} {m : Mode} (hs : P s) : P (withdrawOperator t m s) :=
  ite_kept (h.withdraw_kept hs) hs

theorem dropGenset_kept {u : Fin 16} {old : UnitRec} {b : Bool} (hs : P s) : P (dropGenset u old b s) :=
  ite_kept hs (ite_kept (h.post_kept (h.withdrawCrank_kept hs)) (h.withdrawCrank_kept hs))

theorem plantQueue_kept {u : Fin 16} {old : UnitRec} (hs : P s) : P (plantQueue u old s) :=
  ite_kept hs (h.withdrawLimits_kept (ite_kept (h.lowerQueued_kept hs) hs))

theorem unitFreed_kept {u : Fin 16} {k : UnitKind} {o : Octets} {b : StationId}
    (hs : P (s.modUnit u fun _ => unitAfterWrite k o s.units[u])) : P (unitFreed u k o b s) := by
  have logged := h.logWrite_kept (t := .unit) (i := u.val) (b := b) hs
  let old := s.units[u]
  have released := ite_kept (c := (old.kind ≠ (unitAfterWrite k o old).kind || old.device ≠ (unitAfterWrite k o old).device ||
    k = .unused) = true) (h.releaseTarget_kept (t := .unit u) logged) logged
  have dropped := h.dropGenset_kept (u := u) (old := old) (b := decide (k = .genset)) released
  exact ite_kept (h.withdrawOperator_kept dropped) dropped

end KeptByUpdates

theorem KeptByHandovers.replaceUnit_kept (h : KeptByHandovers P) {u : Fin 16} {k : UnitKind} {o : Octets} {b : StationId}
    (hs : P (chooseSource (recompute (unitFreed u k o b s)))) : P (replaceUnit u k o b s) := by
  rw [replaceUnit_eq]
  have queued := h.plantQueue_kept (u := u) (old := s.units[u]) (ite_kept (c := k = .genset) (h.gensetMode_kept (u := u) hs) hs)
  exact ite_kept (h.post_kept queued) queued

/-! ## Commands -/

/-- The property survives what only a command itself does: the pins and ports, time, Sample Intake, and the writes of the agent. -/
structure KeptByCommands (P : State → Prop) : Prop extends KeptByHandovers P where
  pending : ∀ {s : State} {l : List Instr}, P s → P { s with pending := l }
  phase : ∀ {s : State} {x : Phase}, P s → P { s with phase := x }
  holdCold : ∀ {s : State}, P s → P (holdCold s)
  coldStart : ∀ {s : State} {fsel : Bool} {sid : BitVec 4}, P s → P (State.coldStart fsel sid s.pending)
  warmReset : ∀ {s : State} {d : Nat} {m : StationId}, P s → P (warmReset d m s)
  readLink : ∀ {s : State} {p : Port} {up : Bool}, P s → P (readLink p up s)
  transmit : ∀ {s : State} {p : Port}, P s → P (s.modPort p PortState.transmit)
  forward : ∀ {s : State} {p : Port} {f : Frame}, P s → P (forward p f s)
  malformed : ∀ {s : State} {p : Port} {f : Frame}, P s → P (malformed p f s)
  tick : ∀ {s : State}, P s → P (tick s)
  takeSampleReport : ∀ {s : State} {r : SampleReport}, P s → P (takeSampleReport r s)
  takeSetpoint : ∀ {s : State} {t : Telegram}, P s → P (takeSetpoint t s)
  staleExpires : ∀ {s : State} {i : Fin 64}, P s → P (staleExpires i s)
  retired : ∀ {s : State} {r : Option Retired}, P s → P { s with retired := r }
  beaconTimer : ∀ {s : State} {n : Nat}, P s → P { s with beaconTimer := n }
  managers : ∀ {s : State} {v : Vector Manager 4}, P s → P { s with managers := v }
  openRecord : ∀ {s : State} {r : Option OpenRecord}, P s → P { s with openRecord := r }
  readEvents : ∀ {s : State} {r : Request}, P s → P (serveReadEvents r s).state
  rewindEvents : ∀ {s : State}, P s → P (serveRewindEvents s).state
  replaceSource : ∀ {s : State} {i : Fin 64} {e : SourceEntry} {b : StationId}, e.fresh = false → P s →
    P (replaceSource i e b s)
  replaceUnit : ∀ {s : State} {u : Fin 16} {k : UnitKind} {o : Octets} {b : StationId}, P s → P (replaceUnit u k o b s)
  profiles : ∀ {s : State} {v : Vector Profile 16}, P s → P { s with profiles := v }
  banks : ∀ {s : State} {v : Vector Bank 4}, P s → P { s with banks := v }
  replaceSettings : ∀ {s : State} {x : Settings} {b : StationId}, P s → P (replaceSettings x b s)
  changeIdentity : ∀ {s : State} {i : StationId} {t : BitVec 16}, P s → P (changeIdentity i t s)

theorem taken_kept {checks : List (Bool × Status)} {act : State → State} (ha : ∀ t, P t → P (act t)) (hs : P s) :
    P (taken checks act s).1 := by
  unfold taken
  split <;> [exact ha _ hs; exact hs]

/-- R199: a SOURCE entry read from a write is not FRESH. -/
theorem sourceFrom_fresh {o : Octets} {e : SourceEntry} (h : sourceFrom o = some e) : e.fresh = false := by
  obtain ⟨role, -, rfl⟩ := Option.map_eq_some_iff.mp h
  rfl

namespace KeptByCommands

variable (h : KeptByCommands P)
include h

/-! ## The tables -/

theorem rewriteFeeder_kept {f : Fin 32} {b : Bool} (hs : P s) : P (rewriteFeeder f b s) :=
  h.cancelTarget_kept (h.post_kept (h.cancelWhere_kept (h.idleTarget_kept hs)))

theorem replaceFeeder_kept {f : Fin 32} {used : Bool} {o : Octets} {b : StationId} (hs : P s) :
    P (replaceFeeder f used o b s) := by
  have logged := h.logWrite_kept (t := .feeder) (i := f.val) (b := b)
    (h.modFeeder_kept (i := f) (f := fun _ => feederAfterWrite used o s.feeders[f]) hs)
  have freed := ite_kept (c := used = true)
    (h.withdrawOperator_kept (t := .feeder f) (m := (feederAfterWrite used o s.feeders[f]).mode) logged) logged
  exact ite_kept (h.recompute_kept (h.rewriteFeeder_kept freed)) (h.feederMode_kept (h.recompute_kept freed))

theorem replaceManager_kept {k : Fin 4} {id b : StationId} (hs : P s) : P (replaceManager k id b s) :=
  have out := h.logWrite_kept (h.managers hs)
  ite_kept (h.openRecord out) out

/-- A WRITE_ENTRY keeps it, whatever the table. -/
theorem writeEntry_kept {t : TableId} {i : Nat} {o : Octets} {b : StationId} (hs : P s) : P (writeEntry t i o b s).1 := by
  unfold writeEntry
  split
  · unfold writeSourceEntry
    split
    · exact hs
    · split
      · exact h.replaceSource rfl hs
      · split
        · exact hs
        · rename_i e he
          exact taken_kept (fun _ => h.replaceSource (sourceFrom_fresh he)) hs
  · unfold writeUnitEntry
    split <;> [exact hs; split <;> [exact hs; exact taken_kept (fun _ => h.replaceUnit) hs]]
  · unfold writeFeederEntry
    split <;> [exact hs; exact taken_kept (fun _ => h.replaceFeeder_kept) hs]
  · unfold writeProfileEntry
    split <;> [exact hs; exact taken_kept (fun _ ht => h.logWrite_kept (h.profiles ht)) hs]
  · unfold writeShedEntry
    split <;> [exact hs; exact taken_kept (fun _ ht => h.logWrite_kept (h.modShed_kept ht)) hs]
  · unfold writeProgramEntry
    split <;> [exact hs; split <;> [exact taken_kept (fun _ ht => h.logWrite_kept (h.modSeq_kept ht)) hs; exact hs]]
  · unfold writeBankEntry
    split <;> [exact hs; exact taken_kept (fun _ ht => h.logWrite_kept (h.banks ht)) hs]
  · unfold writeSettingsEntry
    split <;> [exact hs; exact taken_kept (fun _ => h.replaceSettings) hs]
  · unfold writeManagersEntry
    split <;> [exact hs; exact taken_kept (fun _ => h.replaceManager_kept) hs]

/-! ## The Management Agent -/

theorem admitRequest_kept {r : Request} {out : State} (e : admitRequest r s = some out) (hs : P s) : P out := by
  rw [admitRequest_frame e]
  exact h.openRecord (r := out.openRecord) (h.managers (v := out.managers) hs)

theorem setUnitMode_kept {u : Fin 16} {m : Mode} (hs : P s) : P (setUnitMode u m s) := by
  have freed := h.withdrawOperator_kept (t := .unit u) (m := m)
    (h.recompute_kept (h.modUnit (u := u) (f := fun r => { r with mode := m }) (fun _ => ⟨rfl, rfl, rfl⟩) hs))
  unfold setUnitMode
  simp only
  split
  · exact h.gensetMode_kept (ite_kept (h.operatorWithdraw_kept freed) freed)
  · exact h.pvMode_kept freed
  · exact freed

theorem setFeederMode_kept {f : Fin 32} {m : Mode} (hs : P s) : P (setFeederMode f m s) :=
  h.feederMode_kept (h.withdrawOperator_kept (h.recompute_kept (h.modFeeder_kept hs)))

theorem operateRecord_kept {t : Target} {k : Option OrderKind} {v : Int} (hs : P s) : P (operateRecord t k v s).state := by
  have submits : ∀ {k}, P (operateSubmit t k v s).state := by
    intro k
    unfold operateSubmit
    simp only
    split <;> rename_i e
    · exact hs
    · exact h.submitRoutine_out_kept e hs
  unfold operateRecord
  split_ifs
  · exact hs
  · split
    · exact hs
    · split_ifs
      · exact hs
      · exact hs
      · split
        · unfold operateCrank
          split_ifs <;> [exact hs; exact hs; exact h.post_kept hs]
        · exact submits

theorem serveSetMode_kept {r : Request} (hs : P s) : P (serveSetMode r s).state := by
  unfold serveSetMode
  split
  · exact hs
  · split_ifs
    · exact hs
    · split <;> exact hs
    · split
      · exact hs
      · split <;> [exact h.setUnitMode_kept hs; exact h.setFeederMode_kept hs]

theorem serveOperate_kept {r : Request} (hs : P s) : P (serveOperate r s).state := by
  unfold serveOperate
  split
  · exact hs
  · split_ifs <;> [exact hs; exact h.operateRecord_kept hs]

theorem serveResume_kept (hs : P s) : P (serveResume s).state := by
  unfold serveResume
  split_ifs
  · exact hs
  · split
    · split_ifs <;> [exact h.popTop_kept hs; exact hs]
    · exact hs

theorem serveBy_kept {k : RequestKind} {r : Request} (hs : P s) : P (serveBy k r s).state := by
  cases k with
  | readEntry =>
    simp only [serveBy, serveReadEntry]
    split <;> [exact hs; split <;> exact hs]
  | writeEntry =>
    simp only [serveBy, serveWriteEntry]
    split <;> [exact hs; (split_ifs <;> [exact hs; exact h.writeEntry_kept hs])]
  | readSheet => exact hs
  | readEvents => exact h.readEvents hs
  | rewindEvents => exact h.rewindEvents hs
  | selectBank =>
    simp only [serveBy, serveSelectBank]
    split <;> [exact hs; exact h.selectBank_kept hs]
  | setMode => exact h.serveSetMode_kept hs
  | operate => exact h.serveOperate_kept hs
  | clearLockout =>
    simp only [serveBy, serveClearLockout]
    split <;> [exact hs; (split_ifs <;> [exact h.clearLockout_kept hs; exact hs])]
  | arm =>
    simp only [serveBy, serveArm]
    split_ifs <;> [exact hs; exact h.setArmed_kept hs]
  | disarm =>
    simp only [serveBy, serveArm]
    split_ifs <;> [exact hs; exact h.setArmed_kept hs]
  | beginRestore =>
    simp only [serveBy, serveBeginRestore]
    split_ifs <;> [exact hs; exact h.startRun_kept hs]
  | hold =>
    simp only [serveBy, serveHold]
    split_ifs <;> [exact h.suspendRun_kept hs; exact hs]
  | resume => exact h.serveResume_kept hs
  | warmReset => exact hs

theorem serve_kept {r : Request} (hs : P s) : P (serve r s).state := by
  cases hk : ofCodeFromOne requestKindsFromOne r.kind with
  | none =>
    unfold serve
    rw [hk]
    exact hs
  | some k =>
    rw [serve_kind hk]
    exact h.serveBy_kept hs

theorem takeAfter_kept {a : AfterEffect} {m : StationId} (hs : P s) : P (takeAfter a m s) := by
  cases a with
  | nothing => exact hs
  | identity i t => exact h.changeIdentity hs
  | warmReset => exact h.warmReset hs

theorem takeRequest_kept {r : Request} (hs : P s) : P (takeRequest r s) := by
  unfold takeRequest
  split
  · exact hs
  · rename_i e
    exact h.takeAfter_kept (h.formTelegram (h.settle_kept (h.serve_kept (h.admitRequest_kept e hs))))

/-! ## Frames and timers -/

theorem takePositionReport_kept {r : PositionReport} (hs : P s) : P (takePositionReport r s) := by
  unfold takePositionReport
  split
  · exact hs
  · rename_i u _
    have wrote := h.modUnit (u := u) (f := writeUnitDevice r)
      (fun x => by unfold writeUnitDevice; simp only; split <;> exact ⟨rfl, rfl, rfl⟩) hs
    exact ite_kept (h.post_kept (ite_kept (h.recompute_kept wrote) wrote)) hs
  · exact ite_kept (h.post_kept (ite_kept (h.recompute_kept (h.modFeeder_kept hs)) (h.modFeeder_kept hs))) hs

theorem takeIn_kept {t : Telegram} (hs : P s) : P (takeIn t s) :=
  ite_kept (h.takeSampleReport hs) (ite_kept (h.takePositionReport_kept hs)
    (ite_kept (h.takeSetpoint hs) (ite_kept (h.takeRequest_kept hs) hs)))

theorem receive_kept {p : Port} {f : Frame} (hs : P s) : P (receive p f s) := by
  unfold receive
  refine ite_kept hs (ite_kept (h.forward hs) ?_)
  split
  · exact h.malformed hs
  · rename_i t _
    have passed := ite_kept (c := t.dest = s.ownId) hs (h.forward (p := p) (f := f) hs)
    exact ite_kept (h.takeIn_kept passed) passed

theorem beaconExpires_kept (hs : P s) : P (beaconExpires s) := ite_kept (h.formTelegram (h.beaconTimer hs)) hs

theorem forgetRetired_kept (hs : P s) : P (forgetRetired s) := ite_kept (h.retired hs) hs

/-! ## Steps -/

/-- Every command keeps it. -/
theorem exec_kept {c : Instr} {t : State} (e : exec c s = .next t) (hs : P s) : P t := by
  cases ha : c.arrival with
  | some a =>
    rw [exec_arrival (p := a.1) (f := a.2) ha] at e
    exact h.run_kept (fun _ => h.receive_kept) e hs
  | none =>
    cases c with
    | coldResetAssert => exact h.run_kept (fun _ => h.holdCold) e hs
    | coldResetRelease fsel sid => exact h.run_kept (fun t ht => ite_kept (h.coldStart ht) ht) e hs
    | warmResetPinAssert => exact h.run_kept (fun t ht => ite_kept (h.phase ht) ht) e hs
    | warmResetPinRelease => exact h.run_kept (fun t ht => ite_kept (h.warmReset ht) ht) e hs
    | linkStatusRead upA upB => exact h.run_kept (fun t ht => ite_kept ht (h.readLink (h.readLink ht))) e hs
    | badFcsFrame p f => exact h.run_kept (fun _ ht => ht) e hs
    | frameTransmit p => exact h.run_kept (fun t ht => ite_kept ht (h.transmit ht)) e hs
    | staleTimerExpiry i => exact h.runWhenUp_kept (fun _ => h.staleExpires) e hs
    | deadlineExpiry g => exact h.runWhenUp_kept (fun _ => h.deadlineExpires_kept) e hs
    | inhibitTimerExpiry g => exact h.runWhenUp_kept (fun _ => h.inhibitExpires_kept) e hs
    | cycleTimerExpiry x => exact h.runWhenUp_kept (fun _ => h.cycleExpires_kept) e hs
    | holdOffExpiry x => exact h.runWhenUp_kept (fun _ => h.holdOffExpires_kept) e hs
    | dispatchTimerExpiry => exact h.runWhenUp_kept (fun _ => h.dispatchTimerExpires_kept) e hs
    | airHoldOffExpiry => exact h.runWhenUp_kept (fun _ => h.airHoldOffExpires_kept) e hs
    | crankRestExpiry u => exact h.runWhenUp_kept (fun _ => h.stateTimerExpires_kept) e hs
    | warmUpExpiry u => exact h.runWhenUp_kept (fun _ => h.stateTimerExpires_kept) e hs
    | stopTimerExpiry => exact h.runWhenUp_kept (fun _ => h.stopTimerExpires_kept) e hs
    | cooldownExpiry u => exact h.runWhenUp_kept (fun _ => h.stateTimerExpires_kept) e hs
    | curtailTimerExpiry => exact h.runWhenUp_kept (fun _ => h.curtailTimerExpires_kept) e hs
    | mirrorExpiry u => exact h.runWhenUp_kept (fun _ => h.mirrorExpires_kept) e hs
    | stageTimerExpiry i => exact h.runWhenUp_kept (fun _ => h.stageTimerExpires_kept) e hs
    | restoreDelayExpiry => exact h.runWhenUp_kept (fun _ => h.restoreDelayExpires_kept) e hs
    | stepIntervalExpiry => exact h.runWhenUp_kept (fun _ => h.stepIntervalExpires_kept) e hs
    | deadBusTimerExpiry => exact h.runWhenUp_kept (fun _ => h.deadBusExpires_kept) e hs
    | waitTimeExpiry => exact h.runWhenUp_kept (fun _ => h.waitTimeExpires_kept) e hs
    | stepTimeoutExpiry => exact h.runWhenUp_kept (fun _ => h.stepTimeoutExpires_kept) e hs
    | beaconTimerExpiry => exact h.runWhenUp_kept (fun _ => h.beaconExpires_kept) e hs
    | retiredIdentityExpiry => exact h.run_kept (fun t ht => ite_kept ht (h.forgetRetired_kept ht)) e hs
    | _ => cases ha

/-- Every step keeps it, a command's and a millisecond's. -/
theorem step_kept {t : State} (e : step s = .next t) (hs : P s) : P t := by
  unfold step at e
  split at e
  · cases e
    exact h.tick hs
  · exact h.exec_kept e (h.pending hs)

end KeptByCommands

end Sys2Proof.Machine
end

section
/-!
SUPPORT. Sizes of the port queues and of the Frequency History (R19, R178, R179): properties that do not look at the records or at
the choice of the frequency source, and the proof that every step keeps the sizes.
-/

namespace Sys2Proof.Machine

variable {P : State → Prop} {s : State}

/-! ## Properties that do not look at the records -/

/-- The property survives every update of a unit record or a Source Table entry, the choice of the frequency source, and a frequency
sample. -/
structure KeptFreely (P : State → Prop) : Prop extends KeptByUpdates P where
  units : ∀ {s : State} {v : Vector UnitRec 16}, P s → P { s with units := v }
  sources : ∀ {s : State} {v : Vector SourceEntry 64}, P s → P { s with sources := v }
  chooseSource : ∀ {s : State}, P s → P (chooseSource s)
  takeSample : ∀ {s : State} {f : Option Nat} {t : BitVec 32}, P s → P (takeSample f t s)

namespace KeptFreely

variable (h : KeptFreely P)
include h

theorem changeState_kept {u : Fin 16} {g : GensetState} (hs : P s) : P (changeState u g s) :=
  have summed := h.recompute_kept (h.units hs)
  h.post_kept (ite_kept (h.chooseSource summed) summed)

theorem keptByHandovers : KeptByHandovers P :=
  { h.toKeptByUpdates with
    changeState := h.changeState_kept
    tripUnit := fun hs => h.changeState_kept (h.lockoutReady_kept (h.units hs)) }

theorem modUnit_kept {u : Fin 16} {f : UnitRec → UnitRec} (hs : P s) : P (s.modUnit u f) := h.units hs

theorem modSource_kept {i : Fin 64} {f : SourceEntry → SourceEntry} (hs : P s) : P (s.modSource i f) := h.sources hs

theorem writeItems_kept {i : Fin 64} {l : List (Nat × Int)} (hs : P s) : P (writeItems i l s) := by
  unfold writeItems
  simp only
  split
  · split <;> [exact h.modUnit_kept hs; exact hs]
  · split <;> [exact h.modFeeder_kept hs; exact hs]
  · exact h.modSource_kept hs
  · exact h.modSource_kept hs
  · exact hs

theorem makeFresh_kept {i : Fin 64} {t : Timer} (hs : P s) : P (makeFresh i t s) :=
  have out := h.modSource_kept hs
  ite_kept out (h.log out)

theorem recomputeFor_kept {r : Role} (hs : P s) : P (recomputeFor r s) := by
  unfold recomputeFor
  split <;> [exact h.recompute_kept hs; exact h.recompute_kept hs; exact hs]

theorem acceptSample_kept {i : Fin 64} {r : SampleReport} (hs : P s) : P (acceptSample i r s) := by
  have fresh := h.makeFresh_kept (i := i) (t := some (timeOrSecond (s.sources[i]).staleLimit))
    (h.writeItems_kept (i := i) (l := r.items) hs)
  exact h.takeSample (h.post_kept (h.recomputeFor_kept (ite_kept (h.chooseSource fresh) fresh)))

theorem takeSampleReport_kept {r : SampleReport} (hs : P s) : P (takeSampleReport r s) := by
  unfold takeSampleReport
  split
  · exact hs
  · exact ite_kept (ite_kept (h.acceptSample_kept (h.modSource_kept hs)) (h.modSource_kept hs)) hs

theorem takeSetpoint_kept {t : Telegram} (hs : P s) : P (takeSetpoint t s) := by
  unfold takeSetpoint
  split
  · exact hs
  · exact ite_kept (h.post_kept (h.chooseSource (h.makeFresh_kept (h.modSource_kept hs)))) hs

theorem staleExpires_kept {i : Fin 64} (hs : P s) : P (staleExpires i s) := by
  have chosen := h.chooseSource (h.recomputeFor_kept (r := (s.sources[i]).role) (h.log (k := .stale) (x := sourceSubject i)
    (v := (s.sources[i]).eventValue) (d := detailNone)
    (h.modSource_kept (i := i) (f := fun e => { e with fresh := false, staleTimer := none }) hs)))
  exact ite_kept hs (ite_kept (h.post_kept chosen) chosen)

theorem replaceSource_kept {i : Fin 64} {e : SourceEntry} {b : StationId} (hs : P s) : P (replaceSource i e b s) := by
  have logged := h.log (k := .tableWrite) (x := some ⟨.source, i.val⟩) (v := b.toNat) (d := detailNone)
    (h.modSource_kept (i := i) (f := fun _ => e) hs)
  have chosen := h.chooseSource (h.recompute_kept (ite_kept
    (c := ((s.sources[i]).fresh && decide ((s.sources[i]).role ≠ .gateway)) = true)
    (h.log (k := .stale) (x := sourceSubject i) (v := (s.sources[i]).eventValue) (d := detailNone) logged) logged))
  exact ite_kept (h.post_kept chosen) chosen

theorem replaceUnit_kept {u : Fin 16} {k : UnitKind} {o : Octets} {b : StationId} (hs : P s) : P (replaceUnit u k o b s) :=
  h.keptByHandovers.replaceUnit_kept (h.chooseSource (h.recompute_kept (h.unitFreed_kept (h.modUnit_kept hs))))

end KeptFreely

/-! ## Ports and the Frequency History -/

theorem testQueueHigh_frame :
    testQueueHigh s = { s with orders := (testQueueHigh s).orders, record := (testQueueHigh s).record } := by
  unfold testQueueHigh
  simp only
  split <;> rfl

/-- R183: what a taken SETTINGS write may change. -/
theorem replaceSettings_frame {x : Settings} {b : StationId} : replaceSettings x b s =
    { s with
      settings := (replaceSettings x b s).settings, orders := (replaceSettings x b s).orders
      record := (replaceSettings x b s).record, beaconTimer := (replaceSettings x b s).beaconTimer } := by
  unfold replaceSettings
  simp only
  split_ifs <;> try rw [testQueueHigh_frame]
  all_goals rfl

/-- R182: a telegram that joins an own queue keeps the port's queues within their sizes. -/
theorem placeOwn_kept {p : PortState} {f : Frame} (hp : PortKept p) : PortKept (p.placeOwn f) := by
  obtain ⟨hf, ho, hd⟩ := hp
  unfold PortState.placeOwn
  split_ifs with down room
  · exact ⟨hf, ho, hd⟩
  · refine ⟨hf, ?_, fun hl => ?_⟩
    · simpa [Config.ownQueueSize] using room
    · simp [show p.link = false from hl] at down
  · exact ⟨hf, ho, hd⟩

/-- R179: a frame that joins a forward queue keeps the port's queues within their sizes. -/
theorem placeForward_kept {p : PortState} {f : Frame} (hp : PortKept p) : PortKept (p.placeForward f) := by
  obtain ⟨hf, ho, hd⟩ := hp
  unfold PortState.placeForward
  split_ifs with down room
  · exact ⟨hf, ho, hd⟩
  · refine ⟨?_, ho, fun hl => ?_⟩
    · simpa [Config.forwardQueueSize] using room
    · simp [show p.link = false from hl] at down
  · exact ⟨hf, ho, hd⟩

/-- R179: a transmission shortens a queue of a port that is UP. -/
theorem transmit_kept {p : PortState} (hp : PortKept p) : PortKept p.transmit := by
  obtain ⟨hf, ho, hd⟩ := hp
  unfold PortState.transmit
  split_ifs with down
  · exact ⟨hf, ho, hd⟩
  · have up : p.link = true := by simpa using down
    split
    · rename_i own
      exact ⟨hf, Nat.le_of_succ_le (by simpa [own] using ho), fun hl => by simp [up] at hl⟩
    · rename_i fwd
      exact ⟨Nat.le_of_succ_le (by simpa [fwd] using hf), ho, fun hl => by simp [up] at hl⟩
    · exact ⟨hf, ho, hd⟩

theorem modPort_portsKept {p : Port} {f : PortState → PortState} (hf : ∀ q, PortKept q → PortKept (f q)) (hs : PortsKept s) :
    PortsKept (s.modPort p f) := by
  cases p
  · exact ⟨hf _ hs.1, hs.2⟩
  · exact ⟨hs.1, hf _ hs.2⟩

/-- R178: a port found UP or DOWN keeps its queues within their sizes; one found DOWN is emptied. -/
theorem readLink_portsKept {p : Port} {up : Bool} (hs : PortsKept s) : PortsKept (readLink p up s) := by
  unfold readLink
  split_ifs
  · exact hs
  · exact modPort_portsKept (p := p) (f := fun q => { q with link := true, linkPin := true })
      (fun q hq => ⟨hq.1, hq.2.1, nofun⟩) hs
  · exact modPort_portsKept (p := p) (f := PortState.goDown)
      (fun q _ => ⟨Nat.zero_le _, Nat.zero_le _, fun _ => ⟨rfl, rfl⟩⟩) hs

/-- R19: the Frequency History never grows beyond 16 samples. -/
theorem appendSample_length {x : Sample} {l : List Sample} (hl : l.length ≤ 16) : (appendSample x l).length ≤ 16 := by
  unfold appendSample
  split_ifs with h
  · simpa [Config.historySize] using h
  · simp [Config.historySize] at h ⊢
    omega

/-- R19, R178, R179: the ports' queues and the Frequency History within their sizes. -/
abbrev SizesKept (s : State) : Prop := PortsKept s ∧ HistoryKept s

theorem sizesKept_freely : KeptFreely SizesKept where
  handovers hs := hs
  overrun hs := hs
  log hs := hs
  orders hs := hs
  formTelegram hs := ⟨⟨placeOwn_kept hs.1.1, placeOwn_kept hs.1.2⟩, hs.2⟩
  arbiter hs := hs
  dispatch hs := hs
  curtailTimer hs := hs
  shed hs := hs
  seq hs := hs
  feeders hs := hs
  activeBank hs := hs
  sheet _ hs := hs
  modUnit _ hs := hs
  units hs := hs
  sources hs := hs
  chooseSource hs := ite_kept hs ⟨hs.1, Nat.zero_le _⟩
  takeSample {s f t} hs := by
    cases f with
    | none => exact hs
    | some f => exact ⟨hs.1, appendSample_length hs.2⟩

theorem portKept_fresh : PortKept {} := ⟨Nat.zero_le _, Nat.zero_le _, fun _ => ⟨rfl, rfl⟩⟩

theorem warmReset_sizesKept {d : Nat} {m : StationId} (hs : SizesKept s) : SizesKept (warmReset d m s) := by
  have values : SizesKept (warmValues (s.log .warmReset none m.toNat d)) := ⟨hs.1, Nat.zero_le _⟩
  have chosen := sizesKept_freely.chooseSource values
  have formed : SizesKept { chooseSource (warmValues (s.log .warmReset none m.toNat d)) with
    sheet := { (chooseSource (warmValues (s.log .warmReset none m.toNat d))).sheet with rocof := none } } := chosen
  exact sizesKept_freely.recompute_kept formed

theorem tick_sizesKept (hs : SizesKept s) : SizesKept (tick s) := by
  unfold tick
  split <;> exact hs

theorem sizesKept_byCommands : KeptByCommands SizesKept :=
  { sizesKept_freely.keptByHandovers with
    pending := id
    phase := id
    holdCold := id
    coldStart := fun _ => ⟨⟨portKept_fresh, portKept_fresh⟩, Nat.zero_le _⟩
    warmReset := warmReset_sizesKept
    readLink := fun {s p up} hs => ⟨readLink_portsKept hs.1, by unfold readLink; split_ifs <;> cases p <;> exact hs.2⟩
    transmit := fun {s p} hs => ⟨modPort_portsKept (fun _ => transmit_kept) hs.1, by cases p <;> exact hs.2⟩
    forward := fun {s p f} hs => ⟨modPort_portsKept (fun _ => placeForward_kept) hs.1, by cases p <;> exact hs.2⟩
    malformed := fun {s p f} hs => ⟨modPort_portsKept (fun _ => placeForward_kept)
      (modPort_portsKept (fun q hq => hq) hs.1), by cases p <;> exact hs.2⟩
    tick := tick_sizesKept
    takeSampleReport := sizesKept_freely.takeSampleReport_kept
    takeSetpoint := sizesKept_freely.takeSetpoint_kept
    staleExpires := sizesKept_freely.staleExpires_kept
    retired := id
    beaconTimer := id
    managers := id
    openRecord := id
    readEvents := id
    rewindEvents := id
    replaceSource := fun _ => sizesKept_freely.replaceSource_kept
    replaceUnit := sizesKept_freely.replaceUnit_kept
    profiles := id
    banks := id
    replaceSettings := fun hs => by rw [replaceSettings_frame]; exact hs
    changeIdentity := fun {s i t} hs => by unfold changeIdentity; simp only; split_ifs <;> exact hs }

/-- Settles O51: the sizes are kept by every update that changes a queue or the history, and hence by every step. -/
theorem stepKeepsPortsAndHistory : Obligations.StepKeepsPortsAndHistory :=
  fun _ _ hs e => sizesKept_byCommands.step_kept e hs

end Sys2Proof.Machine
end

section
/-!
SUPPORT. The frequency source (R18, R31): what its choice reads, what leaves it as it is, and the proof that every step keeps it the
first that qualifies, with its frequency on the sheet.
-/

namespace Sys2Proof.Machine

variable {P : State → Prop} {s t : State}

/-! ## What the choice reads -/

/-- What the choice of the frequency source reads of a Source Table entry. -/
def SourceEntry.offers (e : SourceEntry) : Bool × Role × Nat × Bool × Bool := (e.used, e.role, e.target, e.fresh, e.f.isSome)

/-- What the choice of the frequency source reads of a unit record: whether it is a genset ONLINE, and whether its F is present. -/
def UnitRec.offers (r : UnitRec) : Bool × Bool := (r.kind = .genset && r.genset.state = .online, r.f.isSome)

theorem unitFresh_iff {u : Fin 16} : s.unitFresh u = true ↔ ∃ i : Fin 64,
    (s.sources[i]).used = true ∧ (s.sources[i]).role = .unit ∧ (s.sources[i]).target = u.val ∧ (s.sources[i]).fresh = true := by
  simp only [State.unitFresh, List.any_eq_true, Vector.mem_toList_iff, Vector.mem_iff_getElem, Bool.and_eq_true,
    decide_eq_true_eq]
  constructor
  · rintro ⟨e, ⟨i, hi, rfl⟩, ⟨⟨hu, hr⟩, ht⟩, hf⟩
    exact ⟨⟨i, hi⟩, hu, hr, ht, hf⟩
  · rintro ⟨i, hu, hr, ht, hf⟩
    exact ⟨_, ⟨i.val, i.isLt, rfl⟩, ⟨⟨hu, hr⟩, ht⟩, hf⟩

/-- R18: the choice is the same where every record offers the same. -/
theorem sourceChoice_congr (hs : ∀ i : Fin 64, (t.sources[i]).offers = (s.sources[i]).offers)
    (hu : ∀ u : Fin 16, (t.units[u]).offers = (s.units[u]).offers) : sourceChoice t = sourceChoice s := by
  simp only [SourceEntry.offers, Prod.mk.injEq] at hs
  simp only [UnitRec.offers, Prod.mk.injEq] at hu
  have refs : t.references = s.references :=
    List.filter_congr fun i _ => by rw [(hs i).1, (hs i).2.1]
  have qualify : (fun i : Fin 64 => (t.sources[i]).qualifies) = fun i : Fin 64 => (s.sources[i]).qualifies := by
    funext i
    obtain ⟨-, -, -, hf, hfreq⟩ := hs i
    simp only [SourceEntry.qualifies, hf, hfreq]
  have fresh : ∀ u, t.unitFresh u = s.unitFresh u := fun u => by
    rw [Bool.eq_iff_iff, unitFresh_iff, unitFresh_iff]
    refine exists_congr fun i => ?_
    obtain ⟨hused, hrole, htarget, hf, -⟩ := hs i
    rw [hused, hrole, htarget, hf]
  have gensets : t.gensetQualifies = s.gensetQualifies := by
    funext u
    simp only [State.gensetQualifies, (hu u).1, (hu u).2, fresh]
  simp only [sourceChoice, refs, qualify, gensets]

/-- R18: a reference that is chosen qualifies. -/
theorem qualifies_of_sourceChoice {i : Fin 64} (h : sourceChoice s = .reference i) : (s.sources[i]).qualifies = true := by
  unfold sourceChoice at h
  split at h
  · rename_i found
    cases h
    simpa using List.find?_some found
  · split at h <;> cases h

/-- R18: a genset that is chosen qualifies. -/
theorem gensetQualifies_of_sourceChoice {u : Fin 16} (h : sourceChoice s = .genset u) : s.gensetQualifies u = true := by
  unfold sourceChoice at h
  split at h
  · cases h
  · split at h
    · rename_i found
      cases h
      exact List.find?_some found
    · cases h

/-- R18: while every entry is STALE nothing qualifies. -/
theorem sourceChoice_of_stale (h : ∀ i : Fin 64, (s.sources[i]).fresh = false) : sourceChoice s = .absent := by
  cases hc : sourceChoice s with
  | absent => rfl
  | reference i =>
    have qualifies := qualifies_of_sourceChoice hc
    rw [SourceEntry.qualifies, h i] at qualifies
    cases qualifies
  | genset u =>
    have qualifies := gensetQualifies_of_sourceChoice hc
    simp only [State.gensetQualifies, Bool.and_eq_true] at qualifies
    obtain ⟨i, -, -, -, fresh⟩ := unitFresh_iff.mp qualifies.1.2
    rw [h i] at fresh
    cases fresh

/-! ## What the source and its frequency depend on -/

/-- What `SourceKept` reads of a state. -/
structure Hearing where
  source  : FreqSource
  freq    : Option Nat
  entries : Fin 64 → (Bool × Role × Nat × Bool × Bool) × Option Nat
  units   : Fin 16 → (Bool × Bool) × Option Nat

def State.hearing (s : State) : Hearing where
  source  := s.freqSource
  freq    := s.sheet.freq
  entries := fun i => ((s.sources[i]).offers, (s.sources[i]).f)
  units   := fun u => ((s.units[u]).offers, (s.units[u]).f)

/-- R31: the sheet has the F that the frequency source last had written. -/
abbrev FreqHeld (s : State) : Prop := s.sheet.freq = s.freqOf s.freqSource

theorem hearing_inj (h : t.hearing = s.hearing) : t.freqSource = s.freqSource ∧ t.sheet.freq = s.sheet.freq ∧
    (∀ i : Fin 64, (t.sources[i]).offers = (s.sources[i]).offers ∧ (t.sources[i]).f = (s.sources[i]).f) ∧
    ∀ u : Fin 16, (t.units[u]).offers = (s.units[u]).offers ∧ (t.units[u]).f = (s.units[u]).f := by
  simp only [State.hearing, Hearing.mk.injEq, funext_iff, Prod.mk.injEq] at h
  exact h

theorem sourceChoice_of_hearing (h : t.hearing = s.hearing) : sourceChoice t = sourceChoice s := by
  obtain ⟨-, -, he, hu⟩ := hearing_inj h
  exact sourceChoice_congr (fun i => (he i).1) fun u => (hu u).1

theorem freqOf_of_hearing (h : t.hearing = s.hearing) (x : FreqSource) : t.freqOf x = s.freqOf x := by
  obtain ⟨-, -, he, hu⟩ := hearing_inj h
  cases x with
  | absent => rfl
  | reference i => exact (he i).2
  | genset u => exact (hu u).2

theorem FreqHeld.of_hearing (h : t.hearing = s.hearing) (hs : FreqHeld s) : FreqHeld t := by
  obtain ⟨source, freq, -, -⟩ := hearing_inj h
  rw [FreqHeld, source, freq, freqOf_of_hearing h, hs]

theorem SourceKept.of_hearing (h : t.hearing = s.hearing) (hs : SourceKept s) : SourceKept t :=
  ⟨by rw [(hearing_inj h).1, sourceChoice_of_hearing h, hs.1], FreqHeld.of_hearing h hs.2⟩

theorem modUnit_hearing {u : Fin 16} {f : UnitRec → UnitRec}
    (h : (f s.units[u]).offers = (s.units[u]).offers ∧ (f s.units[u]).f = (s.units[u]).f) : (s.modUnit u f).hearing = s.hearing := by
  simp only [State.hearing, modUnit_units, Fin.getElem_fin, modifyAt_get, Hearing.mk.injEq]
  refine ⟨rfl, rfl, rfl, funext fun v => ?_⟩
  split_ifs with same
  · subst same
    exact Prod.ext h.1 h.2
  · rfl

theorem modSource_hearing {i : Fin 64} {f : SourceEntry → SourceEntry}
    (h : (f s.sources[i]).offers = (s.sources[i]).offers ∧ (f s.sources[i]).f = (s.sources[i]).f) :
    (s.modSource i f).hearing = s.hearing := by
  simp only [State.hearing, modSource_sources, Fin.getElem_fin, modifyAt_get, Hearing.mk.injEq]
  refine ⟨rfl, rfl, funext fun j => ?_, rfl⟩
  split_ifs with same
  · subst same
    exact Prod.ext h.1 h.2
  · rfl

/-- A property that reads no more than `SourceKept` does is kept by every shared update. -/
theorem keptByUpdates_of_hearing (hP : ∀ {s t : State}, t.hearing = s.hearing → P s → P t) : KeptByUpdates P where
  handovers := hP rfl
  overrun := hP rfl
  log := hP rfl
  orders := hP rfl
  formTelegram := hP rfl
  arbiter := hP rfl
  dispatch := hP rfl
  curtailTimer := hP rfl
  shed := hP rfl
  seq := hP rfl
  feeders := hP rfl
  activeBank := hP rfl
  sheet hf := hP (by simp only [State.hearing, hf])
  modUnit {s u f} hf := hP (modUnit_hearing (by
    obtain ⟨kind, freq, state⟩ := hf s.units[u]
    simp only [UnitRec.offers, kind, freq, state, and_self]))

/-- Every operation made of shared updates leaves what `SourceKept` reads. -/
theorem hearing_kept {v : Hearing} : KeptByUpdates fun t => t.hearing = v := keptByUpdates_of_hearing fun h hs => h.trans hs

theorem sourceKept_updates : KeptByUpdates SourceKept := keptByUpdates_of_hearing SourceKept.of_hearing

theorem freqHeld_updates : KeptByUpdates FreqHeld := keptByUpdates_of_hearing FreqHeld.of_hearing

theorem modSource_freqOf {i : Fin 64} {f : SourceEntry → SourceEntry} (x : FreqSource) :
    (s.modSource i f).freqOf x = if x = .reference i then (f s.sources[i]).f else s.freqOf x := by
  cases x with
  | absent => rfl
  | genset u => rfl
  | reference j =>
    simp only [State.freqOf, modSource_sources, Fin.getElem_fin, modifyAt_get, FreqSource.reference.injEq]
    split_ifs with h h' h'
    · rw [h]
    · exact absurd h.symm h'
    · exact absurd h'.symm h
    · rfl

theorem modUnit_freqOf {u : Fin 16} {f : UnitRec → UnitRec} (x : FreqSource) :
    (s.modUnit u f).freqOf x = if x = .genset u then (f s.units[u]).f else s.freqOf x := by
  cases x with
  | absent => rfl
  | reference i => rfl
  | genset v =>
    simp only [State.freqOf, modUnit_units, Fin.getElem_fin, modifyAt_get, FreqSource.genset.injEq]
    split_ifs with h h' h'
    · rw [h]
    · exact absurd h.symm h'
    · exact absurd h'.symm h
    · rfl

theorem FreqHeld.modUnit (hs : FreqHeld s) {u : Fin 16} {f : UnitRec → UnitRec} (h : (f s.units[u]).f = (s.units[u]).f) :
    FreqHeld (s.modUnit u f) := by
  have same : (s.modUnit u f).freqOf s.freqSource = s.freqOf s.freqSource := by
    rw [modUnit_freqOf]
    split
    · rename_i hx
      rw [hx]
      exact h
    · rfl
  exact hs.trans same.symm

theorem FreqHeld.modSource (hs : FreqHeld s) {i : Fin 64} {f : SourceEntry → SourceEntry}
    (h : s.freqSource = .reference i → (f s.sources[i]).f = (s.sources[i]).f) : FreqHeld (s.modSource i f) := by
  have same : (s.modSource i f).freqOf s.freqSource = s.freqOf s.freqSource := by
    rw [modSource_freqOf]
    split
    · rename_i hx
      rw [h hx, hx]
      rfl
    · rfl
  exact hs.trans same.symm

/-! ## The choice made again -/

/-- R18: the choice leaves the source the first that qualifies, with its frequency on the sheet. -/
theorem chooseSource_sourceKept (h : sourceChoice s = s.freqSource → FreqHeld s) : SourceKept (chooseSource s) := by
  unfold chooseSource
  simp only
  split
  · rename_i same
    exact ⟨same.symm, h same⟩
  · exact ⟨sourceChoice_congr (s := s) (fun _ => rfl) fun _ => rfl, rfl⟩

/-- R85: an entry to ONLINE or a leaving of it has the source chosen again. -/
theorem changeState_sourceKept_of_online {u : Fin 16} {g : GensetState} (hs : FreqHeld s)
    (ho : (s.genset u).state = .online ∨ g = .online) : SourceKept (changeState u g s) := by
  have held : FreqHeld (recompute (s.modGenset u fun x =>
      { x with state := g, timer := none, want := x.want && !(g = .online || g = .lockedOut) })) := by
    exact freqHeld_updates.recompute_kept (hs.modUnit rfl)
  unfold changeState
  simp only [Bool.or_eq_true, decide_eq_true_eq, if_pos ho] at held ⊢
  exact sourceKept_updates.post_kept (chooseSource_sourceKept fun _ => held)

/-- R85: a change between two states other than ONLINE leaves what a genset offers. -/
theorem changeState_sourceKept {u : Fin 16} {g : GensetState} (hs : SourceKept s) : SourceKept (changeState u g s) := by
  by_cases ho : (s.genset u).state = .online ∨ g = .online
  · exact changeState_sourceKept_of_online hs.2 ho
  · obtain ⟨old, new⟩ := not_or.mp ho
    unfold changeState
    simp only [Bool.or_eq_true, decide_eq_true_eq, if_neg ho]
    refine sourceKept_updates.post_kept (sourceKept_updates.recompute_kept (hs.of_hearing (modUnit_hearing ⟨?_, rfl⟩)))
    have old : (s.units[u]).genset.state ≠ .online := old
    simp only [UnitRec.offers, old, new, decide_false, Bool.and_false]

/-- R82: a breaker trip has the genset leave ONLINE, so the source is chosen again. -/
theorem tripUnit_sourceKept {u : Fin 16} (hs : SourceKept s) : SourceKept (tripUnit u s) := by
  let tripped := s.modGenset u fun g => { g with state := .online }
  have ready : (lockoutReady .breakerTrip u tripped).hearing = tripped.hearing := hearing_kept.lockoutReady_kept rfl
  change SourceKept (changeState u .lockedOut (lockoutReady .breakerTrip u tripped))
  by_cases hk : (s.units[u]).kind = .genset
  · refine changeState_sourceKept_of_online (FreqHeld.of_hearing ready (FreqHeld.modUnit hs.2 rfl)) (.inl ?_)
    obtain ⟨-, -, -, units⟩ := hearing_inj ready
    have offers := congrArg Prod.fst (units u).1
    have online : (tripped.units[u]).offers.1 = true := by
      simp [tripped, UnitRec.offers, State.modGenset, show (s.units[u.val]).kind = .genset from hk]
    rw [online] at offers
    simp only [UnitRec.offers, Bool.and_eq_true, decide_eq_true_eq] at offers
    exact offers.2
  · have same : tripped.hearing = s.hearing := modUnit_hearing ⟨by simp only [UnitRec.offers, hk, decide_false, Bool.false_and], rfl⟩
    exact changeState_sourceKept (hs.of_hearing (ready.trans same))

theorem sourceKept_byHandovers : KeptByHandovers SourceKept :=
  { sourceKept_updates with
    changeState := changeState_sourceKept
    tripUnit := tripUnit_sourceKept }

/-! ## Resets and time -/

theorem coldStart_sourceKept {fsel : Bool} {sid : BitVec 4} {l : List Instr} : SourceKept (State.coldStart fsel sid l) :=
  ⟨(sourceChoice_of_stale fun i => by simp [State.coldStart]).symm, rfl⟩

/-- R192: a warm reset makes every entry STALE, so nothing gives the frequency until one is FRESH again. -/
theorem sourceChoice_warmValues : sourceChoice (warmValues s) = .absent :=
  sourceChoice_of_stale fun i => by simp [warmValues, SourceEntry.warm]

theorem withRocof_hearing {x : Option Int} :
    ({ s with sheet := { s.sheet with rocof := x } } : State).hearing = s.hearing := rfl

theorem testRecordHigh_hearing : s.testRecordHigh.hearing = s.hearing := rfl

theorem warmReset_sourceKept {d : Nat} {m : StationId} (hs : SourceKept s) : SourceKept (warmReset d m s) := by
  have values : sourceChoice (warmValues (s.log .warmReset none m.toNat d)) =
      (warmValues (s.log .warmReset none m.toNat d)).freqSource → FreqHeld (warmValues (s.log .warmReset none m.toNat d)) := by
    intro same
    rw [sourceChoice_warmValues] at same
    have freq : s.sheet.freq = s.freqOf s.freqSource := hs.2
    rw [show s.freqSource = .absent from same.symm] at freq
    rw [FreqHeld, ← same]
    exact freq
  have formed := sourceKept_updates.recompute_kept ((chooseSource_sourceKept values).of_hearing (withRocof_hearing (x := none)))
  exact formed.of_hearing testRecordHigh_hearing

theorem tickTimers_hearing : (tickTimers s).hearing = s.hearing := by
  simp only [State.hearing, tickTimers, tickRetired, Fin.getElem_fin, mapTable_get]
  rfl

theorem tick_sourceKept (hs : SourceKept s) : SourceKept (tick s) := by
  unfold tick
  split
  · exact hs
  · exact hs
  · exact hs.of_hearing (t := { tickTimers { s with partTime := s.partTime + 1 } with pending := _ })
      (tickTimers_hearing (s := { s with partTime := s.partTime + 1 }))

/-! ## Sample Intake -/

theorem makeFresh_freqHeld {i : Fin 64} {x : Timer} (hs : FreqHeld s) : FreqHeld (makeFresh i x s) :=
  have out := hs.modSource (i := i) (f := fun e => { e with fresh := true, staleTimer := x }) fun _ => rfl
  ite_kept out (freqHeld_updates.log out)

theorem takeSetpoint_sourceKept {x : Telegram} (hs : SourceKept s) : SourceKept (takeSetpoint x s) := by
  unfold takeSetpoint
  split
  · exact hs
  · exact ite_kept (sourceKept_updates.post_kept (chooseSource_sourceKept fun _ =>
      makeFresh_freqHeld (FreqHeld.modSource hs.2 fun _ => rfl))) hs

theorem recomputeFor_kept (h : KeptByUpdates P) {r : Role} (hs : P s) : P (recomputeFor r s) := by
  unfold recomputeFor
  split <;> [exact h.recompute_kept hs; exact h.recompute_kept hs; exact hs]

theorem staleExpires_sourceKept {i : Fin 64} (hs : SourceKept s) : SourceKept (staleExpires i s) := by
  unfold staleExpires
  refine ite_kept hs ?_
  have chosen : SourceKept _ := chooseSource_sourceKept fun _ => recomputeFor_kept freqHeld_updates (r := (s.sources[i]).role)
    (freqHeld_updates.log (k := .stale) (x := sourceSubject i) (v := (s.sources[i]).eventValue) (d := detailNone)
      (FreqHeld.modSource hs.2 (i := i) (f := fun e => { e with fresh := false, staleTimer := none }) fun _ => rfl))
  exact ite_kept (sourceKept_updates.post_kept chosen) chosen

/-- The source whose frequency the reports of an entry write (R8, R18). -/
def carrier (s : State) (i : Fin 64) : Option FreqSource :=
  match (s.sources[i]).role with
  | .reference => some (.reference i)
  | .unit => (index? 16 (s.sources[i]).target).bind fun u => if (s.units[u]).kind = .genset then some (.genset u) else none
  | _ => none

theorem carrier_congr {i : Fin 64} (hr : (t.sources[i]).role = (s.sources[i]).role)
    (ht : (t.sources[i]).target = (s.sources[i]).target) (hu : ∀ u : Fin 16, (t.units[u]).kind = (s.units[u]).kind) :
    carrier t i = carrier s i := by
  simp only [carrier, hr, ht, hu]

/-- R10 step 4: a report is a frequency sample when its entry's reports write the frequency of the source. -/
theorem sampleFreq_eq {i : Fin 64} {l : List (Nat × Int)} : sampleFreq s i l =
    if carrier s i = some s.freqSource then (freqItem l).map fun x => x.1.toNat else none := by
  unfold sampleFreq carrier
  generalize s.sources[i] = e
  cases hr : e.role with
  | reference => simp only [hr, decide_eq_true_eq, Option.some.injEq, eq_comm (a := s.freqSource)]
  | unit =>
    cases ht : index? 16 e.target with
    | none => simp [hr, ht]
    | some u =>
      by_cases hk : (s.units[u]).kind = .genset
      · simp only [hr, ht, hk, Bool.and_eq_true, decide_eq_true_eq, Option.bind_some, if_true, Option.some.injEq, and_true,
          eq_comm (a := s.freqSource)]
      · simp only [hr, ht, hk, Bool.and_eq_true, decide_eq_true_eq, Option.bind_some, if_false, and_false, reduceCtorEq]
  | _ => simp [hr]

/-- R18: the frequency that an entry's reports write is the one of the source they carry. -/
theorem entryFreq_of_carrier {i : Fin 64} {x : FreqSource} (h : carrier s i = some x) : entryFreq s i = s.freqOf x := by
  unfold carrier at h
  unfold entryFreq
  split at h
  · rename_i hr
    cases h
    simp only [hr]
    rfl
  · rename_i hr
    obtain ⟨u, hu, hx⟩ := Option.bind_eq_some_iff.mp h
    split at hx <;> cases hx
    simp only [hr, hu]
    rfl
  · cases h

/-- R8: what an accepted report writes leaves of the entries and the unit records, the measurements apart. -/
theorem writeItems_frame {i : Fin 64} {l : List (Nat × Int)} :
    (∀ j : Fin 64, ((writeItems i l s).sources[j]).used = (s.sources[j]).used ∧
      ((writeItems i l s).sources[j]).role = (s.sources[j]).role ∧
      ((writeItems i l s).sources[j]).target = (s.sources[j]).target ∧
      ((writeItems i l s).sources[j]).fresh = (s.sources[j]).fresh) ∧
    ∀ u : Fin 16, ((writeItems i l s).units[u]).kind = (s.units[u]).kind ∧
      ((writeItems i l s).units[u]).genset = (s.units[u]).genset := by
  have source : ∀ e, (writeSource l e).used = e.used ∧ (writeSource l e).role = e.role ∧ (writeSource l e).target = e.target ∧
      (writeSource l e).fresh = e.fresh := by
    intro e
    unfold writeSource
    split <;> exact ⟨rfl, rfl, rfl, rfl⟩
  have unit : ∀ r, (writeUnit l r).kind = r.kind ∧ (writeUnit l r).genset = r.genset := by
    intro r
    unfold writeUnit
    simp only
    split <;> exact ⟨rfl, rfl⟩
  have entries : ∀ j : Fin 64, ((s.modSource i (writeSource l)).sources[j]).used = (s.sources[j]).used ∧
      ((s.modSource i (writeSource l)).sources[j]).role = (s.sources[j]).role ∧
      ((s.modSource i (writeSource l)).sources[j]).target = (s.sources[j]).target ∧
      ((s.modSource i (writeSource l)).sources[j]).fresh = (s.sources[j]).fresh := by
    intro j
    simp only [modSource_sources, Fin.getElem_fin, modifyAt_get]
    split_ifs <;> [exact source _; exact ⟨rfl, rfl, rfl, rfl⟩]
  unfold writeItems
  simp only
  split
  · split
    · refine ⟨fun _ => ⟨rfl, rfl, rfl, rfl⟩, fun v => ?_⟩
      simp only [modUnit_units, Fin.getElem_fin, modifyAt_get]
      split_ifs <;> [exact unit _; exact ⟨rfl, rfl⟩]
    · exact ⟨fun _ => ⟨rfl, rfl, rfl, rfl⟩, fun _ => ⟨rfl, rfl⟩⟩
  · split <;> exact ⟨fun _ => ⟨rfl, rfl, rfl, rfl⟩, fun _ => ⟨rfl, rfl⟩⟩
  · exact ⟨entries, fun _ => ⟨rfl, rfl⟩⟩
  · exact ⟨entries, fun _ => ⟨rfl, rfl⟩⟩
  · exact ⟨fun _ => ⟨rfl, rfl, rfl, rfl⟩, fun _ => ⟨rfl, rfl⟩⟩

/-- R8: the F item is written to the source the entry's reports carry, and to no other. -/
theorem writeItems_freqOf {i : Fin 64} {l : List (Nat × Int)} (x : FreqSource) : (writeItems i l s).freqOf x =
    if carrier s i = some x then written Int.toNat (s.freqOf x) (freqItem l) else s.freqOf x := by
  cases hr : (s.sources[i]).role with
  | reference =>
    simp only [writeItems, carrier, hr, modSource_freqOf, Option.some.injEq, eq_comm (a := FreqSource.reference i)]
    split
    · rename_i h
      subst h
      simp only [writeSource, hr]
      rfl
    · rfl
  | air =>
    simp only [writeItems, carrier, hr, modSource_freqOf, reduceCtorEq, if_false]
    split
    · rename_i h
      subst h
      simp only [writeSource, hr]
      rfl
    · rfl
  | gateway => simp only [writeItems, carrier, hr, reduceCtorEq, if_false]
  | feeder =>
    simp only [writeItems, carrier, hr, reduceCtorEq, if_false]
    split <;> cases x <;> rfl
  | unit =>
    cases ht : index? 16 (s.sources[i]).target with
    | none => simp only [writeItems, carrier, hr, ht, Option.bind_none, reduceCtorEq, if_false]
    | some u =>
      simp only [writeItems, carrier, hr, ht, Option.bind_some, modUnit_freqOf]
      by_cases same : x = .genset u
      · subst same
        cases hk : (s.units[u]).kind <;>
          simp only [writeUnit, hk, if_true, reduceCtorEq, if_false] <;> rfl
      · rw [if_neg same, if_neg]
        split
        · simpa [eq_comm] using same
        · simp

/-- R10: the state of an accepted report once its items are written and its entry is FRESH. -/
def sampleWritten (i : Fin 64) (r : SampleReport) (s : State) : State :=
  makeFresh i (some (timeOrSecond (s.sources[i]).staleLimit)) (writeItems i r.items s)

theorem makeFresh_freqOf {i : Fin 64} {y : Timer} (x : FreqSource) : (makeFresh i y s).freqOf x = s.freqOf x := by
  have same : (s.modSource i fun e => { e with fresh := true, staleTimer := y }).freqOf x = s.freqOf x := by
    rw [modSource_freqOf]
    split
    · rename_i h
      rw [h]
      rfl
    · rfl
  unfold makeFresh
  simp only
  split <;> exact same

theorem makeFresh_sources {i j : Fin 64} {y : Timer} : (makeFresh i y s).sources[j] =
    if i = j then { s.sources[j] with fresh := true, staleTimer := y } else s.sources[j] := by
  unfold makeFresh
  simp only
  split <;> simp only [log_sources, modSource_sources, Fin.getElem_fin, modifyAt_get]

theorem makeFresh_units {i : Fin 64} {y : Timer} : (makeFresh i y s).units = s.units := by
  unfold makeFresh
  simp only
  split <;> rfl

section
variable {i : Fin 64} {r : SampleReport}

theorem sampleWritten_freqOf (x : FreqSource) : (sampleWritten i r s).freqOf x =
    if carrier s i = some x then written Int.toNat (s.freqOf x) (freqItem r.items) else s.freqOf x := by
  rw [sampleWritten, makeFresh_freqOf, writeItems_freqOf]

theorem sampleWritten_entry (j : Fin 64) : ((sampleWritten i r s).sources[j]).used = (s.sources[j]).used ∧
    ((sampleWritten i r s).sources[j]).role = (s.sources[j]).role ∧
    ((sampleWritten i r s).sources[j]).target = (s.sources[j]).target ∧
    ((sampleWritten i r s).sources[j]).fresh = if i = j then true else (s.sources[j]).fresh := by
  obtain ⟨used, role, target, fresh⟩ := (writeItems_frame (s := s) (i := i) (l := r.items)).1 j
  rw [sampleWritten, makeFresh_sources]
  split
  · exact ⟨used, role, target, rfl⟩
  · exact ⟨used, role, target, fresh⟩

theorem sampleWritten_unit (u : Fin 16) : ((sampleWritten i r s).units[u]).kind = (s.units[u]).kind ∧
    ((sampleWritten i r s).units[u]).genset = (s.units[u]).genset := by
  rw [sampleWritten, makeFresh_units]
  exact (writeItems_frame (s := s) (i := i) (l := r.items)).2 u

theorem sampleWritten_carrier : carrier (sampleWritten i r s) i = carrier s i :=
  carrier_congr (sampleWritten_entry i).2.1 (sampleWritten_entry i).2.2.1 fun u => (sampleWritten_unit u).1

/-- R10, R18: a report that neither makes its entry FRESH nor gives a first F changes nothing the choice reads. -/
theorem sampleWritten_sourceChoice (hf : (s.sources[i]).fresh = true)
    (hfirst : ¬ ((entryFreq s i).isNone = true ∧ (entryFreq (sampleWritten i r s) i).isSome = true)) :
    sourceChoice (sampleWritten i r s) = sourceChoice s := by
  have present : ∀ x, ((sampleWritten i r s).freqOf x).isSome = (s.freqOf x).isSome := by
    intro x
    by_cases hc : carrier s i = some x
    · rw [entryFreq_of_carrier hc, entryFreq_of_carrier (sampleWritten_carrier.trans hc)] at hfirst
      rw [sampleWritten_freqOf, if_pos hc] at hfirst ⊢
      cases hi : freqItem r.items with
      | none => rfl
      | some v =>
        cases ho : s.freqOf x with
        | none => simp [hi, ho, written] at hfirst
        | some w => rfl
    · rw [sampleWritten_freqOf, if_neg hc]
  refine sourceChoice_congr (fun j => ?_) fun u => ?_
  · obtain ⟨used, role, target, fresh⟩ := sampleWritten_entry (s := s) (i := i) (r := r) j
    have freq : ((sampleWritten i r s).sources[j]).f.isSome = (s.sources[j]).f.isSome := present (.reference j)
    have same : (if i = j then true else (s.sources[j]).fresh) = (s.sources[j]).fresh := by
      split
      · rename_i h
        rw [← h, hf]
      · rfl
    simp only [SourceEntry.offers, used, role, target, fresh, freq, same]
  · have freq : ((sampleWritten i r s).units[u]).f.isSome = (s.units[u]).f.isSome := present (.genset u)
    simp only [UnitRec.offers, sampleWritten_unit u, freq]

end

theorem chooseSource_units : (chooseSource s).units = s.units := by
  unfold chooseSource; simp only; split <;> rfl

theorem chooseSource_sources : (chooseSource s).sources = s.sources := by
  unfold chooseSource; simp only; split <;> rfl

/-- R18: after the choice the sheet has the frequency of a new source, or the one it had. -/
theorem chooseSource_freq : (FreqHeld (chooseSource s)) ∨
    ((chooseSource s).freqSource = s.freqSource ∧ (chooseSource s).sheet.freq = s.sheet.freq) := by
  unfold chooseSource
  simp only
  split
  · exact .inr ⟨rfl, rfl⟩
  · exact .inl rfl

/-- R19, R31: a sample is the frequency its source last had written. -/
theorem takeSample_sourceKept {f : Option Nat} {time : BitVec 32} (hc : s.freqSource = sourceChoice s)
    (hf : ∀ v, f = some v → s.freqOf s.freqSource = some v) (hn : f = none → FreqHeld s) : SourceKept (takeSample f time s) := by
  cases f with
  | none => exact ⟨hc, hn rfl⟩
  | some v =>
    refine ⟨hc.trans (sourceChoice_congr (fun _ => rfl) fun _ => rfl), ?_⟩
    exact (hf v rfl).symm

theorem chooseSource_choice : (chooseSource s).freqSource = sourceChoice (chooseSource s) := by
  have same : sourceChoice (chooseSource s) = sourceChoice s :=
    sourceChoice_congr (fun _ => by rw [chooseSource_sources]) fun _ => by rw [chooseSource_units]
  rw [same]
  unfold chooseSource
  simp only
  split
  · rename_i h
    exact h.symm
  · rfl

theorem freqOf_congr (hs : t.sources = s.sources) (hu : t.units = s.units) (x : FreqSource) : t.freqOf x = s.freqOf x := by
  cases x <;> simp only [State.freqOf, hs, hu]

theorem recomputeFor_frame {x : Role} : recomputeFor x s =
    { s with sheet := (recomputeFor x s).sheet, handovers := (recomputeFor x s).handovers } := by
  unfold recomputeFor recompute
  split <;> simp only <;> split <;> rfl

theorem sampleWritten_source {i : Fin 64} {r : SampleReport} :
    (sampleWritten i r s).freqSource = s.freqSource ∧ (sampleWritten i r s).sheet = s.sheet := by
  have wrote : (writeItems i r.items s).freqSource = s.freqSource ∧ (writeItems i r.items s).sheet = s.sheet := by
    unfold writeItems
    simp only
    split <;> try split
    all_goals exact ⟨rfl, rfl⟩
  unfold sampleWritten makeFresh
  simp only
  split <;> exact wrote

/-- R10, step 3: the state of an accepted report once the source has been chosen again, where that is due. -/
def sampleChosen (i : Fin 64) (r : SampleReport) (s : State) : State :=
  let first := (entryFreq s i).isNone && (entryFreq (sampleWritten i r s) i).isSome
  if !(s.sources[i]).fresh || first then chooseSource (sampleWritten i r s) else sampleWritten i r s

section
variable {i : Fin 64} {r : SampleReport}

theorem acceptSample_eq : acceptSample i r s =
    let summed := recomputeFor (s.sources[i]).role (sampleChosen i r s)
    takeSample (sampleFreq summed i r.items) r.time (summed.post (sampleHandovers summed i (s.sources[i]).fresh r.items)) := rfl

theorem sampleChosen_records : (sampleChosen i r s).sources = (sampleWritten i r s).sources ∧
    (sampleChosen i r s).units = (sampleWritten i r s).units := by
  unfold sampleChosen
  simp only
  split <;> [exact ⟨chooseSource_sources, chooseSource_units⟩; exact ⟨rfl, rfl⟩]

/-- R18: the source stands as the first that qualifies; the sheet has its frequency, or that of the source before the report, which
it still is. -/
theorem sampleChosen_source (hs : SourceKept s) : (sampleChosen i r s).freqSource = sourceChoice (sampleChosen i r s) ∧
    (FreqHeld (sampleChosen i r s) ∨
      ((sampleChosen i r s).freqSource = s.freqSource ∧ (sampleChosen i r s).sheet.freq = s.sheet.freq)) := by
  obtain ⟨source, sheet⟩ := sampleWritten_source (s := s) (i := i) (r := r)
  unfold sampleChosen
  simp only
  split
  · refine ⟨chooseSource_choice, ?_⟩
    have chosen := chooseSource_freq (s := sampleWritten i r s)
    rwa [source, sheet] at chosen
  · rename_i h
    simp only [Bool.or_eq_true, Bool.not_eq_true', Bool.and_eq_true, not_or, Bool.not_eq_false] at h
    obtain ⟨hf, hfirst⟩ := h
    refine ⟨?_, .inr ⟨source, by rw [sheet]⟩⟩
    rw [source, sampleWritten_sourceChoice hf hfirst]
    exact hs.1

/-- R10, R18, R31: an accepted report leaves the source the first that qualifies, and its sample, if it is one, on the sheet. -/
theorem acceptSample_sourceKept (hs : SourceKept s) : SourceKept (acceptSample i r s) := by
  rw [acceptSample_eq]
  simp only
  generalize hsum : recomputeFor (s.sources[i]).role (sampleChosen i r s) = summed
  have heard : summed.hearing = (sampleChosen i r s).hearing := hsum ▸ recomputeFor_kept hearing_kept rfl
  obtain ⟨hsource, hfreq, -, -⟩ := hearing_inj heard
  obtain ⟨choice, held⟩ := sampleChosen_source (i := i) (r := r) hs
  have carries : carrier summed i = carrier s i := by
    have records : summed.sources = (sampleWritten i r s).sources ∧ summed.units = (sampleWritten i r s).units := by
      rw [← hsum, recomputeFor_frame]
      exact sampleChosen_records
    exact Eq.trans (carrier_congr (by rw [records.1]) (by rw [records.1]) fun u => by rw [records.2])
      (sampleWritten_carrier (s := s) (i := i) (r := r))
  have freqs : ∀ x, summed.freqOf x =
      if carrier s i = some x then written Int.toNat (s.freqOf x) (freqItem r.items) else s.freqOf x := fun x => by
    rw [freqOf_of_hearing heard, freqOf_congr sampleChosen_records.1 sampleChosen_records.2, sampleWritten_freqOf]
  refine takeSample_sourceKept ?_ (fun v hv => ?_) fun hn => ?_
  · calc summed.freqSource = (sampleChosen i r s).freqSource := hsource
      _ = sourceChoice (sampleChosen i r s) := choice
      _ = sourceChoice summed := (sourceChoice_of_hearing heard).symm
  · rw [sampleFreq_eq, carries] at hv
    split at hv
    · rename_i carried
      obtain ⟨y, hy, rfl⟩ := Option.map_eq_some_iff.mp hv
      exact (freqs _).trans (by simp only [post_freqSource, if_pos carried, hy, written])
    · cases hv
  · have unwritten : summed.freqOf summed.freqSource = s.freqOf summed.freqSource := by
      rw [sampleFreq_eq, carries] at hn
      rw [freqs]
      split
      · rename_i carried
        rw [if_pos carried, Option.map_eq_none_iff] at hn
        rw [hn]
        rfl
      · rfl
    rcases held with held | ⟨source, freq⟩
    · exact FreqHeld.of_hearing (t := summed) heard held
    · change summed.sheet.freq = summed.freqOf summed.freqSource
      rw [unwritten, hfreq, freq, hsource, source]
      exact hs.2

end

theorem takeSampleReport_sourceKept {r : SampleReport} (hs : SourceKept s) : SourceKept (takeSampleReport r s) := by
  unfold takeSampleReport
  split
  · exact hs
  · rename_i i _
    have admitted := hs.of_hearing
      (modSource_hearing (s := s) (i := i) (f := fun e => { e with lastSeq := some r.seq, lastArrival := some s.partTime }) ⟨rfl, rfl⟩)
    exact ite_kept (ite_kept (acceptSample_sourceKept admitted) admitted) hs

/-! ## Writes of the agent -/

theorem replaceSource_sourceKept {i : Fin 64} {e : SourceEntry} {b : StationId} (he : e.fresh = false) (hs : SourceKept s) :
    SourceKept (replaceSource i e b s) := by
  let written := logWrite .source i.val b (s.modSource i fun _ => e)
  let stale := if (s.sources[i]).fresh && (s.sources[i]).role ≠ .gateway
    then written.log .stale (sourceSubject i) (s.sources[i]).eventValue detailNone else written
  have logged : written.hearing = (s.modSource i fun _ => e).hearing := hearing_kept.logWrite_kept rfl
  have heard : (recompute stale).hearing = (s.modSource i fun _ => e).hearing :=
    hearing_kept.recompute_kept
      (ite_kept (P := fun t => t.hearing = (s.modSource i fun _ => e).hearing) (hearing_kept.log logged) logged)
  have chosen : SourceKept (chooseSource (recompute stale)) := by
    refine chooseSource_sourceKept fun same => FreqHeld.of_hearing heard (FreqHeld.modSource hs.2 fun hr => ?_)
    rw [sourceChoice_of_hearing heard, (hearing_inj heard).1, modSource_freqSource, hr] at same
    have qualifies := qualifies_of_sourceChoice same
    simp [SourceEntry.qualifies, he] at qualifies
  exact ite_kept (sourceKept_updates.post_kept chosen) chosen

/-- R78: a record that is a genset before and after a UNIT write keeps its F. -/
theorem unitAfterWrite_f {k : UnitKind} {o : Octets} {r : UnitRec} (hr : r.kind = .genset) (hk : k = .genset) :
    (unitAfterWrite k o r).f = r.f := by
  subst hk
  simp [unitAfterWrite, unitConfig, hr]

theorem unitAfterWrite_kind {k : UnitKind} {o : Octets} {r : UnitRec} : (unitAfterWrite k o r).kind = k := by
  unfold unitAfterWrite
  simp only
  split <;> cases k <;> rfl

theorem replaceUnit_sourceKept {u : Fin 16} {k : UnitKind} {o : Octets} {b : StationId} (hs : SourceKept s) :
    SourceKept (replaceUnit u k o b s) := by
  refine sourceKept_byHandovers.replaceUnit_kept (chooseSource_sourceKept fun same => ?_)
  have heard : (recompute (unitFreed u k o b s)).hearing = (s.modUnit u fun _ => unitAfterWrite k o s.units[u]).hearing :=
    hearing_kept.recompute_kept (hearing_kept.unitFreed_kept rfl)
  rw [sourceChoice_of_hearing heard, (hearing_inj heard).1, modUnit_freqSource] at same
  refine FreqHeld.of_hearing heard (hs.2.trans ?_)
  rw [modUnit_freqSource, modUnit_freqOf]
  split
  · rename_i hu
    rw [hu] at same
    have before := gensetQualifies_of_sourceChoice (hs.1.symm.trans hu)
    have after := gensetQualifies_of_sourceChoice same
    simp only [State.gensetQualifies, Bool.and_eq_true, decide_eq_true_eq, modUnit_units, Fin.getElem_fin, modifyAt_get,
      if_true, unitAfterWrite_kind] at before after
    rw [hu]
    exact (unitAfterWrite_f before.1.1.1 after.1.1.1).symm
  · rfl

/-! ## Steps -/

theorem sourceKept_byCommands : KeptByCommands SourceKept :=
  { sourceKept_byHandovers with
    pending := fun hs => hs.of_hearing rfl
    phase := fun hs => hs.of_hearing rfl
    holdCold := fun hs => hs.of_hearing rfl
    coldStart := fun _ => coldStart_sourceKept
    warmReset := warmReset_sourceKept
    readLink := fun {s p up} hs => by
      unfold readLink
      split_ifs <;> cases p <;> exact hs.of_hearing rfl
    transmit := fun {s p} hs => by cases p <;> exact hs.of_hearing rfl
    forward := fun {s p f} hs => by cases p <;> exact hs.of_hearing rfl
    malformed := fun {s p f} hs => by cases p <;> exact hs.of_hearing rfl
    tick := tick_sourceKept
    takeSampleReport := takeSampleReport_sourceKept
    takeSetpoint := takeSetpoint_sourceKept
    staleExpires := staleExpires_sourceKept
    retired := fun hs => hs.of_hearing rfl
    beaconTimer := fun hs => hs.of_hearing rfl
    managers := fun hs => hs.of_hearing rfl
    openRecord := fun hs => hs.of_hearing rfl
    readEvents := fun hs => hs.of_hearing rfl
    rewindEvents := fun hs => hs.of_hearing rfl
    replaceSource := replaceSource_sourceKept
    replaceUnit := replaceUnit_sourceKept
    profiles := fun hs => hs.of_hearing rfl
    banks := fun hs => hs.of_hearing rfl
    replaceSettings := fun hs => by
      rw [replaceSettings_frame]
      exact hs.of_hearing rfl
    changeIdentity := fun {s i t} hs => by
      unfold changeIdentity
      simp only
      split <;> exact hs.of_hearing rfl }

/-- Settles O60: what neither writes a record nor moves a genset to or from ONLINE leaves all that the choice reads, and whatever
does has the source chosen again. -/
theorem stepKeepsSource : Obligations.StepKeepsSource := fun _ _ hs e => sourceKept_byCommands.step_kept e hs

end Sys2Proof.Machine
end

section
/-!
SUPPORT. The expiry commands a tick sends (log 1, log 3): which command is among those of the timers that have run out. Settles O3.
-/

namespace Sys2Proof.Machine

variable {s : State} {c d : Instr} {due : Bool}

@[simp] theorem mem_dueIf : c ∈ dueIf due d ↔ due = true ∧ c = d := by
  cases due <;> simp [dueIf]

theorem forall_mem_dueIf {q : Instr → Prop} : (∀ c ∈ dueIf due d, q c) ↔ (due = true → q d) := by
  simp only [mem_dueIf, and_imp, forall_eq_apply_imp_iff]

theorem dueRecords_expiry : ∀ c ∈ dueRecords s, c.expiry = true := by
  simp only [dueRecords, List.forall_mem_append, List.forall_mem_flatMap, forall_mem_dueIf, Instr.expiry, implies_true, and_self]

theorem dueJobs_expiry : ∀ c ∈ dueJobs s, c.expiry = true := by
  simp only [dueJobs, List.forall_mem_append, List.forall_mem_flatMap, forall_mem_dueIf, Instr.expiry, implies_true, and_self]

/-- Log 1: the tick of a running part with an empty queue leaves in the queue what its timers, once counted down, send. -/
theorem tick_pending (hp : s.pending = []) (hr : s.phase = .running) :
    (tick s).pending = dueRecords (tick s) ++ dueJobs (tick s) ++ dueRetired (tick s) := by
  let out := tickTimers { s with partTime := s.partTime + 1 }
  have empty : out.pending = [] := hp
  have ticked : tick s = { out with pending := dueRecords out ++ dueJobs out ++ dueRetired out } := by
    unfold tick
    split
    · cases hr.symm.trans ‹_›
    · cases hr.symm.trans ‹_›
    · simp only [out, empty, List.nil_append]
  rw [ticked]
  rfl

theorem stateTimerDue_iff {g : GensetState} {u : Fin 16} :
    stateTimerDue s g u = true ↔ s.inState u g = true ∧ (s.genset u).timer = some 0 := by
  simp [stateTimerDue]

/-- Log 20. -/
theorem mirrorDue_iff {p : PvControl} :
    mirrorDue s p = true ↔ p.mirrorValid = true ∧ ∃ e, p.mirrorExpiry = some e ∧ (s.partTime - e).toNat < 2 ^ 31 := by
  simp only [mirrorDue, Bool.and_eq_true, Option.any_eq_true, decide_eq_true_eq]

/-- Settles O3: each clause picks from the three lists the one command a timer sends. -/
theorem dueTimersSendTheirCommands : Obligations.DueTimersSendTheirCommands := by
  intro s t hp hr hstep
  have ticked : tick s = t := by simpa [step, hp] using hstep
  have all : ∀ c ∈ dueRecords t ++ dueJobs t ++ dueRetired t, c.expiry = true ∨ c = .retiredIdentityExpiry := by
    simp only [List.forall_mem_append, dueRetired, forall_mem_dueIf, or_true, implies_true, and_true]
    exact ⟨fun c hc => .inl (dueRecords_expiry c hc), fun c hc => .inl (dueJobs_expiry c hc)⟩
  have pending : t.pending = dueRecords t ++ dueJobs t ++ dueRetired t := by
    rw [← ticked]
    exact tick_pending hp hr
  rw [pending]
  clear ticked hstep pending
  refine ⟨fun i => ?_, fun g => ?_, fun g => ?_, fun x => ?_, fun x => ?_, ?_, ?_, fun u => ?_, fun u => ?_, ?_, fun u => ?_, ?_,
    fun u => ?_, fun i => ?_, ?_, ?_, ?_, ?_, ?_, ?_, ?_, all⟩
  all_goals simp only [dueRecords, dueJobs, dueRetired, List.mem_append, List.mem_flatMap, List.mem_finRange, true_and, mem_dueIf]
  case refine_2 => simp [eq_comm (a := g), and_comm, and_left_comm]
  case refine_3 => simp [eq_comm (a := g), and_comm]
  case refine_4 => cases x <;> simp [State.cycleOf]
  case refine_5 => cases x <;> simp [State.holdOffOf]
  case refine_16 =>
    rcases t.shed.barrier with _ | _ | ⟨_, _, _ | n⟩ <;> simp
  all_goals simp [stateTimerDue_iff, mirrorDue_iff, Option.any_eq_true, and_comm, and_left_comm]

end Sys2Proof.Machine
end

section
/-!
SUPPORT. The reset pins (R191, R192): what each pin does to the part, and the cold-reset values. Settles O4.
-/

namespace Sys2Proof.Machine

variable {s : State} {fsel : Bool} {sid : BitVec 4}

theorem exec_warmResetPinAssert (hs : s.handovers = []) :
    exec .warmResetPinAssert s = .next { s with phase := if s.phase = .running then .warmHeld else s.phase } := by
  unfold exec execWarmResetPinAssert
  by_cases hp : s.phase = .running
  · rw [if_pos hp]
    exact run_next hs (if_pos hp) hs
  · rw [if_neg hp]
    exact run_next hs (if_neg hp) hs

theorem exec_coldResetRelease_held (hs : s.handovers = []) (hp : s.phase = .coldHeld) :
    exec (.coldResetRelease fsel sid) s = .next (.coldStart fsel sid s.pending) :=
  run_next hs (if_pos hp) rfl

/-- Settles O4: what the pins do is an equation each; every block of the cold start holds its default values. -/
theorem resetPinsHoldAndColdResetStarts : Obligations.ResetPinsHoldAndColdResetStarts := by
  intro s fsel sid hs
  refine ⟨run_next hs rfl hs, exec_warmResetPinAssert hs, fun hp => run_next hs (if_neg hp) hs, fun hp => run_next hs (if_neg hp) hs,
    fun hp => ⟨_, exec_coldResetRelease_held hs hp, ?_⟩⟩
  simp [State.coldStart]

end Sys2Proof.Machine
end

section
/-!
SUPPORT. The warm reset (R22, R76, R106, R122, R145, R169, R192, R193): after it no block has anything to act on, so what its change of
source and of reserve hand over leaves the warm-reset values as they are. Settles O5.
-/

namespace Sys2Proof.Machine

variable {s t : State}

/-! ## Hand-overs that nothing acts on -/

/-- Whoever a change of the frequency source or of the reserve is handed to does nothing. -/
structure Unmoved (s : State) : Prop where
  stop : stopTest s = s
  restore : restoreTest s = s
  freq : shedFreqChange s = s
  wait : waitFreqTest s = s
  send : sendTest s = s

/-- R18: a change of source is taken by Shedding and the Sequencer, and then, where no order is to be sent, by nothing else. -/
theorem settleLoop_freqChange (ht : waitFreqTest (shedFreqChange s) = t) (htq : t.handovers = [])
    (hsend : sendTest t = t) {n : Nat} {rest : List Handover} :
    settleLoop (n + 2) (.freqChange :: rest) s = settleLoop n rest t := by
  have taken : handle .freqChange s = t.post [.sendTest] := by rw [handle, freqChanged, ht]
  rw [settleLoop, taken]
  simp only [State.post, htq, List.nil_append, List.cons_append]
  rw [handovers_self htq, settleLoop_cons (h := .sendTest) (t := t) hsend htq]

theorem Unmoved.settleLoop (hq : s.handovers = []) (hu : Unmoved s) {l : List Handover}
    (hl : ∀ h ∈ l, h = .stopTest ∨ h = .restoreTest ∨ h = .freqChange) {n : Nat} (hn : 2 * l.length ≤ n) :
    settleLoop n l s = s := by
  induction l generalizing n with
  | nil => exact settleLoop_nil n
  | cons h rest ih =>
    obtain ⟨n, rfl⟩ : ∃ m, n = m + 2 := ⟨n - 2, by simp at hn; omega⟩
    have hn' : 2 * rest.length ≤ n := by simp at hn; omega
    have hrest := fun x hx => hl x (List.mem_cons_of_mem _ hx)
    rcases hl h List.mem_cons_self with rfl | rfl | rfl
    · rw [settleLoop_cons (h := .stopTest) (t := s) hu.stop hq]
      exact ih hrest (by omega)
    · rw [settleLoop_cons (h := .restoreTest) (t := s) hu.restore hq]
      exact ih hrest (by omega)
    · rw [settleLoop_freqChange (by rw [hu.freq, hu.wait]) hq hu.send]
      exact ih hrest hn'

/-- With no order waiting, no genset ONLINE, no timer or post of Dispatch and Shedding that a test could end and no step that waits
for the frequency. -/
theorem unmoved_of_rest (queue : s.orders.queue = []) (stopTimer : s.dispatch.stopTimer = none)
    (restoreWait : s.dispatch.restoreWait = none) (permission : s.shed.permission = false) (delay : s.shed.restoreDelay = none)
    (stages : s.shed.stageTimers = Vector.replicate 8 none) (state : s.seq.state ≠ .waiting)
    (offline : ∀ u : Fin 16, s.inState u .online = false) : Unmoved s where
  stop := stopTest_idle (stopWanted_none_of_offline offline) stopTimer
  restore := by
    have posted : postRestoreWait none s = s := by simp only [postRestoreWait, ← restoreWait]
    unfold restoreTest restoreFinding
    rw [permission]
    cases s.shed.top <;> simp [posted]
  freq := by
    have shed : { s.shed with stageTimers := Vector.replicate 8 none, restoreDelay := none, permission := false } = s.shed := by
      rw [← stages, ← delay, ← permission]
    have dispatch : { s.dispatch with restoreWait := none } = s.dispatch := by rw [← restoreWait]
    unfold shedFreqChange
    split
    · rfl
    · simp only [losePermission, postRestoreWait, State.modShed, shed, dispatch]
  wait := by simp [waitFreqTest, state]
  send := sendTest_empty queue

/-- R29, R30: a recomputed sheet, and what a changed reserve hands over. -/
theorem recompute_posts : ∃ q : List Handover, (∀ h ∈ q, h = .stopTest ∨ h = .restoreTest) ∧ q.length ≤ 2 ∧
    recompute s = { s with sheet := computeSheet s, handovers := s.handovers ++ q } := by
  unfold recompute
  simp only
  split
  · exact ⟨[.stopTest, .restoreTest], by simp, le_rfl, rfl⟩
  · exact ⟨[], by simp, by simp, by simp⟩

/-! ## The record -/

/-- R171: the newest entry of the record stays when one more joins. -/
theorem mem_append_of_newest {r : EventRecord} {e x : Event} {n : Nat} (h : r.entries.getLast? = some e) :
    e ∈ (r.append n x).entries := by
  obtain ⟨l, hl⟩ := List.getLast?_eq_some_iff.mp h
  simp only [EventRecord.append, hl, List.mem_append, List.mem_singleton]
  split
  · simp
  · rename_i full
    refine .inl ?_
    rw [List.drop_append_of_le_length]
    · simp
    · have : Config.recordSize = 256 := rfl
      simp at full
      omega

/-! ## The event -/

/-- R18: with no source left, the frequency becomes invalid and the change is logged and handed over; where there was none before,
nothing changes. -/
theorem chooseSource_absent (hc : sourceChoice s = .absent) (hh : s.history = []) :
    ∃ (sheet : Sheet) (record : EventRecord) (q : List Handover), (∀ h ∈ q, h = .freqChange) ∧ q.length ≤ 1 ∧
      ((s.freqSource = .absent → s.sheet.freq = none) → sheet.freq = none) ∧
      (∀ e, s.record.entries.getLast? = some e → e ∈ record.entries) ∧
      chooseSource s = { s with freqSource := .absent, sheet := sheet, record := record, handovers := s.handovers ++ q } := by
  unfold chooseSource
  rw [hc]
  simp only
  split
  · rename_i same
    exact ⟨s.sheet, s.record, [], by simp, by simp, fun h => h same.symm, fun e he => List.mem_of_getLast? he, by simp [same]⟩
  · exact ⟨_, _, [.freqChange], by simp, le_rfl, fun _ => rfl, fun e he => mem_append_of_newest he, by rw [← hh]; rfl⟩

theorem warm_state : s.seq.warm.state ≠ .waiting := by
  unfold Sequencer.warm
  cases s.seq.armed <;> exact nofun

/-- R106: no genset is ONLINE after a warm reset. -/
theorem warm_offline {u : Fin 16} : (warmValues s).inState u .online = false := by
  have left : (warmValues s).units[u] = UnitRec.warm s s.units[u] := mapTable_get _ _ u
  have state : ∀ g : GensetControl, g.warm.state ≠ .online := fun g => by
    unfold GensetControl.warm
    split <;> exact nofun
  rw [State.inState, State.isGenset, State.genset, left]
  by_cases hk : (s.units[u]).kind = .genset
  · rw [UnitRec.warm, if_pos hk, decide_eq_false (state _), Bool.and_false]
  · rw [UnitRec.warm, decide_eq_false hk, Bool.false_and]

/-- The warm-reset values with the sheet and the record they are left with, and nothing handed over. -/
def warmState (s : State) (sheet : Sheet) (record : EventRecord) : State :=
  { warmValues s with freqSource := .absent, sheet := sheet, record := record, handovers := [] }

/-- R192, R193: what the warm reset leaves once everything it hands over has been taken. -/
theorem settle_warmReset (hq : s.handovers = []) (d : Nat) (m : StationId) :
    ∃ (sheet : Sheet) (record : EventRecord),
      settle (warmReset d m s) = warmState s sheet record ∧
      (SourceKept s → sheet.freq = none) ∧ sheet.rocof = none ∧
      SheetKept (warmState s sheet record) ∧
      ⟨s.record.nextSeq, s.partTime, .warmReset, none, m.toNat, d⟩ ∈ record.entries := by
  let w := warmValues (s.log .warmReset none m.toNat d)
  obtain ⟨sheet, record, q, hq1, hl1, hfreq, hevent, chosen⟩ := chooseSource_absent (s := w) sourceChoice_warmValues rfl
  let c : State := { w with freqSource := .absent, sheet := { sheet with rocof := none }, record := record, handovers := q }
  obtain ⟨q', hq2, hl2, formed⟩ := recompute_posts (s := c)
  have reset : warmReset d m s = ({ c with sheet := computeSheet c, handovers := q ++ q' } : State).testRecordHigh := by
    rw [← formed]
    unfold warmReset
    simp only
    rw [chosen, show w.handovers = [] from hq]
    rfl
  let t := warmState s (computeSheet c) { record with recordHigh := recordHighAt s.settings.eventOffset record.unread }
  have settled : settle (warmReset d m s) = t := by
    rw [reset, settle]
    have unmoved : Unmoved t := unmoved_of_rest rfl rfl rfl rfl rfl rfl warm_state fun _ => warm_offline (s := s)
    refine Unmoved.settleLoop (s := t) rfl unmoved (l := q ++ q') (fun h hh => ?_) (by
      simp only [List.length_append, cascadeBound_eq]
      omega)
    rcases List.mem_append.mp hh with hh | hh
    · exact .inr (.inr (hq1 h hh))
    · exact (hq2 h hh).imp_right .inl
  refine ⟨_, _, settled, fun hs => ?_, rfl, rfl, hevent _ ?_⟩
  · exact hfreq fun same => hs.2.trans (congrArg s.freqOf same)
  · exact List.getLast?_concat

section
variable {sheet : Sheet} {record : EventRecord}

theorem unit_left (u : Fin 16) : (warmState s sheet record).units[u] = UnitRec.warm s s.units[u] := mapTable_get _ _ u

theorem feeder_left (f : Fin 32) : (warmState s sheet record).feeders[f] = FeederRec.warm s f s.feeders[f] := mapIndexed_get _ _ f

/-- R76, R145. -/
theorem warmHoldOff_iff {f : Fin 32} {r : FeederRec} : warmHoldOff s f r =
    if r.holdOff ≠ none ∨ ((s.shed.entryOf f).any fun e => !e.done) = true then startTimer (timeMs (s.profiles[r.profile]).holdOff)
    else none := by
  simp only [warmHoldOff, Bool.or_eq_true, Option.isSome_iff_ne_none]

/-- What each block takes anew and what it keeps, read off the warm-reset values. -/
theorem warmState_left (hf : SourceKept s → sheet.freq = none) (hr : sheet.rocof = none)
    (hk : SheetKept (warmState s sheet record)) : WarmLeft s (warmState s sheet record) := by
  refine ⟨rfl, rfl, rfl, rfl, rfl, rfl, rfl, rfl, rfl, rfl, rfl, rfl, hf, hr, hk, rfl, rfl, rfl, rfl, rfl, rfl,
    fun i => mapTable_get _ _ i, fun u => ?_, fun u => ?_, fun u hu => ?_, fun u => ?_, fun f => ?_, fun f => ?_, fun f hf => ?_,
    fun f hf => ?_⟩
  case refine_1 => rw [unit_left]; rfl
  case refine_2 => rw [unit_left]; exact ⟨rfl, rfl⟩
  case refine_3 =>
    rw [State.genset, unit_left, UnitRec.warm, if_pos hu]
    rfl
  case refine_4 =>
    simp only [unit_left, UnitRec.warm, PvControl.warm]
    refine ⟨fun due => ?_, fun due => ?_⟩
    · rw [if_pos (mirrorDue_iff.mpr due)]
    · rw [if_neg (mt mirrorDue_iff.mp due)]
  case refine_5 =>
    rw [feeder_left, FeederRec.warm]
    simp only
    split <;> rfl
  case refine_6 =>
    have holdOff := warmHoldOff_iff (s := s) (f := f) (r := s.feeders[f])
    rw [feeder_left, FeederRec.warm]
    simp only
    split <;> exact ⟨rfl, holdOff⟩
  case refine_7 =>
    rw [feeder_left, FeederRec.warm, if_pos hf]
    exact ⟨rfl, rfl, rfl, rfl⟩
  case refine_8 =>
    rw [feeder_left, FeederRec.warm, if_neg hf]
    exact ⟨rfl, rfl, rfl, rfl⟩

end

/-- A warm reset reads nothing that the answer to a request changes. -/
theorem warmLeft_of_answered {r : Telegram} {st : Status} {c : Octets} {s1 : State}
    (frame : s1 = { s with managers := s1.managers, openRecord := s1.openRecord }) (h : WarmLeft (answered r st c s1) t) :
    WarmLeft s t := by
  rw [frame] at h
  exact h

/-- Settles O5. A request's answer and its place in the Manager List come before the reset, which reads neither. -/
theorem warmResetKeepsAndClears : Obligations.WarmResetKeepsAndClears := by
  refine ⟨fun s hp hq => ?_, fun s p f r s1 h => ?_⟩
  · obtain ⟨sheet, record, settled, hfreq, hrocof, hsheet, hevent⟩ := settle_warmReset hq detailPin 0
    refine ⟨_, ?_, warmState_left hfreq hrocof hsheet, rfl, rfl, rfl, rfl, rfl, hevent⟩
    unfold exec execWarmResetPinRelease
    rw [run, handovers_self hq, if_pos hp, settled]
  · have answer : serveBy .warmReset (requestOf r) s1 = { state := s1, status := .ok, after := .warmReset } := rfl
    have frame := admitRequest_frame h.2.2.2.1
    have hq : (answered r .ok [] s1).handovers = [] := requested_handovers (s1 := s1) h
    obtain ⟨sheet, record, settled, hfreq, hrocof, hsheet, hevent⟩ := settle_warmReset hq detailRequest r.sender
    have left := warmState_left hfreq hrocof hsheet
    refine ⟨warmState (answered r .ok [] s1) sheet record, ?_, ?_, ?_, rfl, rfl, rfl, rfl, ?_⟩
    · have taken := run_request h
      rw [answer] at taken
      simp only at taken
      rw [settle_nil (requested_handovers h)] at taken
      exact taken.trans (congrArg _ settled)
    · exact warmLeft_of_answered frame left
    · rw [frame]
      rfl
    · rw [frame] at hevent
      exact hevent

end Sys2Proof.Machine
end

section
/-!
SUPPORT. What a command writes into one record, once everything it hands over has been taken: hand-overs leave `State.given` as it was
(`settle_given`), so the record shows what the command itself wrote. Settles O12.
-/

namespace Sys2Proof.Machine

variable {s : State} {p : Port} {f : Frame} {t : Telegram}

/-! ## One record written -/

theorem modUnit_given_eq (u : Fin 16) (g : UnitRec → UnitRec) : (s.modUnit u g).given =
    { s.given with units := fun v => if v = u then (g s.units[u]).given else (s.units[v]).given } := by
  simp only [State.given, modUnit_units, Fin.getElem_fin, modifyAt_get, Given.mk.injEq]
  refine ⟨rfl, rfl, rfl, rfl, rfl, rfl, rfl, rfl, rfl, rfl, rfl, rfl, rfl, rfl, rfl, rfl, rfl, rfl, funext fun v => ?_, rfl⟩
  rcases eq_or_ne u v with rfl | other
  · rw [if_pos rfl, if_pos rfl]
  · rw [if_neg other, if_neg other.symm]

theorem modFeeder_given_eq (k : Fin 32) (g : FeederRec → FeederRec) : (s.modFeeder k g).given =
    { s.given with feeders := fun j => if j = k then (g s.feeders[k]).given else (s.feeders[j]).given } := by
  simp only [State.given, modFeeder_feeders, Fin.getElem_fin, modifyAt_get, Given.mk.injEq]
  refine ⟨rfl, rfl, rfl, rfl, rfl, rfl, rfl, rfl, rfl, rfl, rfl, rfl, rfl, rfl, rfl, rfl, rfl, rfl, rfl, funext fun v => ?_⟩
  rcases eq_or_ne k v with rfl | other
  · rw [if_pos rfl, if_pos rfl]
  · rw [if_neg other, if_neg other.symm]

theorem passedOn_given : (passedOn p f t s).given =
    { s.given with portA := (passedOn p f t s).portA.given, portB := (passedOn p f t s).portB.given } := by
  rw [passedOn_frame]
  rfl

/-! ## Position Reports (R15, R16) -/

theorem exec_positionReport (h : Arrives s p f t) (hk : t.kind = kindPositionReport) :
    exec (.positionReport p f) s = .next (settle (takePositionReport (positionOf t) (passedOn p f t s))) := by
  rw [exec_arrival (p := p) (f := f) rfl, run, handovers_self h.1.2, receive_arrives h, takeIn,
    if_neg (by rw [hk]; decide), if_pos hk]

/-- R15: a report that is not admitted leaves no trace but its forwarding. -/
theorem exec_positionReport_aside (h : Arrives s p f t) (hk : t.kind = kindPositionReport)
    (ha : takePositionReport (positionOf t) (passedOn p f t s) = passedOn p f t s) :
    exec (.positionReport p f) s = .next (passedOn p f t s) := by
  rw [exec_positionReport h hk, ha, settle_nil (passedOn_handovers.trans h.1.2)]

theorem acceptUnitReport_given {u : Fin 16} {r : PositionReport} :
    (acceptUnitReport u r s).given = (s.modUnit u (writeUnitDevice r)).given := by
  unfold acceptUnitReport
  simp only [post_given]
  split <;> simp

theorem acceptFeederReport_given {k : Fin 32} {r : PositionReport} :
    (acceptFeederReport k r s).given = (s.modFeeder k (writeFeederDevice r)).given := by
  unfold acceptFeederReport
  simp only [post_given]
  split <;> simp

theorem passedOn_recordOf {b : StationId} : recordOf (passedOn p f t s) b = recordOf s b := by
  rw [passedOn_frame]
  rfl

/-- R16: the device state a report writes is that of its record's kind; a report writes no configuration. -/
theorem writeUnitDevice_given {r : PositionReport} {x : UnitRec} : (writeUnitDevice r x).given = { x.given with
    lastPos := some r.seq, breaker := r.breaker.getD x.breaker, isLocal := r.isLocal, inhibit := r.inhibit
    engine := if x.kind = .genset then r.engine.getD x.engine else x.engine
    unloaded := if x.kind = .genset then r.unloaded else x.unloaded } := by
  unfold writeUnitDevice
  simp only
  split <;> rfl

theorem takePositionReport_unit {u : Fin 16} (hu : recordOf s t.sender = some (.unit u)) : takePositionReport (positionOf t) s =
    if newerOrFirst t.seq (s.units[u]).lastPos then acceptUnitReport u (positionOf t) s else s := by
  rw [takePositionReport, show recordOf s (positionOf t).sender = _ from hu]
  rfl

theorem takePositionReport_feeder {k : Fin 32} (hk : recordOf s t.sender = some (.feeder k)) : takePositionReport (positionOf t) s =
    if newerOrFirst t.seq (s.feeders[k]).lastPos then acceptFeederReport k (positionOf t) s else s := by
  rw [takePositionReport, show recordOf s (positionOf t).sender = _ from hk]
  rfl

theorem passedOn_units : (passedOn p f t s).units = s.units := by rw [passedOn_frame]
theorem passedOn_feeders : (passedOn p f t s).feeders = s.feeders := by rw [passedOn_frame]

/-- R16: what is left of the state by a report that is admitted for a unit record. -/
theorem positionReport_unit {u : Fin 16} (h : Arrives s p f t) (hk : t.kind = kindPositionReport)
    (hu : recordOf s t.sender = some (.unit u)) (hnew : newerOrFirst t.seq (s.units[u]).lastPos = true) :
    ∃ t', exec (.positionReport p f) s = .next t' ∧ t'.handovers = [] ∧
      t'.given = ((passedOn p f t s).modUnit u (writeUnitDevice (positionOf t))).given := by
  refine ⟨_, exec_positionReport h hk, settle_handovers, ?_⟩
  rw [settle_given, takePositionReport_unit (passedOn_recordOf.trans hu), passedOn_units, if_pos hnew, acceptUnitReport_given]

theorem positionReport_feeder {k : Fin 32} (h : Arrives s p f t) (hk : t.kind = kindPositionReport)
    (hf : recordOf s t.sender = some (.feeder k)) (hnew : newerOrFirst t.seq (s.feeders[k]).lastPos = true) :
    ∃ t', exec (.positionReport p f) s = .next t' ∧ t'.handovers = [] ∧
      t'.given = ((passedOn p f t s).modFeeder k (writeFeederDevice (positionOf t))).given := by
  refine ⟨_, exec_positionReport h hk, settle_handovers, ?_⟩
  rw [settle_given, takePositionReport_feeder (passedOn_recordOf.trans hf), passedOn_feeders, if_pos hnew, acceptFeederReport_given]

/-- R16, R196: the device state of a feeder. -/
theorem writeFeederDevice_given {r : PositionReport} {x : FeederRec} : (writeFeederDevice r x).given =
    { x.given with lastPos := some r.seq, breaker := r.breaker.getD x.breaker, inhibit := r.inhibit } := rfl

/-- Settles O12: admission is by record and by sequence, and an admitted report writes its record and nothing else. -/
theorem positionReportWritesDeviceState : Obligations.PositionReportWritesDeviceState := by
  intro s p f t h hk
  have untaken := fun ha => exec_positionReport_aside h hk ha
  have old : ∀ {last : Option TelSeq} {l}, last = some l → newer t.seq l = false → ¬ newerOrFirst t.seq last = true :=
    fun hl hnew => by rw [(newerOrFirst_eq_false_iff _ _).mpr ⟨_, hl, hnew⟩]; exact nofun
  refine ⟨fun hn => untaken ?_, fun u l hu hl hnew => untaken ?_, fun k l hf hl hnew => untaken ?_, fun u hu hnew => ?_,
    fun k hf hnew => ?_⟩
  · rw [takePositionReport, passedOn_recordOf, show recordOf s (positionOf t).sender = none from hn]
  · rw [takePositionReport_unit (passedOn_recordOf.trans hu), passedOn_units, if_neg (old hl hnew)]
  · rw [takePositionReport_feeder (passedOn_recordOf.trans hf), passedOn_feeders, if_neg (old hl hnew)]
  · obtain ⟨t', hexec, hq, hgiven⟩ := positionReport_unit h hk hu hnew
    rw [modUnit_given_eq, passedOn_units, passedOn_given] at hgiven
    have units : ∀ v : Fin 16, (t'.units[v]).given = _ := fun v => congrFun (congrArg Given.units hgiven) v
    refine ⟨t', hexec, ⟨hq, by rw [hgiven]⟩, fun v hv => (units v).trans (if_neg hv),
      fun k => congrFun (congrArg Given.feeders hgiven) k, ?_⟩
    exact ((units u).trans (if_pos rfl)).trans writeUnitDevice_given
  · obtain ⟨t', hexec, hq, hgiven⟩ := positionReport_feeder h hk hf hnew
    rw [modFeeder_given_eq, passedOn_feeders, passedOn_given] at hgiven
    have feeders : ∀ j : Fin 32, (t'.feeders[j]).given = _ := fun j => congrFun (congrArg Given.feeders hgiven) j
    refine ⟨t', hexec, ⟨hq, by rw [hgiven]⟩, fun u => congrFun (congrArg Given.units hgiven) u,
      fun j hj => (feeders j).trans (if_neg hj), ?_⟩
    exact ((feeders k).trans (if_pos rfl)).trans writeFeederDevice_given

end Sys2Proof.Machine
end

section
/-!
SUPPORT. Stale publishers and the dead-bus condition (R12, R18, R150): the event of each, and the short cascade it starts. Settles O14
and O37.
-/

namespace Sys2Proof.Machine

variable {s t : State} {p : Port} {f : Frame} {r : Telegram} {i : Fin 64}

/-! ## Short cascades -/

theorem runWhenUp_settle {event : State → State} (h : Quiet s) : runWhenUp event s = .next (settle (event s)) := by
  rw [runWhenUp, run, handovers_self h.2, if_pos h.1]

theorem settle_post (hq : s.handovers = []) (l : List Handover) : settle (s.post l) = settleLoop (2 ^ 64 - 8 + 8) l s := by
  rw [settle, cascadeBound_eq]
  simp only [State.post, hq, List.nil_append]
  rw [handovers_self hq]

theorem settle_post_one {x : Handover} (hq : s.handovers = []) (hx : handle x s = t) (ht : t.handovers = []) :
    settle (s.post [x]) = t := by
  rw [settle_post hq, settleLoop_cons hx ht, settleLoop_nil]

/-! ## The dead-bus condition (R150) -/

theorem modSource_primaryRef {g : SourceEntry → SourceEntry}
    (hg : (g s.sources[i]).publisher = (s.sources[i]).publisher ∧ (g s.sources[i]).role = (s.sources[i]).role) :
    (s.modSource i g).primaryRef = s.primaryRef := by
  have same : ∀ j : Fin 64, (((s.modSource i g).sources[j]).used && ((s.modSource i g).sources[j]).role = .reference) =
      ((s.sources[j]).used && (s.sources[j]).role = .reference) := fun j => by
    simp only [modSource_sources, Fin.getElem_fin, modifyAt_get]
    split_ifs with at_
    · subst at_
      simp only [SourceEntry.used]
      obtain ⟨publisher, role⟩ := hg
      simp only [Fin.getElem_fin] at publisher role
      rw [publisher, role]
    · rfl
  simp only [State.primaryRef, State.references, same]

theorem deadBus_of_stale (hp : s.primaryRef = some i) (hf : (s.sources[i]).fresh = false) : deadBus s = false := by
  have hf' : (s.sources[i.val]).fresh = false := hf
  simp [deadBus, hp, hf']

theorem deadBusTest_alive (h : deadBus s = false) :
    deadBusTest false s = { s with seq := { s.seq with deadBusTimer := none, declared := false } } := by
  simp [deadBusTest, h, State.modSeq]

/-! ## A publisher goes STALE (R12) -/

/-- The state with the entry STALE and its stale timer idle. -/
def madeStale (i : Fin 64) (s : State) : State := s.modSource i fun e => { e with fresh := false, staleTimer := none }

theorem madeStale_primaryRef : (madeStale i s).primaryRef = s.primaryRef := modSource_primaryRef ⟨rfl, rfl⟩

theorem madeStale_fresh : ((madeStale i s).sources[i]).fresh = false := by
  simp [madeStale]

theorem eventValue_eq {e : SourceEntry} :
    e.eventValue = if e.role = .unit ∨ e.role = .feeder then (e.target : Int) else -1 := by
  unfold SourceEntry.eventValue
  cases e.role <;> simp

theorem staleExpires_due (h : (s.sources[i]).staleTimer = some 0) : staleExpires i s =
    let chosen := chooseSource (recomputeFor (s.sources[i]).role
      ((madeStale i s).log .stale (sourceSubject i) (s.sources[i]).eventValue detailNone))
    if s.primaryRef = some i then chosen.post [.deadBusTest false] else chosen := by
  unfold staleExpires
  rw [if_neg (not_not_intro h)]
  rfl

theorem recomputeFor_same {x : Role} (h : SheetKept s) : recomputeFor x s = s := by
  have formed : recompute s = s := recompute_same h.symm
  cases x with
  | unit | feeder => exact formed
  | _ => rfl

theorem madeStale_given : (madeStale i s).given = { s.given with sources := (madeStale i s).sources } := rfl

theorem recomputeFor_given {x : Role} : (recomputeFor x s).given = s.given := by
  cases x with
  | unit | feeder => exact recompute_given
  | _ => rfl

theorem staleExpires_given (h : (s.sources[i]).staleTimer = some 0) : (staleExpires i s).given = (madeStale i s).given := by
  rw [staleExpires_due h]
  simp only
  split <;> simp [recomputeFor_given]

theorem deadBusTest_made_stale (hp : s.primaryRef = some i) (hf : (s.sources[i]).fresh = false) (hq : s.handovers = []) :
    settle (s.post [.deadBusTest false]) = { s with seq := { s.seq with deadBusTimer := none, declared := false } } :=
  settle_post_one hq (deadBusTest_alive (deadBus_of_stale hp hf)) hq

/-- R12: what the Event Record takes. -/
def staleEvent (i : Fin 64) (s : State) : Logged :=
  (.stale, some ⟨.source, i.val⟩,
    if (s.sources[i]).role = .unit ∨ (s.sources[i]).role = .feeder then ((s.sources[i]).target : Int) else -1, 0)

/-- The publisher is STALE and that is logged. -/
def staleLogged (i : Fin 64) (s : State) : State := { madeStale i s with record := s.recordWith [staleEvent i s] }

theorem log_stale : (madeStale i s).log .stale (sourceSubject i) (s.sources[i]).eventValue detailNone = staleLogged i s := by
  rw [eventValue_eq]
  rfl

/-- R18, R31, R33: and no other source is left. -/
def freqLost (i : Fin 64) (s : State) : State :=
  { staleLogged i s with
    freqSource := .absent, history := [], sheet := { s.sheet with freq := none, rocof := none }
    record := s.recordWith [staleEvent i s, (.freqSource, none, 0, 4)] }

theorem chooseSource_staleLogged (habsent : sourceChoice (madeStale i s) = .absent) (hfrom : s.freqSource = .reference i) :
    chooseSource (staleLogged i s) = (freqLost i s).post [.freqChange] := by
  have choice : sourceChoice (staleLogged i s) = .absent := habsent
  have lost : FreqSource.absent ≠ (staleLogged i s).freqSource := by
    rw [show (staleLogged i s).freqSource = _ from hfrom]
    exact nofun
  unfold chooseSource
  rw [choice]
  simp only [if_neg lost]
  rfl

theorem post_post {l m : List Handover} : (s.post l).post m = s.post (l ++ m) := by simp [State.post]

/-- R130, R139: the stage timers have stopped and permission has been withdrawn. -/
def permissionLost (s : State) : State :=
  { s with
    shed := { s.shed with stageTimers := Vector.replicate 8 none, restoreDelay := none, permission := false }
    dispatch := { s.dispatch with restoreWait := none } }

/-- R18, R159: with the frequency lost, and no step that its absence could end. -/
theorem freqLost_taken (h : s.sheet.freq = none) : waitFreqTest (shedFreqChange s) = permissionLost s := by
  simp [shedFreqChange, permissionLost, losePermission, postRestoreWait, State.modShed, waitFreqTest, waitFreqMet, h]

/-- Settles O14: the expiry is followed to the choice of the frequency source; either that stands, or its loss starts a cascade in
which nothing else has anything to act on. -/
theorem staleTimerExpiryMakesStale : Obligations.StaleTimerExpiryMakesStale := by
  intro s i hs
  have execs : exec (.staleTimerExpiry i) s = .next (settle (staleExpires i s)) := runWhenUp_settle hs
  refine ⟨fun hidle => ?idle, fun hdue => ⟨?frame, fun hsheet hsame => ?source, fun hrole hfrom habsent hqueue => ?lost⟩⟩
  case idle =>
    rw [execs, staleExpires, if_pos hidle, settle_nil hs.2]
  case frame =>
    have given : (settle (staleExpires i s)).given = (madeStale i s).given := by rw [settle_given, staleExpires_given hdue]
    have sources : (settle (staleExpires i s)).sources = (madeStale i s).sources := congrArg Given.sources given
    refine ⟨_, execs, settle_handovers, by rw [given, sources, madeStale_given], fun j hj => ?_, ?_⟩
    · rw [sources]
      simp [madeStale, hj.symm]
    · rw [sources]
      simp [madeStale]
  case source =>
    have formed : recomputeFor (s.sources[i]).role (staleLogged i s) = staleLogged i s := recomputeFor_same hsheet
    have chosen : chooseSource (staleLogged i s) = staleLogged i s := chooseSource_same hsame
    rw [execs, staleExpires_due hdue]
    simp only
    rw [log_stale, formed, chosen]
    split
    · rename_i hp
      rw [deadBusTest_made_stale (s := staleLogged i s) (madeStale_primaryRef.trans hp) madeStale_fresh hs.2]
      rfl
    · exact congrArg _ (settle_nil (s := staleLogged i s) hs.2)
  case lost =>
    have quiet : (freqLost i s).handovers = [] := hs.2
    have unsummed : recomputeFor (s.sources[i]).role (staleLogged i s) = staleLogged i s := by
      rw [hrole]
      rfl
    rw [execs, staleExpires_due hdue]
    simp only
    rw [log_stale, unsummed, chooseSource_staleLogged habsent hfrom]
    split
    · rename_i hp
      rw [post_post, settle_post quiet, List.singleton_append,
        settleLoop_freqChange (freqLost_taken (s := freqLost i s) rfl) quiet (sendTest_empty hqueue),
        settleLoop_cons (h := .deadBusTest false)
          (deadBusTest_alive (deadBus_of_stale (s := permissionLost (freqLost i s)) (i := i) (madeStale_primaryRef.trans hp)
            madeStale_fresh)) quiet,
        settleLoop_nil]
      rfl
    · rw [settle_post quiet, settleLoop_freqChange (freqLost_taken (s := freqLost i s) rfl) quiet (sendTest_empty hqueue),
        settleLoop_nil]
      rfl

end Sys2Proof.Machine
end

section
/-!
SUPPORT. Blackouts and the start of a run (R150, R151, R153): the declaration, a run whose first step is a WAIT_TIME, and the test of
the dead-bus condition at a U of the primary reference. Settles O37.
-/

namespace Sys2Proof.Machine

variable {s : State} {p : Port} {f : Frame} {t : Telegram} {i : Fin 64}

/-! ## The start of a run (R138, R153, R154, R158) -/

/-- R36, R109: no plant participates, so a Curtailment evaluation has no limit to send. -/
theorem curtailEval_none (h : ∀ u : Fin 16, (s.units[u]).participating = false) : curtailEval s = s := by
  have none : ((List.finRange 16).filter fun u => (s.units[u]).participating) = [] :=
    List.filter_eq_nil_iff.mpr fun u _ => by rw [h u]; exact nofun
  simp only [curtailEval, pvLimits, none]
  simp

theorem setStack_same (h : s.shed.stack = []) : setStack [] s = s := by
  simp only [setStack, h, State.modShed, List.getLast?_nil, Option.map_none, ne_eq, not_true_eq_false, if_false, List.append_nil,
    State.post]
  rw [← h]

/-- R138: nothing is under restoration or posted to Dispatch. -/
def restorationStopped (s : State) : State :=
  { s with shed := { s.shed with underRestore := none }, dispatch := { s.dispatch with restoreWait := none } }

theorem runStart_quiet (hq : s.orders.queue = []) (hb : s.shed.barrier = .idle) : runStart s = restorationStopped s := by
  have unchanged : withdrawCloses s = s := cancelWhere_none _ _ (by simp [hq])
  simp only [runStart, unchanged, postRestoreWait, State.modShed, hb, restorationStopped]

theorem beginStep_waitTime {n : Fin 48} (h : WaitStep s.seq n) (hr : s.inRun = true) (hs : s.seq.state ≠ .suspended) :
    beginStep n.val s = { s with seq := s.seq.waitsAt n } := by
  obtain ⟨kind, time⟩ := h
  have found : index? 48 n.val = some n := by simp [index?]
  unfold beginStep
  rw [hr, found]
  simp only [Bool.not_true, Bool.false_eq_true, if_false, if_neg hs, actStep, kind, beginWaitTime, time]
  rfl

/-- R153, steps 1 to 4: what the start of a run sets before it is handed over. -/
def runOwned (c : RunCause) (s : State) : State :=
  { s with
    seq := { s.seq with
      state := .running, position := 0, stack := [], progress := { ended := true }, pvReleased := false, stepTimeout := none
      serial := s.seq.serial + 1 }
    feeders := s.runBegins.feeders
    record := s.recordWith [(.seqBegin, none, 0, c.detail)] }

theorem startRun_ready {c : RunCause} (h : s.shed.stack = []) :
    startRun c s = (runOwned c s).post [.runStart, .curtailEval, .stepBegin 0] := by
  have outside : ∀ k : Fin 32, (s.shed.entryOf k).isSome = false := fun k => by simp [Shedding.entryOf, h]
  have owners : mapIndexed (fun k r => runOwner (s.shed.entryOf k).isSome r) s.feeders = s.runBegins.feeders := by
    refine Vector.ext fun j hj => ?_
    rw [mapIndexed_get _ _ ⟨j, hj⟩, outside, State.runBegins, mapTable_get _ _ ⟨j, hj⟩]
    simp [runOwner, runTakes, and_assoc]
  change (setStack [] { runOwned c s with
    feeders := mapIndexed (fun k r => runOwner (s.shed.entryOf k).isSome r) s.feeders }).post _ = _
  rw [owners]
  exact congrArg (fun x : State => x.post [.runStart, .curtailEval, .stepBegin 0]) (setStack_same (s := runOwned c s) h)

/-- R138, R153: a run whose first step is a WAIT_TIME, and which no other block acts on. -/
theorem settle_startRun {c : RunCause} (hq : s.handovers = []) (h : RunReady s) : settle (startRun c s) =
    { s.runBegins with record := s.recordWith [(.seqBegin, none, 0, c.detail)] } := by
  obtain ⟨wait, queue, stack, barrier, apart⟩ := h
  have quiet : (runOwned c s).handovers = [] := hq
  rw [startRun_ready stack, settle_post quiet,
    settleLoop_cons (h := .runStart) (runStart_quiet (s := runOwned c s) queue barrier) quiet,
    settleLoop_cons (h := .curtailEval) (curtailEval_none (s := restorationStopped (runOwned c s)) apart) quiet,
    settleLoop_cons (h := .stepBegin 0) (beginStep_waitTime (s := restorationStopped (runOwned c s)) (n := 0) wait rfl nofun) quiet,
    settleLoop_nil]
  rfl

/-! ## A blackout is declared (R150, R151) -/

/-- R151: what the Event Record takes. -/
def blackoutEvent (s : State) : Logged :=
  (.blackout, s.primaryRef.map (fun i => ({ table := .source, index := i.val } : Subject)),
    (match s.primaryRef with | some i => ((s.sources[i]).u.getD 0 : Nat) | none => 0), 0)

/-- The blackout is declared and logged. -/
def blackoutLogged (s : State) : State :=
  { s with seq := { s.seq with deadBusTimer := none, declared := true }, record := s.recordWith [blackoutEvent s] }

theorem declareBlackout_eq : declareBlackout s =
    if s.seq.state = .armed then startRun .blackout (blackoutLogged s) else blackoutLogged s := by
  have logged : (s.modSeq fun q => { q with deadBusTimer := none, declared := true }).log .blackout
      (s.primaryRef.bind sourceSubject) ((s.primaryRef.bind fun i => (s.sources[i]).u).getD 0 : Nat) detailNone =
        blackoutLogged s := by
    unfold blackoutLogged blackoutEvent
    cases s.primaryRef <;> rfl
  unfold declareBlackout
  simp only
  rw [logged]

/-! ## A U of the primary reference (R10, R20) -/

/-- The state with a report's U written, clamped to its range. -/
def measuredU (i : Fin 64) (seq : TelSeq) (time : PartTime) (v : Int) (s : State) : State :=
  s.modSource i fun e => { e with
    lastSeq := some seq, lastArrival := some time, staleTimer := some (timeOrSecond e.staleLimit)
    u := some (max 0 (min 2000 v)).toNat, clamped := decide (((max 0 (min 2000 v)).toNat : Int) ≠ v) }

theorem primaryRef_reference (h : s.primaryRef = some i) : (s.sources[i]).used = true ∧ (s.sources[i]).role = .reference := by
  have member : i ∈ s.references := List.mem_of_mem_head? h
  simp only [State.references, List.mem_filter, Bool.and_eq_true, decide_eq_true_eq] at member
  exact member.2

theorem primaryRef_role (h : s.primaryRef = some i) : (s.sources[i]).role = .reference := (primaryRef_reference h).2

theorem modSource_entry {g : SourceEntry → SourceEntry} : (s.modSource i g).sources[i] = g s.sources[i] := by
  simp only [modSource_sources, Fin.getElem_fin, modifyAt_get, if_true]

theorem modSource_modSource {g k : SourceEntry → SourceEntry} :
    (s.modSource i g).modSource i k = s.modSource i fun e => k (g e) := by
  simp only [State.modSource, modifyAt, Fin.getElem_fin, Vector.getElem_set_self, Vector.set_set]

/-- Only what becomes of the entry matters. -/
theorem modSource_congr {g k : SourceEntry → SourceEntry} (h : g s.sources[i] = k s.sources[i]) : s.modSource i g = s.modSource i k := by
  simp only [State.modSource, modifyAt, h]

/-- R7, R9: a report's U, clamped to its range. -/
theorem voltItem_of_u {l : List (Nat × Int)} {v : Int} (hu : l.find? (fun x => x.1 = 3) = some (3, v)) :
    voltItem l = some (max 0 (min 2000 v), max 0 (min 2000 v) != v) := by
  have first : firstItem quantityU l = some v := congrArg (Option.map Prod.snd) hu
  rw [voltItem, clampedItem, first]
  rfl

theorem freqItem_of_no_f {l : List (Nat × Int)} (hf : ∀ x ∈ l, x.1 ≠ 2) : freqItem l = none := by
  have absent : l.find? (fun x => x.1 = 2) = none := List.find?_eq_none.mpr fun x hx => by simpa using hf x hx
  have first : firstItem quantityF l = none := congrArg (Option.map Prod.snd) absent
  rw [freqItem, clampedItem, first, Option.map_none]

/-- R8 to R10: the entry of a reference after a report with a U and no F. -/
def withU (v : Int) (e : SourceEntry) : SourceEntry :=
  { e with
    fresh := true, staleTimer := some (timeOrSecond e.staleLimit), u := some (max 0 (min 2000 v)).toNat
    clamped := decide (((max 0 (min 2000 v)).toNat : Int) ≠ v) }

section
variable {r : SampleReport} {v : Int}

theorem sampleWritten_u (hrole : (s.sources[i]).role = .reference) (hfresh : (s.sources[i]).fresh = true)
    (hu : r.items.find? (fun x => x.1 = 3) = some (3, v)) (hf : ∀ x ∈ r.items, x.1 ≠ 2) :
    sampleWritten i r s = s.modSource i (withU v) := by
  have entry : writeSource r.items s.sources[i] = { s.sources[i] with
      u := some (max 0 (min 2000 v)).toNat, clamped := decide (((max 0 (min 2000 v)).toNat : Int) ≠ v) } := by
    have clamped : (max 0 (min 2000 v) != v) = decide (((max 0 (min 2000 v)).toNat : Int) ≠ v) := by
      rw [Int.toNat_of_nonneg (le_max_left 0 _)]
      exact Bool.eq_iff_iff.mpr (by simp)
    simp only [writeSource, hrole, freqItem_of_no_f hf, voltItem_of_u hu, written, clamped, clampedAfter, List.all_cons,
      Option.isNone_none, Option.isNone_some, Bool.true_and, Bool.false_and, Bool.false_eq_true, if_false, List.any_cons,
      Option.any_none, Option.any_some, List.any_nil, Bool.false_or, Bool.or_false]
  have wrote : writeItems i r.items s = s.modSource i (writeSource r.items) := by
    simp only [writeItems, hrole]
  have stays : ((s.modSource i (writeSource r.items)).sources[i]).fresh = true := by
    rw [modSource_entry, entry]
    exact hfresh
  simp only [sampleWritten, makeFresh, wrote, if_pos stays, modSource_modSource]
  exact modSource_congr (by rw [entry]; simp [withU])

theorem acceptSample_u (hp : s.primaryRef = some i) (hfresh : (s.sources[i]).fresh = true)
    (hu : r.items.find? (fun x => x.1 = 3) = some (3, v)) (hf : ∀ x ∈ r.items, x.1 ≠ 2) :
    acceptSample i r s = (s.modSource i (withU v)).post [.deadBusTest false] := by
  have hrole := primaryRef_role hp
  have wrote := sampleWritten_u hrole hfresh hu hf
  have chosen : sampleChosen i r s = s.modSource i (withU v) := by
    have freq : entryFreq (s.modSource i (withU v)) i = entryFreq s i := by
      simp only [entryFreq, modSource_entry, withU, hrole]
    unfold sampleChosen
    simp only [wrote, freq, hfresh]
    cases entryFreq s i <;> simp
  have none : ∀ x, sampleFreq x i r.items = none := fun x => by
    simp [sampleFreq, freqItem_of_no_f hf]
  have told : sampleHandovers (s.modSource i (withU v)) i (s.sources[i]).fresh r.items = [.deadBusTest false] := by
    have primary : (s.modSource i (withU v)).primaryRef = some i := (modSource_primaryRef ⟨rfl, rfl⟩).trans hp
    simp only [sampleHandovers, primaryRef_role primary]
    simp [primary, voltItem_of_u hu]
  rw [acceptSample_eq]
  simp only [hrole, chosen, recomputeFor, none, takeSample, told]

end

theorem takeSampleReport_u {r : SampleReport} {v : Int} (hi : findIndex s.sources (fun e => e.used && e.publisher = r.sender) = some i)
    (hp : s.primaryRef = some i) (hfresh : (s.sources[i]).fresh = true) (hnew : newerOrFirst r.seq (s.sources[i]).lastSeq = true)
    (hvalid : r.valid = true) (hu : r.items.find? (fun x => x.1 = 3) = some (3, v)) (hf : ∀ x ∈ r.items, x.1 ≠ 2) :
    takeSampleReport r s = (measuredU i r.seq s.partTime v s).post [.deadBusTest false] := by
  rw [takeSampleReport_admitted hi (by rw [primaryRef_role hp]; exact nofun) (.inr hnew), if_pos hvalid]
  rw [acceptSample_u ((modSource_primaryRef ⟨rfl, rfl⟩).trans hp) (by rw [modSource_entry]; exact hfresh) hu hf,
    modSource_modSource]
  congr 1
  refine modSource_congr ?_
  simp only [withU, hfresh]

theorem passedOn_primaryRef {t : Telegram} : (passedOn p f t s).primaryRef = s.primaryRef := by
  rw [passedOn_frame]
  rfl

section
variable {t : Telegram}

theorem passedOn_seq : (passedOn p f t s).seq = s.seq := by rw [passedOn_frame]

theorem passedOn_bank : (passedOn p f t s).bank = s.bank := by
  rw [passedOn_frame]
  rfl

theorem passedOn_recordWith {l : List Logged} : (passedOn p f t s).recordWith l = s.recordWith l := by
  rw [passedOn_frame]
  rfl

theorem passedOn_inState {g : Fin 16} {x : GensetState} : (passedOn p f t s).inState g x = s.inState g x := by
  rw [passedOn_frame]
  rfl

end

theorem deadBus_iff (hp : s.primaryRef = some i) {u : Nat} (hfresh : (s.sources[i]).fresh = true) (hu : (s.sources[i]).u = some u) :
    deadBus s = true ↔ u < s.bank.deadBusVoltage ∧ ∀ g : Fin 16, s.inState g .online = false := by
  have offline : s.onlineUnits.isEmpty = true ↔ ∀ g : Fin 16, s.inState g .online = false := by
    rw [State.onlineUnits, List.isEmpty_iff, List.filter_eq_nil_iff]
    simp
  rw [deadBus, Bool.and_eq_true, offline, hp, Option.any_some, hfresh, hu, Option.any_some, Bool.true_and, decide_eq_true_eq]

theorem deadBusTest_known (hd : deadBus s = true) (h : s.seq.declared = true ∨ s.seq.deadBusTimer ≠ none) :
    deadBusTest false s = s := by
  have known : (s.seq.declared || s.seq.deadBusTimer.isSome) = true := by
    rw [Bool.or_eq_true, Option.isSome_iff_ne_none]
    exact h
  simp [deadBusTest, hd, known]

theorem deadBusTest_first (hd : deadBus s = true) (h : s.seq.declared = false) (ht : s.seq.deadBusTimer = none) :
    deadBusTest false s = if timeMs s.bank.deadBusTime = 0 then declareBlackout s
      else { s with seq := { s.seq with deadBusTimer := some (timeMs s.bank.deadBusTime) } } := by
  simp [deadBusTest, hd, h, ht, State.modSeq]

/-- Settles O37: the expiry declares the blackout, and a measured U decides the dead-bus condition on which its test turns. -/
theorem deadBusTimerDeclaresBlackout : Obligations.DeadBusTimerDeclaresBlackout := by
  refine ⟨fun s hs => ?_, fun s p f t i v h hk hi hp hfresh hnew hvalid hu hf => ?_⟩
  · have execs : exec .deadBusTimerExpiry s = .next (settle (deadBusExpires s)) := runWhenUp_settle hs
    refine ⟨fun hidle => ?_, fun hdue => ⟨fun hunarmed => ?_, fun harmed hready => ?_⟩⟩
    · rw [execs, deadBusExpires, if_neg hidle, settle_nil hs.2]
    · rw [execs, deadBusExpires, if_pos hdue, declareBlackout_eq, if_neg hunarmed, settle_nil (s := blackoutLogged s) hs.2]
      rfl
    · rw [execs, deadBusExpires, if_pos hdue, declareBlackout_eq, if_pos harmed,
        settle_startRun (s := blackoutLogged s) hs.2 hready]
      rfl
  · intro u ms dead measured
    have items := takeSampleReport_u (s := passedOn p f t s) (r := sampleOf t) (v := v) (i := i) (by rw [passedOn_sources]; exact hi)
      (passedOn_primaryRef.trans hp) (by rw [passedOn_sources]; exact hfresh) (by rw [passedOn_sources]; exact hnew)
      (decide_eq_true hvalid) hu hf
    rw [passedOn_partTime] at items
    have quiet : measured.handovers = [] := passedOn_handovers.trans h.1.2
    have execs : ∀ t', deadBusTest false measured = t' → t'.handovers = [] → exec (.sampleReport p f) s = .next t' :=
      fun t' ht hq => by
        rw [exec_arrival (p := p) (f := f) rfl, run, handovers_self h.1.2, receive_sampleReport h hk, items]
        exact congrArg _ (settle_post_one (s := measured) quiet ht hq)
    have seq : measured.seq = s.seq := passedOn_seq
    have bank : measured.bank = s.bank := passedOn_bank
    have primary : measured.primaryRef = some i := (modSource_primaryRef ⟨rfl, rfl⟩).trans (passedOn_primaryRef.trans hp)
    have entry : measured.sources[i] = _ := modSource_entry
    have condition : deadBus measured = true ↔ dead := by
      rw [deadBus_iff (u := u) primary (by rw [entry, passedOn_sources]; exact hfresh) (by rw [entry]), bank]
      exact and_congr_right' (forall_congr' fun g => by rw [show measured.inState g .online = _ from passedOn_inState])
    refine ⟨fun halive => ?_, fun hdead hruns => ?_, fun hdead hundeclared hidle => ⟨fun hms => ?_, fun hms hunarmed => ?_⟩⟩
    · have alive := eq_false_of_ne_true (mt condition.mp halive)
      exact execs _ (by rw [deadBusTest_alive alive, seq]) quiet
    · exact execs _ (deadBusTest_known (condition.mpr hdead) (by rw [seq]; exact hruns)) quiet
    · refine execs _ ?_ quiet
      rw [deadBusTest_first (condition.mpr hdead) (by rw [seq, hundeclared]) (by rw [seq, hidle]), bank, if_neg hms, seq]
    · refine execs _ ?_ quiet
      rw [deadBusTest_first (condition.mpr hdead) (by rw [seq, hundeclared]) (by rw [seq, hidle]), bank, if_pos hms,
        declareBlackout_eq, if_neg (by rw [seq]; exact hunarmed)]
      have event : blackoutEvent measured = (EventKind.blackout, some { table := .source, index := i.val }, (u : Int), 0) := by
        unfold blackoutEvent
        rw [primary]
        simp only [entry, Option.map_some, Option.getD_some]
      have record : measured.recordWith [blackoutEvent measured] = _ := passedOn_recordWith
      have declared : { s.seq with deadBusTimer := none, declared := true } = { s.seq with declared := true } := by rw [← hidle]
      rw [blackoutLogged, record, event, seq, declared]

end Sys2Proof.Machine
end

section
/-!
SUPPORT. The copy of a gateway's Setpoint Order (R12 to R14, R115 to R117, R119): the entry made FRESH, the mirror, and the limit that
follows or is submitted again. Settles O13.
-/

namespace Sys2Proof.Machine

variable {s t : State} {p : Port} {f : Frame} {i : Fin 64} {u : Fin 16}

/-! ## An entry that gives no frequency (R18) -/

/-- Neither a reference nor the FRESH publisher of a unit record. -/
def SourceEntry.Unheard (e : SourceEntry) : Prop :=
  ¬ (e.used = true ∧ e.role = .reference) ∧ ¬ (e.used = true ∧ e.role = .unit ∧ e.fresh = true)

theorem references_unheard (hi : (s.sources[i]).Unheard) (hi' : (t.sources[i]).Unheard)
    (hs : ∀ j : Fin 64, j ≠ i → t.sources[j] = s.sources[j]) : t.references = s.references := List.filter_congr fun j _ => by
  rcases eq_or_ne j i with rfl | other
  · rw [Bool.eq_iff_iff]
    simp only [Bool.and_eq_true, decide_eq_true_eq]
    exact iff_of_false hi'.1 hi.1
  · rw [hs j other]

/-- R18: what becomes of an entry that gives no frequency, before and after, is nothing to the choice of the source. -/
theorem sourceChoice_unheard (hi : (s.sources[i]).Unheard) (hi' : (t.sources[i]).Unheard)
    (hs : ∀ j : Fin 64, j ≠ i → t.sources[j] = s.sources[j]) (hu : t.units = s.units) : sourceChoice t = sourceChoice s := by
  have qualify : (t.references.take 2).find? (fun j => (t.sources[j]).qualifies) =
      (s.references.take 2).find? (fun j => (s.sources[j]).qualifies) := by
    rw [references_unheard hi hi' hs]
    refine List.find?_congr fun j hj => ?_
    have member : j ∈ s.references := List.mem_of_mem_take hj
    simp only [State.references, List.mem_filter, Bool.and_eq_true, decide_eq_true_eq] at member
    rw [hs j fun same => hi.1 (same ▸ member.2)]
  have fresh : ∀ v, t.unitFresh v = s.unitFresh v := fun v => by
    rw [Bool.eq_iff_iff, unitFresh_iff, unitFresh_iff]
    refine exists_congr fun j => ?_
    rcases eq_or_ne j i with rfl | other
    · exact iff_of_false (fun h => hi'.2 ⟨h.1, h.2.1, h.2.2.2⟩) fun h => hi.2 ⟨h.1, h.2.1, h.2.2.2⟩
    · rw [hs j other]
  have gensets : t.gensetQualifies = s.gensetQualifies := by
    funext v
    simp only [State.gensetQualifies, fresh, hu]
  simp only [sourceChoice, qualify, gensets]

theorem findIndex_some {α : Type} {n : Nat} {v : Vector α n} {q : α → Bool} {k : Fin n} (h : findIndex v q = some k) :
    q v[k] = true := List.find?_some (p := fun j => q v[j]) h

/-! ## The copy is admitted (R12 to R14) -/

/-- R12, R13: the gateway's entry is FRESH without a stale timer, and the Event Record takes it for one that was STALE. -/
def gatewayHeard (i : Fin 64) (seq : TelSeq) (s : State) : State :=
  { s.modSource i (fun e => { e with lastSeq := some seq, lastArrival := some s.partTime, fresh := true, staleTimer := none }) with
    record := s.recordWith (if (s.sources[i]).fresh then [] else [(.fresh, some ⟨.source, i.val⟩, -1, 0)]) }

theorem takeSetpoint_admitted {x : Telegram}
    (hi : findIndex s.sources (fun e => e.used && e.role = .gateway && e.publisher = x.sender) = some i)
    (hnew : newerOrFirst x.seq (s.sources[i]).lastSeq = true) (hsource : s.freqSource = sourceChoice s) :
    takeSetpoint x s = (gatewayHeard i x.seq s).post [.setpointCopy x.dest (readSigned x.body 0)] := by
  have role : (s.sources[i]).role = .gateway := by
    have found := findIndex_some hi
    simp only [Bool.and_eq_true, decide_eq_true_eq] at found
    exact found.1.2
  let admitted := s.modSource i fun e => { e with lastSeq := some x.seq, lastArrival := some s.partTime }
  have heard : makeFresh i none admitted = gatewayHeard i x.seq s := by
    have entry : admitted.sources[i] = { s.sources[i] with lastSeq := some x.seq, lastArrival := some s.partTime } := modSource_entry
    have value : (admitted.sources[i]).eventValue = -1 := by rw [entry, SourceEntry.eventValue, role]
    have made : admitted.modSource i (fun e => { e with fresh := true, staleTimer := none }) = s.modSource i fun e =>
        { e with lastSeq := some x.seq, lastArrival := some s.partTime, fresh := true, staleTimer := none } := modSource_modSource
    simp only [makeFresh, made, value]
    rw [entry, gatewayHeard]
    cases (s.sources[i]).fresh <;> rfl
  have unheard : ∀ e : SourceEntry, e.role = .gateway → e.Unheard := fun e he => by
    simp [SourceEntry.Unheard, he]
  have choice : sourceChoice (gatewayHeard i x.seq s) = sourceChoice s := by
    refine sourceChoice_unheard (unheard _ role) (unheard _ ?_) (fun j hj => ?_) rfl
    · simpa [gatewayHeard] using role
    · simp [gatewayHeard, hj.symm]
  simp only [takeSetpoint, hi, hnew, if_true]
  rw [show makeFresh i none (s.modSource i fun e => { e with lastSeq := some x.seq, lastArrival := some s.partTime }) = _ from heard,
    chooseSource_same (choice.trans hsource.symm)]

theorem takeSetpoint_old {x : Telegram}
    (hi : findIndex s.sources (fun e => e.used && e.role = .gateway && e.publisher = x.sender) = some i)
    (hold : newerOrFirst x.seq (s.sources[i]).lastSeq = false) : takeSetpoint x s = s := by
  simp only [takeSetpoint, hi, hold]
  rfl

/-! ## The mirror (R115) -/

theorem modPv_entry {g : PvControl → PvControl} : (s.modPv u g).units[u] = { s.units[u] with pv := g (s.units[u]).pv } := by
  simp only [State.modPv, modUnit_units, Fin.getElem_fin, modifyAt_get, if_true]

theorem modPv_other {v : Fin 16} {g : PvControl → PvControl} (h : v ≠ u) : (s.modPv u g).units[v] = s.units[v] := by
  simp only [State.modPv, modUnit_units, Fin.getElem_fin, modifyAt_get, if_neg h.symm]

theorem modPv_modPv {g k : PvControl → PvControl} : (s.modPv u g).modPv u k = s.modPv u fun c => k (g c) := by
  simp only [State.modPv, State.modUnit, modifyAt, Fin.getElem_fin, Vector.getElem_set_self, Vector.set_set]

/-- R115: the plant's value within its rating. -/
def copied (r : UnitRec) (value : Int) : Int := max 0 (min (r.rated : Int) value)

/-- R115: the mirror is set to the copy, or released. -/
def mirrorAfter (s : State) (u : Fin 16) (value : Int) (c : PvControl) : PvControl :=
  if value = 0x7FFFFFFF then { c with mirrorValid := false, mirrorExpiry := none }
  else { c with mirror := (copied s.units[u] value).toNat, mirrorValid := true, mirrorExpiry := mirrorExpiryFrom s }

/-- R115: what the Event Record takes. -/
def mirrorEvent (s : State) (u : Fin 16) (value : Int) : Logged :=
  let clamped := copied s.units[u] value
  (.mirrorSet, some ⟨.unit, u.val⟩, if value = 0x7FFFFFFF then 0 else clamped,
    if value = 0x7FFFFFFF then 3 else if clamped = value then 1 else 2)

/-- The plant's control fields changed by a copy, and its mirror logged. -/
def withCopy (s : State) (u : Fin 16) (value : Int) (g : PvControl → PvControl) : State :=
  { s.modPv u g with record := s.recordWith [mirrorEvent s u value] }

theorem withCopy_entry {value : Int} {g : PvControl → PvControl} :
    (withCopy s u value g).units[u] = { s.units[u] with pv := g (s.units[u]).pv } := modPv_entry

theorem withCopy_other {v : Fin 16} {value : Int} {g : PvControl → PvControl} (h : v ≠ u) :
    (withCopy s u value g).units[v] = s.units[v] := modPv_other h

theorem withCopy_modPv {value : Int} {g k : PvControl → PvControl} :
    (withCopy s u value g).modPv u k = withCopy s u value fun c => k (g c) :=
  congrArg (fun x : State => { x with record := s.recordWith [mirrorEvent s u value] }) modPv_modPv

theorem setMirror_eq {value : Int} : setMirror u value s = withCopy s u value (mirrorAfter s u value) := by
  unfold withCopy
  by_cases released : value = 0x7FFFFFFF
  · have after : mirrorAfter s u value = fun c => { c with mirrorValid := false, mirrorExpiry := none } :=
      funext fun _ => if_pos released
    have event : mirrorEvent s u value = (EventKind.mirrorSet, some { table := .unit, index := u.val }, 0, 3) := by
      simp only [mirrorEvent, if_pos released]
    rw [after, event]
    exact if_pos released
  · have after : mirrorAfter s u value = fun c =>
        { c with mirror := (copied s.units[u] value).toNat, mirrorValid := true, mirrorExpiry := mirrorExpiryFrom s } :=
      funext fun _ => if_neg released
    have event : mirrorEvent s u value = (EventKind.mirrorSet, some { table := .unit, index := u.val }, copied s.units[u] value,
        if copied s.units[u] value = value then 1 else 2) := by
      simp only [mirrorEvent, if_neg released]
    rw [after, event]
    exact if_neg released

/-- R119: the limit a plant with this copy is bound to. -/
theorem limitBound_mirrorAfter {value : Int} : ({ s.units[u] with pv := mirrorAfter s u value (s.units[u]).pv } : UnitRec).limitBound =
    if value = 0x7FFFFFFF then ((s.units[u]).rated : Int) else min ((s.units[u]).rated : Int) (copied s.units[u] value) := by
  have nonneg : ((copied s.units[u] value).toNat : Int) = copied s.units[u] value := Int.toNat_of_nonneg (le_max_left 0 _)
  unfold UnitRec.limitBound mirrorAfter
  split
  · rfl
  · rw [← nonneg]
    rfl

theorem mirrorAfter_lastSent {value : Int} {c : PvControl} : (mirrorAfter s u value c).lastSent = c.lastSent := by
  unfold mirrorAfter
  split <;> rfl

/-! ## How last-sent follows (R116, R117) -/

theorem followCopy_lets {last : Option Nat} (h : (s.units[u]).pv.lastSent = last)
    (hle : ∀ n, last = some n → (s.units[u]).pv.mirror ≤ n) :
    followCopy u false s = s.modPv u fun c => { c with lastSent := some c.mirror } := by
  unfold followCopy
  simp only [h]
  cases last with
  | none => rfl
  | some n =>
    have high : ¬ n < (s.units[u]).pv.mirror := Nat.not_lt.mpr (hle n rfl)
    simp only [Bool.false_or, decide_eq_false high, Bool.false_eq_true, if_false]

theorem followCopy_released (h : (s.units[u]).pv.lastSent = none) : followCopy u true s = s := by
  unfold followCopy
  simp only [h]
  rfl

theorem followCopy_reasserts {n : Nat} {released : Bool} (h : (s.units[u]).pv.lastSent = some n)
    (hlow : released = true ∨ n < (s.units[u]).pv.mirror) : followCopy u released s = reassert u n s := by
  have low : (released || decide (n < (s.units[u]).pv.mirror)) = true := by simpa using hlow
  unfold followCopy
  simp only [h, low, if_true]

/-- R116: last-sent of a participating plant follows a copy that is no release. -/
def followedPv (s : State) (u : Fin 16) (value : Int) (c : PvControl) : PvControl :=
  { mirrorAfter s u value c with
    lastSent := if (s.units[u]).participating = true ∧ value ≠ 0x7FFFFFFF then some (mirrorAfter s u value c).mirror else c.lastSent }

theorem followedPv_apart {value : Int} (h : ¬ ((s.units[u]).participating = true ∧ value ≠ 0x7FFFFFFF)) :
    followedPv s u value = mirrorAfter s u value := by
  funext c
  rw [followedPv, if_neg h, ← mirrorAfter_lastSent (s := s) (u := u) (value := value) (c := c)]

theorem followedPv_kept {value : Int} (hp : (s.units[u]).participating = true) (hv : value ≠ 0x7FFFFFFF) :
    followedPv s u value = fun c => { mirrorAfter s u value c with lastSent := some (mirrorAfter s u value c).mirror } := by
  funext c
  rw [followedPv, if_pos ⟨hp, hv⟩]

/-- R119: the limits queued for a plant lie within its copy. -/
def loweredQueue (u : Fin 16) (bound : Int) (q : List Order) : List Order :=
  q.map fun o => if o.kind = .limit ∧ o.target = .unit u ∧ bound < o.value then { o with value := bound } else o

theorem lowerQueued_eq : lowerQueued u s =
    { s with orders := { s.orders with queue := loweredQueue u (s.units[u]).limitBound s.orders.queue } } := by
  simp only [lowerQueued, State.modOrders, loweredQueue, Bool.and_eq_true, decide_eq_true_eq, and_assoc]

/-- R107: the limit as it is queued: for the plant's device, under its limit profile. -/
def queuedLimit (r : UnitRec) (u : Fin 16) (value : Int) : Order :=
  { target := .unit u, device := r.device, kind := .limit, cls := .routine, value := value, cause := .curtail, profile := r.limitProfile }

theorem loweredQueue_within {o : Order} {bound : Int} (h : o.value ≤ bound) : loweredQueue u bound [o] = [o] := by
  have within : ¬ (o.kind = .limit ∧ o.target = .unit u ∧ bound < o.value) := fun hl => by omega
  rw [loweredQueue, List.map_singleton, if_neg within]

/-- R117: the plant is out of step, with last-sent or its lower bound (log 33) the only limit queued. -/
def reasserted (u : Fin 16) (n : Nat) (s : State) : State :=
  { s.modPv u (fun c => { c with outOfStep := true }) with
    record := s.recordWith [(.reassert, some ⟨.unit, u.val⟩, n, 0)]
    orders := { s.orders with
      queue := [queuedLimit s.units[u] u (min n (s.units[u]).limitBound)]
      counters := { s.orders.counters with accepted := s.orders.counters.accepted + 1 } } }

theorem reasserted_lowered {n : Nat} : lowerQueued u (reasserted u n s) = reasserted u n s := by
  have bound : ((reasserted u n s).units[u]).limitBound = (s.units[u]).limitBound :=
    (congrArg UnitRec.limitBound (modPv_entry (s := s) (g := fun c => { c with outOfStep := true }))).trans rfl
  have queue : (reasserted u n s).orders.queue = [queuedLimit s.units[u] u (min n (s.units[u]).limitBound)] := rfl
  rw [lowerQueued_eq, bound, queue, loweredQueue_within (min_le_right (n : Int) _)]
  rfl

/-- R117: last-sent is submitted again, at the plant's bound if that is lower (log 33), and waits for the plant's cycle. -/
theorem reassert_waits {n : Nat} (hq : s.orders.queue = []) (hc : (s.units[u]).cycle ≠ none) (ho : s.settings.queueOffset ≤ 30)
    (hh : s.orders.queueHigh = false) : reassert u n s = reasserted u n s := by
  let x := s.modPv u fun c => { c with outOfStep := true }
  have entry : x.units[u] = _ := modPv_entry
  have waits := submitRoutine_waits (s := x) (o := limitOrder x u (min n (s.units[u]).limitBound)) hq
    (.inl (by rw [show x.cycleOf _ = (x.units[u]).cycle from rfl, entry]; exact hc)) hh ho
  have order : { limitOrder x u (min n (s.units[u]).limitBound) with
      cls := .routine, device := x.targetDevice (limitOrder x u (min n (s.units[u]).limitBound)).target } =
        queuedLimit s.units[u] u (min n (s.units[u]).limitBound) := by
    simp only [limitOrder, State.targetDevice, entry, queuedLimit]
  rw [order] at waits
  unfold reassert submitLimit
  simp only
  rw [show submitRoutine (limitOrder (s.modPv u fun c => { c with outOfStep := true }) u _) _ = _ from waits]
  rfl

/-- R115, R116, R119: a copy that last-sent follows. -/
theorem setpointCopy_follows {dest : StationId} {value : Int} (hu : plantOf s dest = some u)
    (h : (s.units[u]).participating = false ∨
      (value ≠ 0x7FFFFFFF ∧ ∀ last, (s.units[u]).pv.lastSent = some last → copied s.units[u] value ≤ last) ∨
      (value = 0x7FFFFFFF ∧ (s.units[u]).pv.lastSent = none)) :
    setpointCopy dest value s = { withCopy s u value (followedPv s u value) with
      orders := { s.orders with queue :=
        (if value = 0x7FFFFFFF then s.orders.queue else loweredQueue u (copied s.units[u] value) s.orders.queue) } } := by
  have followed : (if (s.units[u]).participating then followCopy u (decide (value = 0x7FFFFFFF)) (setMirror u value s)
      else setMirror u value s) = withCopy s u value (followedPv s u value) := by
    have sent : ((withCopy s u value (mirrorAfter s u value)).units[u]).pv.lastSent = (s.units[u]).pv.lastSent := by
      rw [withCopy_entry]
      exact mirrorAfter_lastSent
    rw [setMirror_eq]
    by_cases part : (s.units[u]).participating = true
    · rw [if_pos part]
      by_cases released : value = 0x7FFFFFFF
      · rw [decide_eq_true released, followedPv_apart fun h => h.2 released]
        refine followCopy_released (sent.trans ?_)
        rcases h with h | h | h
        · exact absurd part (by rw [h]; exact nofun)
        · exact absurd released h.1
        · exact h.2
      · rw [decide_eq_false released, followedPv_kept part released, followCopy_lets sent, withCopy_modPv]
        intro n hn
        rcases h with h | h | h
        · exact absurd part (by rw [h]; exact nofun)
        · rw [withCopy_entry]
          simp only [mirrorAfter, if_neg released]
          have := h.2 n hn
          omega
        · exact absurd h.1 released
    · rw [if_neg part, followedPv_apart fun h => part h.1]
  have bound : ((withCopy s u value (followedPv s u value)).units[u]).limitBound =
      (if value = 0x7FFFFFFF then ((s.units[u]).rated : Int) else min ((s.units[u]).rated : Int) (copied s.units[u] value)) := by
    rw [← limitBound_mirrorAfter, withCopy_entry]
    rfl
  have within : min ((s.units[u]).rated : Int) (copied s.units[u] value) = copied s.units[u] value := by
    unfold copied
    omega
  rw [setpointCopy, hu]
  simp only [followed, show Config.noLimit = 0x7FFFFFFF from rfl]
  split
  · rfl
  · rename_i kept
    rw [lowerQueued_eq, bound, if_neg kept, within]
    rfl

/-- R117, R119: a copy that lies above last-sent, or releases the plant, has last-sent submitted again. -/
theorem setpointCopy_reasserts {dest : StationId} {value : Int} {n : Nat} (hu : plantOf s dest = some u)
    (hpart : (s.units[u]).participating = true) (hlast : (s.units[u]).pv.lastSent = some n)
    (h : value = 0x7FFFFFFF ∨ (n : Int) < copied s.units[u] value) (hq : s.orders.queue = []) (hc : (s.units[u]).cycle ≠ none)
    (ho : s.settings.queueOffset ≤ 30) (hh : s.orders.queueHigh = false) :
    setpointCopy dest value s = { withCopy s u value (fun c => { mirrorAfter s u value c with outOfStep := true }) with
      record := s.recordWith [mirrorEvent s u value, (.reassert, some ⟨.unit, u.val⟩, n, 0)]
      orders := { s.orders with
        queue := [queuedLimit s.units[u] u (min n
          (if value = 0x7FFFFFFF then ((s.units[u]).rated : Int) else min ((s.units[u]).rated : Int) (copied s.units[u] value)))]
        counters := { s.orders.counters with accepted := s.orders.counters.accepted + 1 } } } := by
  have sent : ((withCopy s u value (mirrorAfter s u value)).units[u]).pv.lastSent = some n := by
    rw [withCopy_entry]
    exact mirrorAfter_lastSent.trans hlast
  have low : decide (value = 0x7FFFFFFF) = true ∨ n < ((withCopy s u value (mirrorAfter s u value)).units[u]).pv.mirror := by
    by_cases released : value = 0x7FFFFFFF
    · exact .inl (decide_eq_true released)
    · rw [withCopy_entry]
      simp only [mirrorAfter, if_neg released]
      have := h.resolve_left released
      exact .inr (by omega)
  have again : followCopy u (decide (value = 0x7FFFFFFF)) (withCopy s u value (mirrorAfter s u value)) = _ :=
    followCopy_reasserts sent low
  have waits := reassert_waits (s := withCopy s u value (mirrorAfter s u value)) (n := n) hq (by rw [withCopy_entry]; exact hc) ho hh
  have taken : setpointCopy dest value s = reasserted u n (withCopy s u value (mirrorAfter s u value)) := by
    rw [setpointCopy, hu]
    simp only [hpart, if_true, setMirror_eq, show Config.noLimit = 0x7FFFFFFF from rfl, again, waits, reasserted_lowered, ite_self]
  rw [taken, reasserted, withCopy_entry, limitBound_mirrorAfter, withCopy_modPv]
  rfl

/-! ## The command -/

theorem recordWith_recordWith {l m : List Logged} (h : t.record = s.recordWith l) (hs : t.settings = s.settings)
    (hp : t.partTime = s.partTime) : t.recordWith m = s.recordWith (l ++ m) := by
  rw [State.recordWith, State.recordWith, List.foldl_append, h, hs, hp]
  rfl

theorem exec_setpointOrder {x : Telegram} (h : Arrives s p f x) (hk : x.kind = kindSetpointOrder) :
    exec (.setpointOrder p f) s = .next (settle (takeSetpoint x (passedOn p f x s))) := by
  rw [exec_arrival (p := p) (f := f) rfl, run, handovers_self h.1.2, receive_arrives h, takeIn, if_neg (by rw [hk]; decide),
    if_neg (by rw [hk]; decide), if_pos hk]

section
variable {x : Telegram}

theorem passedOn_orders : (passedOn p f x s).orders = s.orders := by rw [passedOn_frame]
theorem passedOn_settings : (passedOn p f x s).settings = s.settings := by rw [passedOn_frame]

end

/-- Settles O13: the copy is the event's one hand-over, and each clause is one of the ways it is taken. -/
theorem setpointOrderSetsTheMirror : Obligations.SetpointOrderSetsTheMirror := by
  intro s p f t i h hk hi
  have found : findIndex (passedOn p f t s).sources (fun e => e.used && e.role = .gateway && e.publisher = t.sender) = some i := by
    rw [passedOn_sources]
    exact hi
  refine ⟨fun l hl hnew => ?_, fun hnew hsource => ?_⟩
  · have old : newerOrFirst t.seq ((passedOn p f t s).sources[i]).lastSeq = false := by
      rw [passedOn_sources]
      exact (newerOrFirst_eq_false_iff _ _).mpr ⟨l, hl, hnew⟩
    rw [exec_setpointOrder h hk, takeSetpoint_old found old, settle_nil (passedOn_handovers.trans h.1.2)]
  · intro value freshened s0
    have admitted : takeSetpoint t (passedOn p f t s) = s0.post [.setpointCopy t.dest value] := by
      have newest : newerOrFirst t.seq ((passedOn p f t s).sources[i]).lastSeq = true := by
        rw [passedOn_sources]
        exact (newerOrFirst_iff _ _).mpr hnew
      rw [takeSetpoint_admitted found newest (by rw [passedOn_frame]; exact hsource), gatewayHeard, passedOn_partTime,
        passedOn_sources, passedOn_recordWith]
    have quiet : s0.handovers = [] := passedOn_handovers.trans h.1.2
    have execs : ∀ t', setpointCopy t.dest value s0 = t' → t'.handovers = [] → exec (.setpointOrder p f) s = .next t' :=
      fun t' ht hq => by
        rw [exec_setpointOrder h hk, admitted]
        exact congrArg _ (settle_post_one (s := s0) quiet ht hq)
    have units : s0.units = s.units := passedOn_units
    have orders : s0.orders = s.orders := passedOn_orders
    have settings : s0.settings = s.settings := passedOn_settings
    have plants : plantOf s0 t.dest = plantOf s t.dest := by simp only [plantOf, units]
    refine ⟨fun hnone => execs _ ?_ quiet, fun u hu => ?_⟩
    · simp only [setpointCopy, plants, hnone]
    · intro r clamped mirrored event
      have bounded : copied s0.units[u] value = clamped := by
        rw [units]
        rfl
      have expiry : mirrorExpiryFrom s0 = mirrorExpiryFrom s := by
        rw [mirrorExpiryFrom, show s0.bank = s.bank from passedOn_bank, show s0.partTime = s.partTime from passedOn_partTime]
        rfl
      have set : ∀ {c}, c = r.pv → mirrorAfter s0 u value c = mirrored := fun hc => by
        rw [mirrorAfter, bounded, expiry, hc]
      have logged : mirrorEvent s0 u value = event := by simp only [mirrorEvent, bounded]; rfl
      have records : ∀ l, s0.recordWith l = s.recordWith (freshened ++ l) := fun l =>
        recordWith_recordWith rfl settings passedOn_partTime
      refine ⟨fun hcopy => ?_, fun last hpart hlast hlow hq hc ho hh => ?_⟩
      · have follows := setpointCopy_follows (s := s0) (plants.trans hu) (value := value) (by rw [bounded, units]; exact hcopy)
        refine ⟨_, execs _ follows quiet, ?_, fun v hv => ?_, ?_, ?_⟩
        · rw [withCopy, records, logged]
          rfl
        · exact (withCopy_other (s := s0) (value := value) (g := followedPv s0 u value) hv).trans (by rw [units])
        · have entry : (withCopy s0 u value (followedPv s0 u value)).units[u] = _ := withCopy_entry
          have old : s0.units[u] = r := by rw [units]
          refine entry.trans ?_
          rw [followedPv, set (by rw [old]), old]
        · have queue : (if value = 0x7FFFFFFF then s0.orders.queue else loweredQueue u (copied s0.units[u] value) s0.orders.queue) =
              s.orders.queue.map fun o =>
                if value ≠ 0x7FFFFFFF ∧ o.kind = .limit ∧ o.target = .unit u ∧ clamped < o.value then { o with value := clamped }
                else o := by
            rw [bounded, orders]
            by_cases released : value = 0x7FFFFFFF
            · simp [released]
            · simp [released, loweredQueue]
          simp only [queue]
          rw [orders]
      · have old : s0.units[u] = r := by rw [units]
        have again := setpointCopy_reasserts (s := s0) (plants.trans hu) (value := value) (n := last) (by rw [old]; exact hpart)
          (by rw [old]; exact hlast) (by rw [bounded]; exact hlow) (by rw [orders]; exact hq) (by rw [old]; exact hc)
          (by rw [settings]; exact ho) (by rw [orders]; exact hh)
        have done := execs _ again quiet
        refine ⟨_, queuedLimit s0.units[u] u (min (last : Int) (if value = 0x7FFFFFFF then ((s0.units[u]).rated : Int)
          else min ((s0.units[u]).rated : Int) (copied s0.units[u] value))), done, ?_, ?_, ?_, ?_, ?_, ?_, ?_, ?_, ?_⟩
        · rw [records, logged]
          rfl
        · intro v hv
          have entry : (withCopy s0 u value (fun c => { mirrorAfter s0 u value c with outOfStep := true })).units[v] = _ :=
            withCopy_other hv
          exact entry.trans (by rw [units])
        · have entry : (withCopy s0 u value (fun c => { mirrorAfter s0 u value c with outOfStep := true })).units[u] = _ :=
            withCopy_entry
          refine entry.trans ?_
          rw [set (by rw [old]), old]
        · simp only [orders]
        · rfl
        · rfl
        · rfl
        · rw [queuedLimit, old]
        · rw [queuedLimit, bounded, old]

end Sys2Proof.Machine
end

section
/-!
SUPPORT. WRITE_ENTRY of the record tables (R4, R78, R120, R123, R186, R199): how a write is answered, and what it leaves of the state.
-/

namespace Sys2Proof.Machine

variable {s s1 x : State} {p : Port} {f : Frame} {t : Telegram}

/-! ## The answer (R185, R186) -/

/-- R186: a write that passes is answered OK once its effects have settled. -/
theorem run_write {table : TableId} (h : Requested s p f t .writeEntry s1)
    (htable : ofCodeFromOne tableIdsFromOne (requestOf t).table = some table) (hsettings : table ≠ .settings)
    (hlen : (requestOf t).content.length = entryLength table)
    (hw : writeEntry table (requestOf t).index (requestOf t).content (requestOf t).sender s1 = (x, .ok)) :
    run (receive p f) s = .next (answered t .ok [] (settle x)) := by
  have served : serveBy .writeEntry (requestOf t) s1 = { state := x, status := .ok } := by
    rw [serveBy, serveWriteEntry, htable]
    simp only [hlen, ne_eq, not_true_eq_false, if_false, hw, afterWrite, hsettings, decide_false, Bool.false_and, Bool.false_eq_true]
  exact run_request_next (a := ⟨x, .ok, [], .nothing⟩) (s2 := settle x) h served rfl rfl

theorem taken_ok {checks : List (Bool × Status)} {act : State → State} (h : firstFailure checks = .ok) :
    taken checks act s = (act s, .ok) := by
  rw [taken, h]

theorem firstFailure_cons {b : Bool} {st : Status} {l : List (Bool × Status)} (hst : st ≠ .ok) :
    firstFailure ((b, st) :: l) = .ok ↔ b = true ∧ firstFailure l = .ok := by
  cases b <;> simp [firstFailure, hst]

/-! ## SOURCE (R4) -/

section
variable {i : Fin 64} {e : SourceEntry} {b : StationId} {o : Octets}

theorem writeSourceEntry_ok (h : read16 o 0 = 0 ∧ e = {} ∨
      read16 o 0 ≠ 0 ∧ sourceFrom o = some e ∧ firstFailure (sourceChecks s i e) = .ok) :
    writeSourceEntry i.val o b s = (replaceSource i e b s, .ok) := by
  have found : index? 64 i.val = some i := by simp [index?]
  rw [writeSourceEntry, found]
  simp only
  rcases h with ⟨cleared, rfl⟩ | ⟨kept, read, checks⟩
  · rw [if_pos cleared]
  · rw [if_neg kept, read]
    exact taken_ok checks

theorem replaceSource_given : (replaceSource i e b s).given = { s.given with sources := s.sources.set i e } := by
  unfold replaceSource
  simp only
  split_ifs <;> simp [logWrite] <;> rfl

/-- R4: an entry as a write gives it is STALE. -/
theorem written_stale (h : read16 o 0 = 0 ∧ e = {} ∨
      read16 o 0 ≠ 0 ∧ sourceFrom o = some e ∧ firstFailure (sourceChecks s i e) = .ok) : e.fresh = false := by
  rcases h with ⟨-, rfl⟩ | ⟨-, read, -⟩
  · rfl
  · exact sourceFrom_fresh read

/-- R4, R18, R29: the first write of an entry that is no reference is all that happens. -/
theorem replaceSource_first (hold : s.sources[i] = {}) (hrole : e.role ≠ .reference) (hstale : e.fresh = false) (hk : SheetKept s)
    (hs : s.freqSource = sourceChoice s) : replaceSource i e b s =
      { s with sources := s.sources.set i e, record := s.recordWith [(.tableWrite, some ⟨.source, i.val⟩, b.toNat, 0)] } := by
  let logged := logWrite .source i.val b (s.modSource i fun _ => e)
  have entry : logged.sources[i] = e := modSource_entry
  have unused : ¬ ((s.sources[i]).used = true) := by rw [hold]; decide
  have unheard : e.Unheard := ⟨fun h => hrole h.2, fun h => by rw [hstale] at h; exact Bool.false_ne_true h.2.2⟩
  have others : ∀ j : Fin 64, j ≠ i → logged.sources[j] = s.sources[j] := fun j hj => by
    simp only [logged, logWrite, log_sources, modSource_sources, Fin.getElem_fin, modifyAt_get, if_neg hj.symm]
  have before : (s.sources[i]).Unheard := ⟨fun h => unused h.1, fun h => unused h.1⟩
  have after : (logged.sources[i]).Unheard := by
    rw [entry]
    exact unheard
  have choice : sourceChoice logged = sourceChoice s := sourceChoice_unheard before after others rfl
  have primary : logged.primaryRef = s.primaryRef := congrArg List.head? (references_unheard before after others)
  have apart : s.primaryRef ≠ some i := fun h => unused (primaryRef_reference h).1
  have stale : (s.sources[i]).fresh = false := by rw [hold]
  have formed : recompute logged = logged := recompute_same hk.symm
  have chosen : chooseSource logged = logged := chooseSource_same (choice.trans hs.symm)
  unfold replaceSource
  simp only [stale, Bool.false_and, Bool.false_eq_true, if_false]
  rw [show recompute (logWrite .source i.val b (s.modSource i fun _ => e)) = _ from formed, chosen, primary]
  rw [if_neg]
  · rfl
  · simp [apart]

end

end Sys2Proof.Machine
end

section
/-!
SUPPORT. A taken UNIT write (R78, R120, R186): the configuration it leaves, and the first write of a record, which changes neither the
sheet nor the frequency source.
-/

namespace Sys2Proof.Machine

variable {s s1 x : State} {p : Port} {f : Frame} {t : Telegram} {u : Fin 16} {k : UnitKind} {o : Octets} {b : StationId}

theorem writeUnitEntry_ok (hk : ofCode unitKindsByCode (read8 o 0) = some k) (h : firstFailure (unitChecks s u k o) = .ok) :
    writeUnitEntry u.val o b s = (replaceUnit u k o b s, .ok) := by
  have found : index? 16 u.val = some u := by simp [index?]
  rw [writeUnitEntry, found]
  simp only [hk]
  exact taken_ok h

/-! ## What stays (R186) -/

theorem logWrite_given {table : TableId} {i : Nat} : (logWrite table i b s).given = s.given := rfl

theorem withdrawOperator_given {x : Target} {m : Mode} : (withdrawOperator x m s).given = s.given := by
  unfold withdrawOperator
  split <;> simp

theorem dropGenset_given {old : UnitRec} {stays : Bool} : (dropGenset u old stays s).given = s.given := by
  unfold dropGenset
  simp only
  split_ifs <;> simp

theorem unitFreed_given : (unitFreed u k o b s).given = (s.modUnit u fun _ => unitAfterWrite k o s.units[u]).given := by
  unfold unitFreed
  simp only
  split_ifs <;> simp [withdrawOperator_given, dropGenset_given, logWrite_given]

theorem plantQueue_given {old : UnitRec} : (plantQueue u old s).given = s.given := by
  unfold plantQueue
  simp only
  split_ifs <;> simp

theorem writtenStateTest_given {old new : UnitRec} : (writtenStateTest old new s).given = s.given := by
  unfold writtenStateTest
  split <;> rfl

theorem replaceUnit_given : (replaceUnit u k o b s).given = (s.modUnit u fun _ => unitAfterWrite k o s.units[u]).given := by
  rw [replaceUnit_eq]
  simp only [writtenStateTest_given, plantQueue_given]
  split <;> simp [unitFreed_given]

/-! ## The configuration (R78, R199) -/

theorem modeOf_eq : (ofCode modesByCode (read8 o 1)).getD .auto = if read8 o 1 = 1 then Mode.manual else Mode.auto := by
  unfold ofCode modesByCode
  rcases read8 o 1 with _ | _ | n <;> simp

/-- The configuration of a record after a taken write is that of the write. -/
theorem unitAfterWrite_config {r : UnitRec} :
    let new := unitAfterWrite k o r
    let cfg := unitConfig k o r
    new.kind = k ∧ new.mode = cfg.mode ∧ new.device = cfg.device ∧ new.rated = cfg.rated ∧ new.minLoad = cfg.minLoad ∧
      new.startRank = cfg.startRank ∧ new.warmUp = cfg.warmUp ∧ new.cooldown = cfg.cooldown ∧
      new.startProfile = cfg.startProfile ∧ new.breakerProfile = cfg.breakerProfile ∧ new.stopProfile = cfg.stopProfile ∧
      new.limitProfile = cfg.limitProfile := by
  refine ⟨unitAfterWrite_kind, ?_⟩
  unfold unitAfterWrite
  simp only
  split <;> exact ⟨rfl, rfl, rfl, rfl, rfl, rfl, rfl, rfl, rfl, rfl, rfl⟩

theorem profileIndex_val {n : Nat} (h : read8 o n < 16) : (profileIndex o n).val = read8 o n := Nat.mod_eq_of_lt h

theorem unitConfig_used {r : UnitRec} (h : k ≠ .unused) : (unitConfig k o r).mode = (if read8 o 1 = 1 then Mode.manual else Mode.auto) ∧
    (unitConfig k o r).device = BitVec.ofNat 16 (read16 o 2) ∧ (unitConfig k o r).rated = read16 o 4 := by
  rw [← modeOf_eq]
  cases k with
  | unused => exact absurd rfl h
  | genset => exact ⟨rfl, rfl, rfl⟩
  | pv => exact ⟨rfl, rfl, rfl⟩
  | store => exact ⟨rfl, rfl, rfl⟩

/-- R78, R186: the profiles of a genset's write name profiles of the table. -/
theorem unitContentOk_genset (h : unitContentOk .genset o = true) : read8 o 10 < 16 ∧ read8 o 11 < 16 ∧ read8 o 12 < 16 := by
  simp only [unitContentOk, ne_eq, not_true_eq_false, decide_false, Bool.false_or, Bool.and_eq_true, decide_eq_true_eq] at h
  obtain ⟨⟨-, ⟨⟨-, start⟩, breaker⟩, stop⟩, -⟩ := h
  exact ⟨start, breaker, stop⟩

theorem unitContentOk_pv (h : unitContentOk .pv o = true) : read8 o 13 < 16 := by
  simp only [unitContentOk, ne_eq, not_true_eq_false, decide_false, Bool.false_or, Bool.and_eq_true, decide_eq_true_eq] at h
  exact h.2

/-- R186: the content check of a UNIT write. -/
theorem unitChecks_content (h : firstFailure (unitChecks s u k o) = .ok) : unitContentOk k o = true :=
  ((firstFailure_cons (st := .badContent) (by decide)).mp h).1

/-! ## The first write -/

/-- A record that no sum of the sheet counts for anything, and that gives no frequency. -/
structure UnitRec.Silent (r : UnitRec) : Prop where
  online : r.inOnlineSet = false
  starting : r.inStartingSet = false
  quiet : (r.kind = .genset && r.genset.state = .online) = false
  p : r.p = none
  f : r.f = none
  dis : r.dis = none
  chg : r.chg = none

theorem silent_default : ({} : UnitRec).Silent := ⟨rfl, rfl, rfl, rfl, rfl, rfl, rfl⟩

theorem computeSheet_silent {r : UnitRec} (hx : x.units = s.units.set u r) (hf : x.feeders = s.feeders) (hb : x.bank = s.bank)
    (hsh : x.sheet = s.sheet) (hr : r.Silent) (hold : (s.units[u]).Silent) : computeSheet x = computeSheet s := by
  have silent : ∀ {counts : UnitRec → Bool} {q : UnitRec → Int}, (∀ y : UnitRec, y.Silent → (if counts y then q y else 0) = 0) →
      sumOver x.units.toList counts q = sumOver s.units.toList counts q := fun zero => by
    rw [hx]
    exact sumOver_set _ _ _ _ _ ((zero r hr).trans (zero _ hold).symm)
  have ofKind : ∀ (k : UnitKind) {q : UnitRec → Int}, (∀ y : UnitRec, y.Silent → q y = 0) →
      sumOver x.units.toList (fun y => y.kind = k) q = sumOver s.units.toList (fun y => y.kind = k) q :=
    fun k q zero => silent fun y hy => by rw [zero y hy, ite_self]
  have online : ∀ (q : UnitRec → Int), sumOver x.units.toList UnitRec.inOnlineSet q = sumOver s.units.toList UnitRec.inOnlineSet q :=
    fun q => silent fun y hy => by rw [hy.online]; rfl
  have power : ∀ y : UnitRec, y.Silent → y.p.getD 0 = 0 := fun y hy => by rw [hy.p]; rfl
  have reserve : ∀ y : UnitRec, y.Silent → y.quickReserve = 0 := fun y hy => by rw [UnitRec.quickReserve, hy.p, hy.dis]; rfl
  have charge : ∀ y : UnitRec, y.Silent → max 0 (y.chg.getD 0) = 0 := fun y hy => by rw [hy.chg]; rfl
  have starting : sumOver x.units.toList UnitRec.inStartingSet (fun y => (y.rated : Int)) =
      sumOver s.units.toList UnitRec.inStartingSet (fun y => (y.rated : Int)) := silent fun y hy => by rw [hy.starting]; rfl
  simp only [computeSheet, hf, hb, hsh, online, ofKind _ power, ofKind _ reserve, ofKind _ charge, starting]

theorem sourceChoice_silent {r : UnitRec} (hx : x.units = s.units.set u r) (hs : x.sources = s.sources) (hr : r.Silent)
    (hold : (s.units[u]).Silent) : sourceChoice x = sourceChoice s := by
  have offers : ∀ y : UnitRec, y.Silent → y.offers = (false, false) := fun y hy => by
    rw [UnitRec.offers, hy.quiet, hy.f]
    rfl
  refine sourceChoice_congr (fun _ => by rw [hs]) fun v => ?_
  rw [hx]
  rcases eq_or_ne v u with rfl | other
  · simp only [Fin.getElem_fin, Vector.getElem_set_self]
    exact (offers r hr).trans (offers _ hold).symm
  · simp only [Fin.getElem_fin, Vector.getElem_set, Fin.val_inj, if_neg other.symm]

/-- R78: a record that becomes a genset is UNAVAILABLE in MANUAL and UNKNOWN in AUTO. -/
theorem unitAfterWrite_state : (unitAfterWrite .genset o {}).genset.state =
    if (unitAfterWrite .genset o {}).mode = .manual then .unavailable else .unknown := rfl

/-- R25: a genset UNAVAILABLE or UNKNOWN counts for nothing while its breaker is not seen CLOSED. -/
theorem silent_of_state {r : UnitRec} (state : r.genset.state = .unavailable ∨ r.genset.state = .unknown)
    (breaker : r.breaker = .unknown) (p : r.p = none) (f : r.f = none) (dis : r.dis = none) (chg : r.chg = none) : r.Silent := by
  rcases state with state | state
  · exact ⟨by simp [UnitRec.inOnlineSet, state, breaker], by simp [UnitRec.inStartingSet, state], by simp [state], p, f, dis, chg⟩
  · exact ⟨by simp [UnitRec.inOnlineSet, state, breaker], by simp [UnitRec.inStartingSet, state], by simp [state], p, f, dis, chg⟩

theorem unitAfterWrite_silent : (unitAfterWrite k o {}).Silent := by
  cases k with
  | genset =>
    refine silent_of_state ?_ rfl rfl rfl rfl rfl
    rw [unitAfterWrite_state]
    exact (ite_eq_or_eq _ _ _)
  | unused => exact ⟨rfl, rfl, rfl, rfl, rfl, rfl, rfl⟩
  | pv => exact ⟨rfl, rfl, rfl, rfl, rfl, rfl, rfl⟩
  | store => exact ⟨rfl, rfl, rfl, rfl, rfl, rfl, rfl⟩

theorem gensetMode_first (h : s.units[u] = unitAfterWrite .genset o {}) : gensetMode u s = s := by
  have state := unitAfterWrite_state (o := o)
  unfold gensetMode
  rw [h]
  by_cases manual : (unitAfterWrite .genset o {}).mode = .manual
  · rw [if_pos manual] at state
    have kept : (unitAfterWrite .genset o {}).kept = true := by
      simp only [UnitRec.kept, manual, decide_true, Bool.true_or]
    simp only [state, kept, if_true]
  · rw [if_neg manual] at state
    simp only [state, if_neg manual]

theorem modUnit_same {g : UnitRec → UnitRec} (h : g s.units[u] = s.units[u]) : s.modUnit u g = s := by
  have same : modifyAt s.units u g = s.units := by
    rw [modifyAt, h]
    exact Vector.set_getElem_self _
  rw [State.modUnit, same]

theorem modFeeder_same {i : Fin 32} {g : FeederRec → FeederRec} (h : g s.feeders[i] = s.feeders[i]) : s.modFeeder i g = s := by
  have same : modifyAt s.feeders i g = s.feeders := by
    rw [modifyAt, h]
    exact Vector.set_getElem_self _
  rw [State.modFeeder, same]

/-- R64, R65: a target without a running timer has none to stop. -/
theorem idleTarget_idle {x : Target} (hc : s.cycleOf x = none) (hh : s.holdOffOf x = none) : idleTarget x s = s := by
  cases x with
  | unit u =>
    have cycle : (s.units[u]).cycle = none := hc
    have holdOff : (s.units[u]).holdOff = none := hh
    rw [idleTarget, State.setCycle, modUnit_same (by rw [← cycle]), State.setHoldOff, modUnit_same (by rw [← holdOff])]
  | feeder k =>
    have cycle : (s.feeders[k]).cycle = none := hc
    have holdOff : (s.feeders[k]).holdOff = none := hh
    rw [idleTarget, State.setCycle, modFeeder_same (by rw [← cycle]), State.setHoldOff, modFeeder_same (by rw [← holdOff])]

theorem cancelTarget_empty {x : Target} (h : s.orders.queue = []) : cancelTarget x s = s := cancelWhere_none _ _ (by simp [h])

/-- The record written for the first time, and that logged. -/
def unitWritten (u : Fin 16) (r : UnitRec) (b : StationId) (s : State) : State :=
  { s with units := s.units.set u r, record := s.recordWith [(.tableWrite, some ⟨.unit, u.val⟩, b.toNat, 0)] }

theorem unitWritten_entry {r : UnitRec} : (unitWritten u r b s).units[u] = r := Vector.getElem_set_self _

theorem unitFreed_first (hold : s.units[u] = {}) (hq : s.orders.queue = []) :
    unitFreed u k o b s = unitWritten u (unitAfterWrite k o {}) b s := by
  have timers : (unitAfterWrite k o {}).cycle = none ∧ (unitAfterWrite k o {}).holdOff = none := by
    cases k <;> exact ⟨rfl, rfl⟩
  have written : logWrite .unit u.val b (s.modUnit u fun _ => unitAfterWrite k o {}) = unitWritten u (unitAfterWrite k o {}) b s := rfl
  have released : releaseTarget (.unit u) (unitWritten u (unitAfterWrite k o {}) b s) = unitWritten u (unitAfterWrite k o {}) b s := by
    have entry := unitWritten_entry (s := s) (u := u) (b := b) (r := unitAfterWrite k o {})
    rw [releaseTarget, idleTarget_idle (x := .unit u) ((congrArg UnitRec.cycle entry).trans timers.1)
      ((congrArg UnitRec.holdOff entry).trans timers.2)]
    exact cancelTarget_empty hq
  have kept : dropGenset u {} (decide (k = .genset)) (unitWritten u (unitAfterWrite k o {}) b s) =
      unitWritten u (unitAfterWrite k o {}) b s := if_pos nofun
  have asked : withdrawOperator (.unit u) (unitAfterWrite k o {}).mode (unitWritten u (unitAfterWrite k o {}) b s) =
      unitWritten u (unitAfterWrite k o {}) b s := by
    unfold withdrawOperator
    rw [withdraw_empty _ _ _ (show (unitWritten u (unitAfterWrite k o {}) b s).orders.queue = [] from hq), ite_self]
  unfold unitFreed
  rw [hold]
  simp only [written, released, ite_self, kept, asked]

theorem replaceUnit_first (hold : s.units[u] = {}) (hk : SheetKept s) (hs : s.freqSource = sourceChoice s)
    (hq : s.orders.queue = []) : replaceUnit u k o b s =
      if k = .genset then (unitWritten u (unitAfterWrite k o {}) b s).post [.stopTest] else unitWritten u (unitAfterWrite k o {}) b s := by
  have entry := unitWritten_entry (s := s) (u := u) (b := b) (r := unitAfterWrite k o {})
  have default : (s.units[u]).Silent := by
    rw [hold]
    exact silent_default
  have sheet : computeSheet (unitWritten u (unitAfterWrite k o {}) b s) = computeSheet s :=
    computeSheet_silent rfl rfl rfl rfl unitAfterWrite_silent default
  have choice : sourceChoice (unitWritten u (unitAfterWrite k o {}) b s) = sourceChoice s :=
    sourceChoice_silent rfl rfl unitAfterWrite_silent default
  have kind : (unitAfterWrite k o {}).kind = k := unitAfterWrite_kind
  rw [replaceUnit_eq, unitFreed_first hold hq, recompute_same (sheet.trans hk.symm), chooseSource_same (choice.trans hs.symm), hold]
  have moded : (if k = .genset then gensetMode u (unitWritten u (unitAfterWrite k o {}) b s)
      else unitWritten u (unitAfterWrite k o {}) b s) = unitWritten u (unitAfterWrite k o {}) b s := by
    split
    · rename_i genset
      subst genset
      exact gensetMode_first entry
    · rfl
  have queued : plantQueue u {} (unitWritten u (unitAfterWrite k o {}) b s) = unitWritten u (unitAfterWrite k o {}) b s := by
    have none := withdraw_empty [.curtail] (.unit u) none (show (unitWritten u (unitAfterWrite k o {}) b s).orders.queue = [] from hq)
    unfold plantQueue withdrawLimits
    simp only [show ¬ ((unitWritten u (unitAfterWrite k o {}) b s).units[u]).rated < ({} : UnitRec).rated from Nat.not_lt_zero _,
      if_false, none, ite_self]
  simp only [moded, queued, writtenStateTest, kind]
  by_cases genset : k = .genset
  · subst genset
    rfl
  · simp [genset]

/-! ## The stop test after it (R96, R97) -/

/-- R96: of two candidates the later one, unless the earlier has the higher start rank. -/
def laterStop (rank : Fin 16 → Nat) (best : Option (Fin 16)) (v : Fin 16) : Option (Fin 16) :=
  match best with
  | none => some v
  | some c => if rank c ≤ rank v then some v else some c

theorem stopCandidate_eq : stopCandidate s =
    if s.onlineUnits.length < 2 then none else s.onlineUnits.foldl (laterStop fun v => (s.units[v]).startRank) none := rfl

/-- A unit that is no candidate does not matter to the choice, and is not chosen. -/
theorem foldl_laterStop {g h : Fin 16 → Nat} (hg : ∀ v, v ≠ u → g v = h v) {l : List (Fin 16)} (hl : u ∉ l)
    {best : Option (Fin 16)} (hb : best ≠ some u) :
    l.foldl (laterStop g) best = l.foldl (laterStop h) best ∧ l.foldl (laterStop h) best ≠ some u := by
  induction l generalizing best with
  | nil => exact ⟨rfl, hb⟩
  | cons v rest ih =>
    obtain ⟨hv, hrest⟩ : u ≠ v ∧ u ∉ rest := by simpa using hl
    have same : laterStop g best v = laterStop h best v := by
      cases best with
      | none => rfl
      | some c => rw [laterStop, laterStop, hg c fun e => hb (e ▸ rfl), hg v hv.symm]
    have other : laterStop h best v ≠ some u := by
      unfold laterStop
      split
      · exact fun e => hv (Option.some.inj e).symm
      · split
        · exact fun e => hv (Option.some.inj e).symm
        · exact hb
    rw [List.foldl_cons, List.foldl_cons, same]
    exact ih hrest other

/-- R25, R97: a silent record is in no state in which another stop waits for it. -/
theorem UnitRec.Silent.idle {r : UnitRec} (h : r.Silent) :
    (r.inStartingSet || (r.kind = .genset && (r.genset.state = .unloading || r.genset.state = .opening))) = false := by
  have online := h.online
  rw [h.starting, Bool.false_or]
  refine Bool.eq_false_iff.mpr fun h => ?_
  obtain ⟨kind, state | state⟩ : r.kind = .genset ∧ (r.genset.state = .unloading ∨ r.genset.state = .opening) := by simpa using h
  · simp [UnitRec.inOnlineSet, kind, state] at online
  · simp [UnitRec.inOnlineSet, kind, state] at online

section
variable {r : UnitRec}

theorem onlineUnits_silent (hx : x.units = s.units.set u r) (hr : r.Silent) (hold : (s.units[u]).Silent) :
    x.onlineUnits = s.onlineUnits ∧ u ∉ s.onlineUnits := by
  have offline : s.inState u .online = false := hold.quiet
  refine ⟨List.filter_congr fun v _ => ?_, by simp [State.onlineUnits, offline]⟩
  rcases eq_or_ne v u with rfl | other
  · rw [offline, State.inState, State.isGenset, State.genset, hx]
    simp only [Fin.getElem_fin, Vector.getElem_set_self]
    exact hr.quiet
  · simp only [State.inState, State.isGenset, State.genset, hx, Fin.getElem_fin, Vector.getElem_set, Fin.val_inj, if_neg other.symm]
    rfl

/-- Replacing one record by another that passes a test as it did leaves whether any passes it. -/
theorem any_set {α : Type} {n : Nat} (v : Vector α n) (i : Fin n) (y : α) (q : α → Bool) (h : q y = q v[i]) :
    (v.set i y).toList.any q = v.toList.any q := by
  have tests : ((v.set i y).toList.map q) = v.toList.map q := by
    rw [Vector.toList_set, List.map_set, h]
    conv_rhs => rw [← List.set_getElem_self (as := v.toList.map q) (i := i.val) (by simp)]
    simp
  have through : ∀ l : List α, l.any q = (l.map q).any id := fun l => by rw [List.any_map]; rfl
  rw [through, through, tests]

theorem stopWanted_silent (hx : x.units = s.units.set u r) (hsh : x.shed.stack = s.shed.stack) (hb : x.bank = s.bank)
    (hsheet : x.sheet = s.sheet) (hr : r.Silent) (hold : (s.units[u]).Silent) : stopWanted x = stopWanted s := by
  obtain ⟨online, notOnline⟩ := onlineUnits_silent hx hr hold
  have others : ∀ v : Fin 16, v ≠ u → x.units[v] = s.units[v] := fun v hv => by
    rw [hx]
    simp only [Fin.getElem_fin, Vector.getElem_set, Fin.val_inj, if_neg hv.symm]
  obtain ⟨folded, notLast⟩ := foldl_laterStop (g := fun v => (x.units[v]).startRank) (h := fun v => (s.units[v]).startRank)
    (fun v hv => by rw [others v hv]) notOnline (best := none) nofun
  have candidate : stopCandidate x = stopCandidate s := by rw [stopCandidate_eq, stopCandidate_eq, online, folded]
  have busy : x.units.toList.any (fun y => y.inStartingSet ||
      (y.kind = .genset && (y.genset.state = .unloading || y.genset.state = .opening))) = s.units.toList.any (fun y =>
      y.inStartingSet || (y.kind = .genset && (y.genset.state = .unloading || y.genset.state = .opening))) := by
    rw [hx]
    exact any_set _ _ _ _ (hr.idle.trans hold.idle.symm)
  unfold stopWanted
  simp only [candidate, busy, hsh, hb, hsheet]
  cases hc : stopCandidate s with
  | none => rfl
  | some c =>
    have apart : c ≠ u := fun e => by
      rw [stopCandidate_eq] at hc
      split at hc
      · cases hc
      · exact notLast (hc.trans (congrArg some e))
    simp only [others c apart]

end

/-- R97: a stop test that changes nothing changes nothing of a state that it finds the same. -/
theorem stopTest_same (hw : stopWanted x = stopWanted s) (ht : x.dispatch.stopTimer = s.dispatch.stopTimer) (h : stopTest s = s) :
    stopTest x = x := by
  have timer := congrArg (fun y : State => y.dispatch.stopTimer) h
  unfold stopTest at timer ⊢
  rw [hw, ht]
  cases hc : stopWanted s with
  | none =>
    rw [hc] at timer
    exact setStopTimer_self (ht.trans timer.symm)
  | some c =>
    rw [hc] at timer
    have started : (startStopTimer c s).dispatch.stopTimer = some { unit := c, left := timeMs s.bank.stopDelay } := by
      unfold startStopTimer
      simp only
      split <;> rfl
    cases hl : s.dispatch.stopTimer with
    | none =>
      rw [hl] at timer
      simp only [started] at timer
      cases timer
    | some l =>
      rw [hl] at timer
      by_cases same : l.unit = c
      · simp only [same, if_true]
      · simp only [same, if_false, started, Option.some.injEq] at timer
        exact absurd (congrArg StopTimer.unit timer).symm same

/-! ## The first write, settled -/

/-- R78, R97, R120: the first write of a record is all that happens. -/
theorem settle_replaceUnit_first (hquiet : s.handovers = []) (hold : s.units[u] = {}) (hk : SheetKept s)
    (hs : s.freqSource = sourceChoice s) (hq : s.orders.queue = []) (hstop : k = .genset → stopTest s = s) :
    settle (replaceUnit u k o b s) = unitWritten u (unitAfterWrite k o {}) b s := by
  rw [replaceUnit_first hold hk hs hq]
  split
  · rename_i genset
    have default : (s.units[u]).Silent := by
      rw [hold]
      exact silent_default
    refine settle_post_one (s := unitWritten u (unitAfterWrite k o {}) b s) hquiet ?_ hquiet
    exact stopTest_same (stopWanted_silent rfl rfl rfl rfl unitAfterWrite_silent default) rfl (hstop genset)
  · exact settle_nil (s := unitWritten u (unitAfterWrite k o {}) b s) hquiet

end Sys2Proof.Machine
end

section
/-!
SUPPORT. A taken FEEDER write (R123, R186) with no order waiting and the feeder not shed: one record is written, and the sheet's load.
-/

namespace Sys2Proof.Machine

variable {s s1 x : State} {p : Port} {f : Frame} {t : Telegram} {k : Fin 32} {used : Bool} {o : Octets} {b : StationId}

theorem writeFeederEntry_ok (h : firstFailure (feederChecks s k o) = .ok) :
    writeFeederEntry k.val o b s = (replaceFeeder k (read8 o 0 = 1) o b s, .ok) := by
  have found : index? 32 k.val = some k := by simp [index?]
  rw [writeFeederEntry, found]
  exact taken_ok h

theorem rewriteFeeder_given {d : Bool} : (rewriteFeeder k d s).given = s.given := by
  unfold rewriteFeeder
  simp

theorem replaceFeeder_given : (replaceFeeder k used o b s).given = (s.modFeeder k fun _ => feederAfterWrite used o s.feeders[k]).given := by
  unfold replaceFeeder
  simp only
  split_ifs <;> simp [rewriteFeeder_given, withdrawOperator_given, logWrite_given]

/-! ## The sheet (R26, R29, R30) -/

/-- R30: a feeder takes no part in the reserve. -/
theorem recompute_feeders (hk : SheetKept s) (hu : x.units = s.units) (hb : x.bank = s.bank) (hsh : x.sheet = s.sheet) :
    recompute x = { x with sheet := computeSheet x } := by
  have reserve : x.sheet.reserveDiffers (computeSheet x) = false := by
    rw [hsh, hk]
    simp [Sheet.reserveDiffers, computeSheet, hu, hb]
  simp only [recompute, reserve, Bool.false_eq_true, if_false]

/-- R26: a feeder without a power counts for nothing. -/
theorem computeSheet_unmeasured {r : FeederRec} (hx : x.feeders = s.feeders.set k r) (hu : x.units = s.units) (hb : x.bank = s.bank)
    (hsh : x.sheet = s.sheet) (hr : r.p = none) (hold : (s.feeders[k]).p = none) : computeSheet x = computeSheet s := by
  have load : sumOver x.feeders.toList FeederRec.inLoad (fun y => y.p.getD 0) =
      sumOver s.feeders.toList FeederRec.inLoad (fun y => y.p.getD 0) := by
    rw [hx]
    refine sumOver_set _ _ _ _ _ ?_
    rw [hr, hold, Option.getD_none, ite_self, ite_self]
  simp only [computeSheet, load, hu, hb, hsh]

/-! ## The record -/

/-- The record written, and that logged. -/
def feederWritten (k : Fin 32) (r : FeederRec) (b : StationId) (s : State) : State :=
  { s with feeders := s.feeders.set k r, record := s.recordWith [(.tableWrite, some ⟨.feeder, k.val⟩, b.toNat, 0)] }

theorem feederWritten_modFeeder {r : FeederRec} {g : FeederRec → FeederRec} :
    (feederWritten k r b s).modFeeder k g = feederWritten k (g r) b s := by
  simp only [feederWritten, State.modFeeder, modifyAt, Fin.getElem_fin, Vector.getElem_set_self, Vector.set_set]

/-- The same with a sheet. -/
def feederSummed (k : Fin 32) (r : FeederRec) (b : StationId) (sheet : Sheet) (s : State) : State :=
  { feederWritten k r b s with sheet := sheet }

theorem feederSummed_modFeeder {r : FeederRec} {sheet : Sheet} {g : FeederRec → FeederRec} :
    (feederSummed k r b sheet s).modFeeder k g = feederSummed k (g r) b sheet s :=
  congrArg (fun y : State => { y with sheet := sheet }) feederWritten_modFeeder

theorem feederAfterWrite_mode : (feederAfterWrite true o s.feeders[k]).mode =
    if read8 o 1 = 1 then Mode.manual else Mode.auto := modeOf_eq

theorem feederAfterWrite_used {old : FeederRec} : (feederAfterWrite used o old).used = used := by cases used <;> rfl

/-- R186: the profile of a used feeder's write is one of the table. -/
theorem feederChecks_profile (h : firstFailure (feederChecks s k o) = .ok) (hused : read8 o 0 = 1) : read8 o 4 < 16 := by
  have passes := ((firstFailure_cons (st := .badContent) (by decide)).mp ((firstFailure_cons (st := .badContent) (by decide)).mp h).2).1
  simp only [hused, one_ne_zero, decide_false, Bool.false_or, Bool.and_eq_true, decide_eq_true_eq] at passes
  exact passes.2

theorem feederAfterWrite_unmeasured {old : FeederRec} (h : old.p = none) : (feederAfterWrite used o old).p = none := by
  cases used
  · rfl
  · exact h

/-- R59, R123: with no order waiting only the timers of a rewritten record end before it is taken from the jobs. -/
theorem rewriteFeeder_empty {r : FeederRec} {d : Bool} (hq : s.orders.queue = []) : rewriteFeeder k d (feederWritten k r b s) =
    (feederWritten k { r with cycle := none, holdOff := none } b s).post [.feederRewritten k d] := by
  have idle : idleTarget (.feeder k) (feederWritten k r b s) = feederWritten k { r with cycle := none, holdOff := none } b s := by
    rw [idleTarget, State.setCycle, feederWritten_modFeeder, State.setHoldOff, feederWritten_modFeeder]
  have quiet : (feederWritten k { r with cycle := none, holdOff := none } b s).orders.queue = [] := hq
  rw [rewriteFeeder, idle, cancelWhere_none _ _ (by simp [quiet])]
  exact cancelTarget_empty hq

theorem feederSummed_entry {r : FeederRec} {sheet : Sheet} : (feederSummed k r b sheet s).feeders[k] = r := Vector.getElem_set_self _

/-- R123: a feeder that is not in the stack is at most taken from the Sequencer. -/
theorem feederRewritten_apart {r : FeederRec} {d : Bool} {sheet : Sheet} (he : s.shed.entryOf k = none) :
    feederRewritten k d (feederSummed k r b sheet s) =
      feederSummed k (if d && r.owner = .sequencer then { r with owner := .free } else r) b sheet s := by
  have apart : (feederSummed k r b sheet s).shed.entryOf k = none := he
  unfold feederRewritten
  simp only [apart, Option.isSome_none, Bool.false_eq_true, if_false, feederSummed_entry, feederSummed_modFeeder]
  split <;> rfl

theorem feederMode_apart {r : FeederRec} {sheet : Sheet} (he : s.shed.entryOf k = none) (hq : s.orders.queue = []) :
    feederMode k (feederSummed k r b sheet s) =
      feederSummed k (if r.mode = .auto then { r with failed := false } else r) b sheet s := by
  have apart : (feederSummed k r b sheet s).shed.entryOf k = none := he
  have queue : (feederSummed k r b sheet s).orders.queue = [] := hq
  unfold feederMode
  rw [feederSummed_entry]
  cases hm : r.mode with
  | auto =>
    simp only [if_true]
    rw [feederSummed_modFeeder, hm]
  | manual => simp only [apart, Option.isSome_none, Bool.false_eq_true, if_false, withdraw_empty _ _ _ queue, reduceCtorEq]

theorem recompute_feederWritten {r : FeederRec} (hk : SheetKept s) : recompute (feederWritten k r b s) =
    feederSummed k r b (computeSheet (feederWritten k r b s)) s := recompute_feeders hk rfl rfl rfl

/-- R123, R186: what such a write leaves once it has settled. -/
theorem settle_replaceFeeder (hquiet : s.handovers = []) (hq : s.orders.queue = []) (hk : SheetKept s) (he : s.shed.entryOf k = none) :
    ∃ (r : FeederRec) (sheet : Sheet), settle (replaceFeeder k used o b s) = feederSummed k r b sheet s ∧
      r.mode = (feederAfterWrite used o s.feeders[k]).mode ∧ ((s.feeders[k]).p = none → sheet = s.sheet) := by
  have sheet : ∀ r : FeederRec, r.p = (feederAfterWrite used o s.feeders[k]).p → (s.feeders[k]).p = none →
      computeSheet (feederWritten k r b s) = s.sheet := fun r hr hp =>
    (computeSheet_unmeasured (x := feederWritten k r b s) rfl rfl rfl rfl (hr.trans (feederAfterWrite_unmeasured hp)) hp).trans hk.symm
  generalize hnew : feederAfterWrite used o s.feeders[k] = new at sheet
  have asked : withdrawOperator (.feeder k) new.mode (feederWritten k new b s) = feederWritten k new b s := by
    unfold withdrawOperator
    rw [withdraw_empty _ _ _ (show (feederWritten k new b s).orders.queue = [] from hq), ite_self]
  have written : logWrite .feeder k.val b (s.modFeeder k fun _ => new) = feederWritten k new b s := rfl
  unfold replaceFeeder
  simp only [hnew, written, asked, ite_self]
  split
  · rw [rewriteFeeder_empty hq]
    let idle : FeederRec := { new with cycle := none, holdOff := none }
    have formed : ∀ l, recompute ((feederWritten k idle b s).post l) =
        (feederSummed k idle b (computeSheet (feederWritten k idle b s)) s).post l :=
      fun l => recompute_feeders (x := (feederWritten k idle b s).post l) hk rfl rfl rfl
    refine ⟨_, _, (congrArg settle (formed _)).trans (settle_post_one hquiet (feederRewritten_apart he) hquiet), ?_, sheet idle rfl⟩
    split <;> rfl
  · rw [recompute_feederWritten hk, feederMode_apart he hq]
    refine ⟨_, _, settle_nil hquiet, ?_, sheet new rfl⟩
    split <;> rfl

end Sys2Proof.Machine
end

section
/-!
SUPPORT. The three record writes as requests (R186): each settled outcome is answered OK. Settles O45.
-/

namespace Sys2Proof.Machine

variable {s s1 : State} {p : Port} {f : Frame} {t : Telegram}

theorem answered_settle_given {x : State} : (answered t .ok [] (settle x)).given = x.given := by
  rw [answered_given, settle_given]

theorem answered_settle_handovers {x : State} : (answered t .ok [] (settle x)).handovers = [] := by
  rw [answered_handovers, settle_handovers]

section
variable (h : Requested s p f t .writeEntry s1)
include h

theorem requested_sheetKept (hk : SheetKept s) : SheetKept s1 := by
  rw [admitRequest_frame h.2.2.2.1]
  exact hk

theorem requested_source (hs : s.freqSource = sourceChoice s) : s1.freqSource = sourceChoice s1 := by
  rw [admitRequest_frame h.2.2.2.1]
  exact hs

theorem requested_recordWith {l : List Logged} : s1.recordWith l = s.recordWith l := by
  rw [admitRequest_frame h.2.2.2.1]
  rfl

theorem requested_records : s1.sources = s.sources ∧ s1.units = s.units ∧ s1.feeders = s.feeders ∧ s1.orders = s.orders ∧
    s1.shed = s.shed := by
  rw [admitRequest_frame h.2.2.2.1]
  exact ⟨rfl, rfl, rfl, rfl, rfl⟩

theorem requested_stopTest (hs : stopTest s = s) : stopTest s1 = s1 := by
  have frame := admitRequest_frame h.2.2.2.1
  refine stopTest_same ?_ ?_ hs
  · rw [frame]
    rfl
  · rw [frame]

/-- R4: the SOURCE write. -/
theorem exec_writeEntrySource {i : Fin 64} {e : SourceEntry} (htable : (requestOf t).table = 1)
    (hlen : (requestOf t).content.length = 24) (hi : (requestOf t).index = i.val)
    (he : read16 (requestOf t).content 0 = 0 ∧ e = {} ∨ read16 (requestOf t).content 0 ≠ 0 ∧
      sourceFrom (requestOf t).content = some e ∧ firstFailure (sourceChecks s i e) = .ok) :
    exec (.writeEntrySource p f) s = .next (answered t .ok [] (settle (replaceSource i e (requestOf t).sender s1))) := by
  have checks : sourceChecks s1 i e = sourceChecks s i e := by
    rw [admitRequest_frame h.2.2.2.1]
    rfl
  rw [exec_arrival (p := p) (f := f) rfl]
  refine run_write (table := .source) h (by rw [htable]; rfl) nofun hlen ?_
  rw [writeEntry, hi]
  exact writeSourceEntry_ok (checks ▸ he)

/-- R78, R120: the UNIT write. -/
theorem exec_writeEntryUnit {u : Fin 16} {k : UnitKind} (htable : (requestOf t).table = 2)
    (hlen : (requestOf t).content.length = 56) (hu : (requestOf t).index = u.val)
    (hk : ofCode unitKindsByCode (read8 (requestOf t).content 0) = some k)
    (hc : firstFailure (unitChecks s u k (requestOf t).content) = .ok) : exec (.writeEntryUnit p f) s =
      .next (answered t .ok [] (settle (replaceUnit u k (requestOf t).content (requestOf t).sender s1))) := by
  have checks : unitChecks s1 u k (requestOf t).content = unitChecks s u k (requestOf t).content := by
    rw [admitRequest_frame h.2.2.2.1]
    rfl
  rw [exec_arrival (p := p) (f := f) rfl]
  refine run_write (table := .unit) h (by rw [htable]; rfl) nofun hlen ?_
  rw [writeEntry, hu]
  exact writeUnitEntry_ok hk (checks ▸ hc)

/-- R123: the FEEDER write. -/
theorem exec_writeEntryFeeder {k : Fin 32} (htable : (requestOf t).table = 3) (hlen : (requestOf t).content.length = 24)
    (hi : (requestOf t).index = k.val) (hc : firstFailure (feederChecks s k (requestOf t).content) = .ok) :
    exec (.writeEntryFeeder p f) s = .next (answered t .ok []
      (settle (replaceFeeder k (read8 (requestOf t).content 0 = 1) (requestOf t).content (requestOf t).sender s1))) := by
  have checks : feederChecks s1 k (requestOf t).content = feederChecks s k (requestOf t).content := by
    rw [admitRequest_frame h.2.2.2.1]
    rfl
  rw [exec_arrival (p := p) (f := f) rfl]
  refine run_write (table := .feeder) h (by rw [htable]; rfl) nofun hlen ?_
  rw [writeEntry, hi]
  exact writeFeederEntry_ok (checks ▸ hc)

end

/-- Settles O45: each write's outcome is a record given and what the hand-overs leave of it; the first write of a silent record
hands over nothing that acts. -/
theorem recordWritesReplaceTheConfiguration : Obligations.RecordWritesReplaceTheConfiguration := by
  intro s p f t s1 h r o mode device status written calm
  obtain ⟨sources, units, feeders, orders, shed⟩ := requested_records h
  have quiet : s1.handovers = [] := requested_handovers h
  refine ⟨fun htable hlen i hi e he => ⟨?source, fun hold hrole hcalm => ?sourceFirst⟩, fun htable hlen u k hu hk hchecks => ?unit,
    fun htable hlen k hi hchecks => ?feeder⟩
  case source =>
    have given := answered_settle_given (t := t) (x := replaceSource i e r.sender s1)
    rw [replaceSource_given, sources] at given
    have table : (answered t .ok [] (settle (replaceSource i e r.sender s1))).sources = s.sources.set i e := congrArg Given.sources given
    refine ⟨_, exec_writeEntrySource h htable hlen hi he, answered_settle_handovers, ⟨_, rfl⟩, by rw [given, table], ?_, fun j hj => ?_⟩
    · rw [table]
      exact Vector.getElem_set_self _
    · rw [table]
      simp only [Fin.getElem_fin, Vector.getElem_set, Fin.val_inj, if_neg hj.symm]
  case sourceFirst =>
    obtain ⟨hsheet, hsource, -⟩ := hcalm
    rw [exec_writeEntrySource h htable hlen hi he, replaceSource_first (by rw [sources]; exact hold) hrole (written_stale he)
      (requested_sheetKept h hsheet) (requested_source h hsource), settle_nil, requested_recordWith h, sources]
    · simp only [written, r, hi]
    · exact quiet
  case unit =>
    have given := answered_settle_given (t := t) (x := replaceUnit u k o r.sender s1)
    rw [replaceUnit_given, modUnit_given_eq, units] at given
    have each : ∀ v : Fin 16, ((answered t .ok [] (settle (replaceUnit u k o r.sender s1))).units[v]).given = _ :=
      fun v => congrFun (congrArg Given.units given) v
    have own := (each u).trans (if_pos rfl)
    generalize hx : settle (replaceUnit u k o r.sender s1) = x at given each own
    refine ⟨_, (exec_writeEntryUnit h htable hlen hu hk hchecks).trans (by rw [hx]), ?_, ⟨x, rfl⟩, by rw [given],
      fun v hv => (each v).trans (if_neg hv), ?_, fun hused => ?_, fun hgenset => ?_, fun hpv => ?_, fun hold hcalm hstop _ => ?_⟩
    · rw [answered_handovers, ← hx, settle_handovers]
    · exact (congrArg UnitRec.kind own).trans unitAfterWrite_kind
    · obtain ⟨-, hmode, hdevice, hrated, -⟩ := unitAfterWrite_config (k := k) (o := o) (r := s.units[u])
      obtain ⟨cmode, cdevice, crated⟩ := unitConfig_used (o := o) (r := s.units[u]) hused
      exact ⟨(congrArg UnitRec.mode own).trans (hmode.trans cmode), (congrArg UnitRec.device own).trans (hdevice.trans cdevice),
        (congrArg UnitRec.rated own).trans (hrated.trans crated)⟩
    · subst hgenset
      obtain ⟨start, breaker, stop⟩ := unitContentOk_genset (unitChecks_content hchecks)
      obtain ⟨-, -, -, -, hmin, hrank, hwarm, hcool, hstart, hbreaker, hstop, -⟩ :=
        unitAfterWrite_config (k := .genset) (o := o) (r := s.units[u])
      exact ⟨(congrArg UnitRec.minLoad own).trans hmin, (congrArg UnitRec.startRank own).trans hrank,
        (congrArg UnitRec.warmUp own).trans hwarm, (congrArg UnitRec.cooldown own).trans hcool,
        (congrArg (fun y : UnitRec => y.startProfile.val) own).trans ((congrArg Fin.val hstart).trans (profileIndex_val start)),
        (congrArg (fun y : UnitRec => y.breakerProfile.val) own).trans ((congrArg Fin.val hbreaker).trans (profileIndex_val breaker)),
        (congrArg (fun y : UnitRec => y.stopProfile.val) own).trans ((congrArg Fin.val hstop).trans (profileIndex_val stop))⟩
    · subst hpv
      obtain ⟨-, -, -, -, -, -, -, -, -, -, -, hlimit⟩ := unitAfterWrite_config (k := .pv) (o := o) (r := s.units[u])
      exact (congrArg (fun y : UnitRec => y.limitProfile.val) own).trans
        ((congrArg Fin.val hlimit).trans (profileIndex_val (unitContentOk_pv (unitChecks_content hchecks))))
    · obtain ⟨hsheet, hsource, hqueue⟩ := hcalm
      have first : x = unitWritten u (unitAfterWrite k o {}) r.sender s1 := by
        rw [← hx]
        exact settle_replaceUnit_first quiet (by rw [units]; exact hold) (requested_sheetKept h hsheet) (requested_source h hsource)
          (by rw [orders]; exact hqueue) fun hg => requested_stopTest h (hstop hg)
      have entry : (answered t .ok [] x).units[u] = unitAfterWrite k o {} := by
        rw [first]
        exact unitWritten_entry (b := r.sender)
      rw [entry, first, unitWritten, requested_recordWith h, units]
      simp only [written, r, hu]
  case feeder =>
    have given := answered_settle_given (t := t) (x := replaceFeeder k (read8 o 0 = 1) o r.sender s1)
    rw [replaceFeeder_given, modFeeder_given_eq, feeders] at given
    have each : ∀ j : Fin 32, ((answered t .ok [] (settle (replaceFeeder k (read8 o 0 = 1) o r.sender s1))).feeders[j]).given = _ :=
      fun j => congrFun (congrArg Given.feeders given) j
    have own := (each k).trans (if_pos rfl)
    have settled := fun (hq : s.orders.queue = []) (hsheet : SheetKept s) (hentry : s.shed.entryOf k = none) =>
      settle_replaceFeeder (k := k) (used := read8 o 0 = 1) (o := o) (b := r.sender) quiet (by rw [orders]; exact hq)
        (requested_sheetKept h hsheet) (by rw [shed]; exact hentry)
    generalize hx : settle (replaceFeeder k (read8 o 0 = 1) o r.sender s1) = x at given each own settled
    refine ⟨_, (exec_writeEntryFeeder h htable hlen hi hchecks).trans (by rw [hx]), ?_, ⟨x, rfl⟩, by rw [given],
      fun j hj => (each j).trans (if_neg hj), ?_, fun hused => ?_, fun hused hsheet hq hstack => ?_, fun hold hcalm hentry => ?_⟩
    · rw [answered_handovers, ← hx, settle_handovers]
    · rw [show ((answered t .ok [] x).feeders[k]).used = _ from (congrArg FeederRec.used own).trans feederAfterWrite_used,
        decide_eq_true_eq]
    · rw [decide_eq_true hused] at own
      exact ⟨congrArg FeederRec.device own,
        (congrArg (fun y : FeederRec => y.profile.val) own).trans (profileIndex_val (feederChecks_profile hchecks hused))⟩
    · obtain ⟨r', sheet, hr', hmode, -⟩ := settled hq hsheet (by simp [Shedding.entryOf, hstack])
      rw [decide_eq_true hused, feederAfterWrite_mode] at hmode
      rw [hr']
      exact (congrArg FeederRec.mode (feederSummed_entry (s := s1) (b := r.sender) (sheet := sheet))).trans hmode
    · obtain ⟨hsheet, -, hq⟩ := hcalm
      obtain ⟨r', sheet, hr', -, hunmeasured⟩ := settled hq hsheet hentry
      have entry : (answered t .ok [] x).feeders[k] = r' := by
        rw [hr']
        exact feederSummed_entry (b := r.sender) (sheet := sheet)
      rw [entry, hr', feederSummed, hunmeasured (by rw [feeders, hold]), feederWritten, requested_recordWith h, feeders]
      simp only [written, r, hi]

end Sys2Proof.Machine
end

section
/-!
SUPPORT. The sums of the Balance Sheet (R24 to R28): what they read of each record, and what leaves the sheet as its records give it.
-/

namespace Sys2Proof.Machine

variable {s t : State}

/-! ## What the sheet reads -/

theorem toList_eq_finRange {α : Type} {n : Nat} (v : Vector α n) : v.toList = (List.finRange n).map fun i => v[i] := by
  refine List.ext_getElem (by simp) fun i h h' => ?_
  simp

/-- A sum over the records of a table is one over its indices. -/
theorem sumOver_table {α : Type} {n : Nat} (v : Vector α n) (counts : α → Bool) (q : α → Int) :
    sumOver v.toList counts q = ((List.finRange n).map fun i => if counts v[i] then q v[i] else 0).sum := by
  rw [sumOver_eq, toList_eq_finRange, List.map_map]
  rfl

theorem sumOver_congr {α : Type} {n : Nat} {v w : Vector α n} {counts : α → Bool} {q : α → Int}
    (h : ∀ i : Fin n, counts v[i] = counts w[i] ∧ q v[i] = q w[i]) : sumOver v.toList counts q = sumOver w.toList counts q := by
  rw [sumOver_table, sumOver_table]
  refine congrArg List.sum (List.map_congr_left fun i _ => ?_)
  rw [(h i).1, (h i).2]

/-- What the sheet reads of a unit record. -/
structure UnitTerms where
  online   : Bool
  starting : Bool
  kind     : UnitKind
  rated    : Nat
  minimum  : Int
  p        : Option Int
  dis      : Option Int
  chg      : Option Int

def UnitRec.terms (r : UnitRec) : UnitTerms :=
  ⟨r.inOnlineSet, r.inStartingSet, r.kind, r.rated, r.minimumLoad, r.p, r.dis, r.chg⟩

/-- What the sheet reads of a feeder record. -/
def FeederRec.terms (r : FeederRec) : Bool × Option Int := (r.inLoad, r.p)

theorem terms_of_given {r x : UnitRec} (hg : x.given = r.given) (hs : x.genset.state = r.genset.state) : x.terms = r.terms := by
  simp only [UnitRec.given, UnitRec.mk.injEq] at hg
  simp only [UnitRec.terms, UnitRec.inOnlineSet, UnitRec.inStartingSet, UnitRec.minimumLoad, hg, hs]

theorem feederTerms_of_given {r x : FeederRec} (h : x.given = r.given) : x.terms = r.terms := by
  simp only [FeederRec.given, FeederRec.mk.injEq] at h
  simp only [FeederRec.terms, FeederRec.inLoad, h]

/-- R29: records that read the same, the same bank and the same frequency give the same sheet. -/
theorem computeSheet_congr (hsheet : t.sheet = s.sheet) (hbank : t.bank = s.bank)
    (hu : ∀ u : Fin 16, (t.units[u]).terms = (s.units[u]).terms) (hf : ∀ k : Fin 32, (t.feeders[k]).terms = (s.feeders[k]).terms) :
    computeSheet t = computeSheet s := by
  simp only [UnitRec.terms, UnitTerms.mk.injEq] at hu
  simp only [FeederRec.terms, Prod.mk.injEq] at hf
  have feeders : sumOver t.feeders.toList FeederRec.inLoad (fun f => f.p.getD 0) =
      sumOver s.feeders.toList FeederRec.inLoad fun f => f.p.getD 0 := sumOver_congr fun k => ⟨(hf k).1, by rw [(hf k).2]⟩
  have units : ∀ {counts : UnitRec → Bool} {q : UnitRec → Int},
      (∀ u : Fin 16, counts t.units[u] = counts s.units[u] ∧ q t.units[u] = q s.units[u]) →
      sumOver t.units.toList counts q = sumOver s.units.toList counts q := sumOver_congr
  simp only [computeSheet, feeders, hsheet, hbank]
  rw [units (counts := UnitRec.inOnlineSet), units (counts := UnitRec.inOnlineSet), units (counts := UnitRec.inOnlineSet),
    units (counts := fun u => u.kind = .pv), units (counts := fun u => u.kind = .store), units (counts := fun u => u.kind = .store),
    units (counts := fun u => u.kind = .store), units (counts := UnitRec.inStartingSet)]
  all_goals
    intro u
    obtain ⟨online, starting, kind, rated, minimum, p, dis, chg⟩ := hu u
    simp only [online, starting, kind, rated, minimum, p, dis, chg, UnitRec.quickReserve, and_self]

theorem SheetKept.congr (h : SheetKept s) (hsheet : t.sheet = s.sheet) (hbank : t.bank = s.bank)
    (hu : ∀ u : Fin 16, (t.units[u]).terms = (s.units[u]).terms) (hf : ∀ k : Fin 32, (t.feeders[k]).terms = (s.feeders[k]).terms) :
    SheetKept t := by
  rw [SheetKept, computeSheet_congr hsheet hbank hu hf, hsheet]
  exact h

/-! ## The frame -/

/-- What, beside `State.given`, only a change of state, a lockout, a bank switch, a frequency sample, a choice of the source or a
recomputation changes. -/
structure Standing where
  sheet      : Sheet
  activeBank : Fin 4
  freqSource : FreqSource
  history    : List Sample
  gensets    : Fin 16 → GensetState × LockoutCause

def State.standing (s : State) : Standing where
  sheet      := s.sheet
  activeBank := s.activeBank
  freqSource := s.freqSource
  history    := s.history
  gensets    := fun u => ((s.genset u).state, (s.genset u).lockout)

/-- What leaves both frames leaves the sheet the one its records give. -/
theorem SheetKept.frame (h : SheetKept s) (hf : (t.given, t.standing) = (s.given, s.standing)) : SheetKept t := by
  simp only [State.given, State.standing, Prod.mk.injEq, Given.mk.injEq, Standing.mk.injEq, funext_iff] at hf
  obtain ⟨⟨-, -, -, -, -, -, -, -, -, -, banks, -, -, -, -, -, -, -, units, feeders⟩, sheet, bank, -, -, gensets⟩ := hf
  exact h.congr sheet (by simp only [State.bank, banks, bank]) (fun u => terms_of_given (units u) (gensets u).1)
    fun k => feederTerms_of_given (feeders k)

end Sys2Proof.Machine
end

section
/-!
SUPPORT. What the operations of the jobs and of the Order Unit leave of `State.standing`: one lemma for each, beside its lemma on
`State.given`.
-/

namespace Sys2Proof.Machine

variable {s : State}

/-! ## Shared updates -/

@[simp] theorem post_standing (l : List Handover) : (s.post l).standing = s.standing := rfl
@[simp] theorem postFirst_standing (h : Handover) : (s.postFirst h).standing = s.standing := rfl
@[simp] theorem log_standing (k : EventKind) (x : Option Subject) (v : Int) (d : Nat) : (s.log k x v d).standing = s.standing := rfl
@[simp] theorem modOrders_standing (f : OrderUnit → OrderUnit) : (s.modOrders f).standing = s.standing := rfl
@[simp] theorem modArbiter_standing (f : Arbiter → Arbiter) : (s.modArbiter f).standing = s.standing := rfl
@[simp] theorem modShed_standing (f : Shedding → Shedding) : (s.modShed f).standing = s.standing := rfl
@[simp] theorem modSeq_standing (f : Sequencer → Sequencer) : (s.modSeq f).standing = s.standing := rfl
@[simp] theorem modFeeder_standing (i : Fin 32) (f : FeederRec → FeederRec) : (s.modFeeder i f).standing = s.standing := rfl
@[simp] theorem setStopTimer_standing (t : Option StopTimer) : (s.setStopTimer t).standing = s.standing := rfl
@[simp] theorem postRestoreWait_standing (x : Option Nat) : (postRestoreWait x s).standing = s.standing := rfl
@[simp] theorem formTelegram_standing (k : Nat) (d : StationId) (b : Octets) : (formTelegram k d b s).standing = s.standing := rfl

theorem feeders_standing (v : Vector FeederRec 32) : ({ s with feeders := v }).standing = s.standing := rfl

/-- An update of a unit record that leaves its genset's state and lockout cause. -/
theorem modUnit_standing {u : Fin 16} {f : UnitRec → UnitRec}
    (h : ∀ r, (f r).genset.state = r.genset.state ∧ (f r).genset.lockout = r.genset.lockout) :
    (s.modUnit u f).standing = s.standing := by
  simp only [State.standing, State.genset, modUnit_units, Fin.getElem_fin, modifyAt_get, Standing.mk.injEq]
  refine ⟨rfl, rfl, rfl, rfl, funext fun v => ?_⟩
  split_ifs
  · exact Prod.ext (h _).1 (h _).2
  · rfl

@[simp] theorem modGenset_standing {u : Fin 16} {f : GensetControl → GensetControl} (h : ∀ g, (f g).state = g.state ∧ (f g).lockout = g.lockout) :
    (s.modGenset u f).standing = s.standing := modUnit_standing fun r => h r.genset

@[simp] theorem modPv_standing (u : Fin 16) (f : PvControl → PvControl) : (s.modPv u f).standing = s.standing :=
  modUnit_standing fun _ => ⟨rfl, rfl⟩

/-- An action on each element of a list in turn leaves what each of them leaves. -/
theorem foldl_standing {α : Type} {f : State → α → State} (h : ∀ t x, (f t x).standing = t.standing) (l : List α) :
    (l.foldl f s).standing = s.standing :=
  foldl_kept (P := fun t => t.standing = s.standing) (fun t x ht => (h t x).trans ht) l rfl

/-! ## The Order Unit -/

@[simp] theorem testQueueHigh_standing : (testQueueHigh s).standing = s.standing := by
  rw [testQueueHigh_frame]
  rfl

@[simp] theorem setQueue_standing (q : List Order) : (setQueue q s).standing = s.standing := by simp [setQueue]

@[simp] theorem recordEnd_standing (o : Order) (e : OrderEnd) (v : Nat) : (recordEnd o e v s).standing = s.standing := by
  unfold recordEnd
  simp only
  split <;> rfl

@[simp] theorem setCycle_standing (t : Target) (x : Timer) : (s.setCycle t x).standing = s.standing := by
  cases t
  · exact modUnit_standing fun _ => ⟨rfl, rfl⟩
  · rfl

@[simp] theorem setHoldOff_standing (t : Target) (x : Timer) : (s.setHoldOff t x).standing = s.standing := by
  cases t
  · exact modUnit_standing fun _ => ⟨rfl, rfl⟩
  · rfl

@[simp] theorem startHoldOff_standing (o : Order) (e : OrderEnd) : (startHoldOff o e s).standing = s.standing := by
  unfold startHoldOff
  split <;> simp

@[simp] theorem endSlot_standing (x : Slot) (e : OrderEnd) : (endSlot x e s).standing = s.standing := by simp [endSlot]

@[simp] theorem endQueued_standing (o : Order) (e : OrderEnd) (b : Bool) : (endQueued o e b s).standing = s.standing := by
  simp [endQueued]

@[simp] theorem freeze_standing (x : Slot) : (freeze x s).standing = s.standing := by
  unfold freeze
  simp only
  split <;> simp

@[simp] theorem sendOne_standing (o : Order) : (sendOne o s).standing = s.standing := by
  unfold sendOne
  simp only
  split_ifs <;> simp <;> split <;> simp

@[simp] theorem sendLoop_standing (n : Nat) : (sendLoop n s).standing = s.standing := by
  induction n generalizing s with
  | zero => rfl
  | succ n ih => unfold sendLoop; split <;> simp [ih]

@[simp] theorem sendTest_standing : (sendTest s).standing = s.standing := sendLoop_standing _

@[simp] theorem countAccepted_standing : (countAccepted s).standing = s.standing := rfl

@[simp] theorem submitRoutine_standing (o : Order) : (submitRoutine o s).1.standing = s.standing := by
  unfold submitRoutine
  simp only
  split <;> split <;> simp

theorem submitRoutine_out_standing {o : Order} {out : State} {a : SubmitAnswer} (h : submitRoutine o s = (out, a)) :
    out.standing = s.standing := by
  rw [← submitRoutine_standing (s := s) o, h]

@[simp] theorem cancelWhere_standing (p : Order → Bool) (own : Bool) : (cancelWhere p own s).standing = s.standing :=
  foldl_standing (by simp) _

@[simp] theorem dropLast_standing : (dropLast s).standing = s.standing := by
  unfold dropLast
  split
  · rfl
  · split <;> simp

@[simp] theorem submitProtective_standing (o : Order) : (submitProtective o s).standing = s.standing := by
  unfold submitProtective
  simp only
  split <;> simp

@[simp] theorem withdraw_standing (c : List OrderCause) (t : Target) (k : Option OrderKind) :
    (withdraw c t k s).standing = s.standing := cancelWhere_standing _ _

@[simp] theorem idleTarget_standing (t : Target) : (idleTarget t s).standing = s.standing := by simp [idleTarget]

@[simp] theorem cancelTarget_standing (t : Target) : (cancelTarget t s).standing = s.standing := cancelWhere_standing _ _

@[simp] theorem releaseTarget_standing (t : Target) : (releaseTarget t s).standing = s.standing := by simp [releaseTarget]

@[simp] theorem matchReport_standing (t : Target) (g : Octet) (r a : Bool) : (matchReport t g r a s).standing = s.standing := by
  unfold matchReport
  split <;> [skip; split_ifs] <;> simp

@[simp] theorem inhibitChange_standing (t : Target) : (inhibitChange t s).standing = s.standing := by
  unfold inhibitChange
  split <;> [skip; (simp only; split_ifs)] <;> simp

@[simp] theorem deadlineExpires_standing (g : Octet) : (deadlineExpires g s).standing = s.standing := by
  unfold deadlineExpires
  split <;> [skip; split_ifs] <;> simp

@[simp] theorem inhibitExpires_standing (g : Octet) : (inhibitExpires g s).standing = s.standing := by
  unfold inhibitExpires
  split <;> [skip; split_ifs] <;> simp

@[simp] theorem cycleExpires_standing (t : Target) : (cycleExpires t s).standing = s.standing := by
  unfold cycleExpires
  split <;> simp

@[simp] theorem holdOffExpires_standing (t : Target) : (holdOffExpires t s).standing = s.standing := by
  unfold holdOffExpires
  simp only
  split
  · split <;> [simp; (split <;> simp)]
  · rfl

/-! ## The Crank Arbiter -/

@[simp] theorem grantTo_standing (r : CrankRequest) : (grantTo r s).standing = s.standing := by simp [grantTo]

@[simp] theorem nextCrank_standing : (nextCrank s).standing = s.standing := by
  unfold nextCrank
  split <;> [skip; split] <;> simp

@[simp] theorem releaseGrant_standing (p : Fin 16) : (releaseGrant p s).standing = s.standing := by
  unfold releaseGrant
  simp only
  split <;> simp

@[simp] theorem requestCrank_standing (r : CrankRequest) : (requestCrank r s).standing = s.standing := by
  unfold requestCrank
  simp only
  split_ifs <;> simp

@[simp] theorem crankOutcome_standing (u p : Fin 16) (b : Bool) : (crankOutcome u p b s).standing = s.standing := by
  unfold crankOutcome
  split <;> [split; skip] <;> simp

@[simp] theorem withdrawCrank_standing (c : CauseClass → Bool) (u : Fin 16) : (withdrawCrank c u s).standing = s.standing := by
  unfold withdrawCrank
  simp only
  split_ifs <;> simp

@[simp] theorem operatorWithdraw_standing (u : Fin 16) : (operatorWithdraw u s).standing = s.standing := withdrawCrank_standing _ _

@[simp] theorem operatorGrant_standing (r : CrankRequest) : (operatorGrant r s).standing = s.standing := by
  unfold operatorGrant
  split
  · rfl
  · simp only
    split <;> rename_i h <;> simp [submitRoutine_out_standing h]

@[simp] theorem pressureReady_standing (k : Nat) : (pressureReady k s).standing = s.standing := by
  unfold pressureReady
  split <;> simp

@[simp] theorem airHoldOffExpires_standing : (airHoldOffExpires s).standing = s.standing := by
  unfold airHoldOffExpires
  split <;> simp

/-! ## Diesel Dispatch, apart from the changes of state -/

@[simp] theorem startStateTimer_standing (u : Fin 16) (n : Nat) : (startStateTimer u n s).standing = s.standing := by
  have started : (s.modGenset u fun g => { g with timer := some n }).standing = s.standing := modGenset_standing fun _ => ⟨rfl, rfl⟩
  unfold startStateTimer
  simp only
  split <;> exact started

@[simp] theorem submitDispatch_standing (k : OrderKind) (u : Fin 16) : (submitDispatch k u s).standing = s.standing := by
  unfold submitDispatch
  split <;> rename_i h <;> simp [submitRoutine_out_standing h]

@[simp] theorem dispatchWithdraw_standing (k : Option OrderKind) (u : Fin 16) : (dispatchWithdraw k u s).standing = s.standing := by
  unfold dispatchWithdraw
  simp only
  split <;> simp

@[simp] theorem startStopTimer_standing (c : Fin 16) : (startStopTimer c s).standing = s.standing := by
  unfold startStopTimer
  simp only
  split <;> rfl

@[simp] theorem stopTest_standing : (stopTest s).standing = s.standing := by
  unfold stopTest
  split <;> [skip; skip; split] <;> simp

@[simp] theorem clearOutstanding_standing (k : OrderKind) (u : Fin 16) : (clearOutstanding k u s).standing = s.standing :=
  modGenset_standing fun g => by split <;> exact ⟨rfl, rfl⟩

@[simp] theorem settleOwed_standing (u : Fin 16) : (settleOwed u s).standing = s.standing := by
  unfold settleOwed
  split <;> [split; skip] <;> simp

@[simp] theorem settleUnloaded_standing (u : Fin 16) : (settleUnloaded u s).standing = s.standing := by
  unfold settleUnloaded
  simp only
  split <;> simp

/-! ## Solar Curtailment -/

@[simp] theorem submitLimit_standing (u : Fin 16) (v : Int) : (submitLimit u v s).standing = s.standing := submitRoutine_standing _

@[simp] theorem curtailEval_standing : (curtailEval s).standing = s.standing := by
  unfold curtailEval
  simp only
  split
  · rfl
  · exact foldl_standing (by simp) _

@[simp] theorem curtailTimerExpires_standing : (curtailTimerExpires s).standing = s.standing := by
  unfold curtailTimerExpires
  split <;> simp
  rfl

@[simp] theorem limitOrderEnd_standing (u : Fin 16) (v : Int) (e : OrderEnd) : (limitOrderEnd u v e s).standing = s.standing := by
  unfold limitOrderEnd
  split <;> simp

@[simp] theorem lowerQueued_standing (u : Fin 16) : (lowerQueued u s).standing = s.standing := rfl

@[simp] theorem setMirror_standing (u : Fin 16) (v : Int) : (setMirror u v s).standing = s.standing := by
  unfold setMirror
  split <;> simp

@[simp] theorem reassert_standing (u : Fin 16) (n : Nat) : (reassert u n s).standing = s.standing := by simp [reassert]

@[simp] theorem followCopy_standing (u : Fin 16) (b : Bool) : (followCopy u b s).standing = s.standing := by
  unfold followCopy
  simp only
  split <;> split <;> simp

@[simp] theorem setpointCopy_standing (d : StationId) (v : Int) : (setpointCopy d v s).standing = s.standing := by
  unfold setpointCopy
  split
  · rfl
  · simp only
    split_ifs <;> simp

@[simp] theorem mirrorExpires_standing (u : Fin 16) : (mirrorExpires u s).standing = s.standing := by
  unfold mirrorExpires
  split <;> simp

@[simp] theorem withdrawLimits_standing (u : Fin 16) : (withdrawLimits u s).standing = s.standing := by
  unfold withdrawLimits
  split <;> simp

@[simp] theorem pvMode_standing (u : Fin 16) : (pvMode u s).standing = s.standing := by
  unfold pvMode
  simp only
  split_ifs <;> simp

/-! ## Shedding and Restoration -/

@[simp] theorem setStack_standing (q : List StackEntry) : (setStack q s).standing = s.standing := rfl

@[simp] theorem removeEntry_standing (f : Fin 32) : (removeEntry f s).standing = s.standing := by
  unfold removeEntry
  simp only
  split <;> simp

@[simp] theorem takeFeeder_standing (f : Fin 32) (c : ShedCause) (n : Nat) : (takeFeeder f c n s).standing = s.standing := by
  unfold takeFeeder
  simp only [log_standing, submitProtective_standing, modFeeder_standing, setStack_standing]
  split <;> simp

theorem walkEntry_standing (c : ShedCause) (p : ShedEntry → Bool) (i : Fin 32) (w : Walk) :
    (walkEntry c p i w).state.standing = w.state.standing := by
  unfold walkEntry
  simp only
  split
  · rfl
  · split_ifs <;> simp

theorem walkOver_standing (c : ShedCause) (p : ShedEntry → Bool) (target : Option Int) (l : List (Fin 32)) (w : Walk) :
    (walkOver c p target l w).state.standing = w.state.standing := by
  induction l generalizing w with
  | nil => rfl
  | cons i rest ih =>
    unfold walkOver
    simp only
    split <;> [skip; rw [ih]] <;> exact walkEntry_standing c p i w

@[simp] theorem setStageTimer_standing (i : Fin 8) (t : Timer) : (s.setStageTimer i t).standing = s.standing := rfl

@[simp] theorem stageTrip_standing (i : Fin 8) : (stageTrip i s).standing = s.standing := by
  simp [stageTrip, walkOver_standing]

@[simp] theorem stageTimerExpires_standing (i : Fin 8) : (stageTimerExpires i s).standing = s.standing := by
  unfold stageTimerExpires
  split <;> simp

@[simp] theorem stageSample_standing (b : Bank) (f : Nat) (i : Fin 8) : (stageSample b f i s).standing = s.standing := by
  unfold stageSample
  simp only
  split
  · rfl
  · split <;> split_ifs <;> simp

@[simp] theorem deficitWalk_standing (n : Nat) (m : List Nat) (t : Int) : (deficitWalk n m t s).standing = s.standing := by
  simp [deficitWalk, walkOver_standing]

@[simp] theorem deficitTest_standing (b : Bank) (f : Nat) : (deficitTest b f s).standing = s.standing := by
  unfold deficitTest
  simp only
  split <;> simp

@[simp] theorem makeUpWalk_standing (n : Nat) : (makeUpWalk n s).standing = s.standing := by
  unfold makeUpWalk
  split <;> simp

@[simp] theorem shedTripEnd_standing (f : Fin 32) (e : OrderEnd) : (shedTripEnd f e s).standing = s.standing := by
  unfold shedTripEnd
  split
  · rfl
  · simp only
    split_ifs <;> simp

@[simp] theorem restoreTest_standing : (restoreTest s).standing = s.standing := by
  unfold restoreTest
  split
  · rfl
  · split <;> [simp; simp; (split <;> rename_i h <;> simp [submitRoutine_out_standing h])]

@[simp] theorem grantPermission_standing : (grantPermission s).standing = s.standing := rfl

@[simp] theorem losePermission_standing : (losePermission s).standing = s.standing := rfl

@[simp] theorem withdrawCloses_standing : (withdrawCloses s).standing = s.standing := cancelWhere_standing _ _

@[simp] theorem cancelRestoration_standing : (cancelRestoration s).standing = s.standing := by
  unfold cancelRestoration
  simp only [withdrawCloses_standing]
  split <;> rfl

@[simp] theorem restoreDelaySample_standing (b : Bank) (f : Nat) : (restoreDelaySample b f s).standing = s.standing := by
  unfold restoreDelaySample
  split_ifs <;> simp

@[simp] theorem restoreDelayExpires_standing : (restoreDelayExpires s).standing = s.standing := by
  unfold restoreDelayExpires
  split <;> simp

@[simp] theorem runStart_standing : (runStart s).standing = s.standing := by simp [runStart]

@[simp] theorem runEnd_standing : (runEnd s).standing = s.standing := by simp [runEnd]

@[simp] theorem startStepInterval_standing (f : Fin 32) (o : BarrierOwner) (n : Nat) :
    (startStepInterval f o n s).standing = s.standing := by
  unfold startStepInterval
  simp only
  split <;> rfl

@[simp] theorem feederReport_standing (f : Fin 32) : (feederReport f s).standing = s.standing := by
  unfold feederReport
  split <;> [split_ifs; skip] <;> simp

@[simp] theorem stepIntervalExpires_standing : (stepIntervalExpires s).standing = s.standing := by
  unfold stepIntervalExpires
  split <;> [(simp only; split); skip] <;> simp

@[simp] theorem clearLatches_standing (b : Bank) (f : Nat) : (clearLatches b f s).standing = s.standing := by
  unfold clearLatches
  simp only
  split <;> rfl

@[simp] theorem shedSample_standing (f : Nat) : (shedSample f s).standing = s.standing := by
  have staged : ∀ t : State, ((List.finRange 8).foldl (fun x i => stageSample s.bank f i x) t).standing = t.standing :=
    fun t => foldl_standing (by simp) _
  unfold shedSample
  simp only
  split <;> simp [staged]

@[simp] theorem shedFreqChange_standing : (shedFreqChange s).standing = s.standing := by
  unfold shedFreqChange
  split <;> simp

@[simp] theorem feederMode_standing (f : Fin 32) : (feederMode f s).standing = s.standing := by
  unfold feederMode
  split
  · rfl
  · simp only [withdraw_standing]
    split <;> simp

@[simp] theorem feederRewritten_standing (f : Fin 32) (b : Bool) : (feederRewritten f b s).standing = s.standing := by
  unfold feederRewritten
  simp only [apply_ite State.standing, modFeeder_standing, removeEntry_standing, ite_self]

@[simp] theorem restartStage_standing (b : Bank) (i : Fin 8) : (restartStage b i s).standing = s.standing := by
  unfold restartStage
  split
  · rfl
  · simp only
    split_ifs <;> rfl

@[simp] theorem restartRestoreDelay_standing (b : Bank) : (restartRestoreDelay b s).standing = s.standing := by
  unfold restartRestoreDelay
  split
  · rfl
  · simp only
    split <;> rfl

@[simp] theorem shedBankSwitch_standing : (shedBankSwitch s).standing = s.standing := by
  have staged : ((List.finRange 8).foldl (fun x i => restartStage s.bank i x) s).standing = s.standing := foldl_standing (by simp) _
  unfold shedBankSwitch
  simp only
  split <;> simp [staged]

/-! ## Setting Banks -/

@[simp] theorem dispatchBankSwitch_standing : (dispatchBankSwitch s).standing = s.standing := by
  unfold dispatchBankSwitch
  simp only
  split <;> [rw [startStopTimer_standing]; skip] <;> rfl

@[simp] theorem curtailBankSwitch_standing : (curtailBankSwitch s).standing = s.standing := rfl

@[simp] theorem deadBusBankSwitch_standing : (deadBusBankSwitch s).standing = s.standing := by
  unfold deadBusBankSwitch
  split
  · rfl
  · simp only
    split <;> rfl

/-! ## The Sequencer, apart from the ends of its steps -/

@[simp] theorem dropBarrier_standing : (dropBarrier s).standing = s.standing := rfl

@[simp] theorem handRunEnd_standing : (handRunEnd s).standing = s.standing := rfl

@[simp] theorem pushLeftOpen_standing (f : Fin 32) : (pushLeftOpen f s).standing = s.standing := by
  unfold pushLeftOpen
  split <;> rfl

@[simp] theorem completeRun_standing : (completeRun s).standing = s.standing := by
  have stacked : ∀ t : State, ((List.finRange 32).foldl (fun x f => pushLeftOpen f x) t).standing = t.standing :=
    fun t => foldl_standing (by simp) _
  unfold completeRun
  simp only [handRunEnd_standing, log_standing, dropBarrier_standing]
  rw [feeders_standing, stacked, modSeq_standing]

@[simp] theorem closeStep_standing (e : StepEnd) : (closeStep e s).standing = s.standing := by simp [closeStep]

@[simp] theorem startRun_standing (c : RunCause) : (startRun c s).standing = s.standing := by
  unfold startRun
  simp only [post_standing, setStack_standing]
  rw [feeders_standing, log_standing, modSeq_standing]

@[simp] theorem declareBlackout_standing : (declareBlackout s).standing = s.standing := by
  unfold declareBlackout
  simp only
  split <;> simp

@[simp] theorem deadBusTest_standing (b : Bool) : (deadBusTest b s).standing = s.standing := by
  unfold deadBusTest
  simp only
  split_ifs <;> simp

@[simp] theorem deadBusExpires_standing : (deadBusExpires s).standing = s.standing := by
  unfold deadBusExpires
  split <;> simp

@[simp] theorem setArmed_standing (b : Bool) : (setArmed b s).standing = s.standing := rfl

end Sys2Proof.Machine
end

section
/-!
SUPPORT. The invariant of R29 through the hand-overs of a command: what recomputes the sheet leaves it formed whatever it was before,
and everything else leaves both frames of `SheetKept.frame`.
-/

namespace Sys2Proof.Machine

variable {s t : State}

/-! ## What leaves the sheet alone -/

theorem SheetKept.post (h : SheetKept s) (l : List Handover) : SheetKept (s.post l) := h.frame (by simp)

theorem SheetKept.log (h : SheetKept s) (k : EventKind) (x : Option Subject) (v : Int) (d : Nat) : SheetKept (s.log k x v d) :=
  h.frame (by simp)

theorem SheetKept.modShed (h : SheetKept s) (f : Shedding → Shedding) : SheetKept (s.modShed f) :=
  h.congr rfl rfl (fun _ => rfl) fun _ => rfl

theorem SheetKept.modSeq (h : SheetKept s) (f : Sequencer → Sequencer) : SheetKept (s.modSeq f) :=
  h.congr rfl rfl (fun _ => rfl) fun _ => rfl

theorem SheetKept.removeEntry (h : SheetKept s) (f : Fin 32) : SheetKept (removeEntry f s) := h.frame (by simp)

theorem SheetKept.startStateTimer (h : SheetKept s) (u : Fin 16) (n : Nat) : SheetKept (startStateTimer u n s) :=
  h.frame (by simp)

theorem SheetKept.submitDispatch (h : SheetKept s) (k : OrderKind) (u : Fin 16) : SheetKept (submitDispatch k u s) := h.frame (by simp)

/-! ## What forms the sheet again -/

/-- R29: the recomputation forms the sheet, whatever stood on it before. -/
theorem recompute_sheetKept (s : State) : SheetKept (recompute s) := by
  have formed : SheetKept { s with sheet := computeSheet s } := rfl
  exact ite_kept (P := SheetKept) (SheetKept.post formed _) formed

/-- R31, R32: frequency and RoCoF stand beside the sums; a sheet with others is formed as well. -/
theorem SheetKept.withFreq (h : SheetKept s) (x : FreqSource) (l : List Sample) (f : Option Nat) (r : Option Int) :
    SheetKept { s with freqSource := x, history := l, sheet := { s.sheet with freq := f, rocof := r } } := by
  have formed : { s.sheet with freq := f, rocof := r } = { computeSheet s with freq := f, rocof := r } :=
    congrArg (fun b : Sheet => { b with freq := f, rocof := r }) h
  exact formed

theorem chooseSource_sheetKept (h : SheetKept s) : SheetKept (chooseSource s) :=
  ite_kept (P := SheetKept) h (((h.withFreq (sourceChoice s) [] (s.freqOf (sourceChoice s)) none).log _ _ _ _).post _)

theorem formRocof_sheetKept (h : SheetKept s) : SheetKept (formRocof s) := h.withFreq s.freqSource s.history s.sheet.freq _

/-- R85: a change of state forms the sheet. -/
theorem changeState_sheetKept (u : Fin 16) (g : GensetState) (s : State) : SheetKept (changeState u g s) := by
  unfold changeState
  simp only
  split
  · exact (chooseSource_sheetKept (recompute_sheetKept _)).post _
  · exact (recompute_sheetKept _).post _

/-! ## Diesel Dispatch -/

theorem toClosing_sheetKept (u : Fin 16) (s : State) : SheetKept (toClosing u s) :=
  (changeState_sheetKept u .closing s).submitDispatch _ _

theorem toCooldown_sheetKept (u : Fin 16) (s : State) : SheetKept (toCooldown u s) :=
  (changeState_sheetKept u .cooldown s).startStateTimer _ _

theorem toDerived_sheetKept (b : Bool) (u : Fin 16) (s : State) : SheetKept (toDerived b u s) := by
  unfold toDerived
  split
  · exact toCooldown_sheetKept u s
  · exact ite_kept (P := SheetKept) ((changeState_sheetKept u .online s).log _ _ _ _) (changeState_sheetKept u .online s)
  · exact changeState_sheetKept ..

theorem toUnavailable_sheetKept (u : Fin 16) (s : State) : SheetKept (toUnavailable u s) := changeState_sheetKept ..

theorem lockOut_sheetKept (c : LockoutCause) (u : Fin 16) (s : State) : SheetKept (lockOut c u s) := changeState_sheetKept ..

theorem toStartQueued_sheetKept (u : Fin 16) (s : State) : SheetKept (toStartQueued u s) := by
  have queued := changeState_sheetKept u .startQueued s
  unfold toStartQueued
  simp only
  split <;> exact queued.frame (by simp)

theorem startFrom_sheetKept {c : StartCause} {u : Fin 16} (h : SheetKept s) : SheetKept (startFrom c u s) := by
  unfold startFrom
  split
  · exact toClosing_sheetKept ..
  · exact toStartQueued_sheetKept ..
  · exact h

theorem reportInState_sheetKept {u : Fin 16} (h : SheetKept s) : SheetKept (reportInState u s) := by
  unfold reportInState
  refine ite_kept (P := SheetKept) (lockOut_sheetKept ..) ?_
  split
  iterate 5 exact lockOut_sheetKept ..
  · exact (changeState_sheetKept u .stopped s).frame (by simp)
  · exact toDerived_sheetKept ..
  · exact h

theorem gensetReport_sheetKept {u : Fin 16} (h : SheetKept s) : SheetKept (gensetReport u s) := by
  have free := ite_kept (P := SheetKept) (c := (s.units[u]).isLocal = true) (a := operatorWithdraw u s) (h.frame (by simp)) h
  unfold gensetReport
  refine ite_kept (P := SheetKept) h ?_
  simp only
  split
  · exact ite_kept (P := SheetKept) (toUnavailable_sheetKept ..) (toDerived_sheetKept ..)
  · exact ite_kept (P := SheetKept) free (toDerived_sheetKept ..)
  · exact free
  · exact ite_kept (P := SheetKept) (toUnavailable_sheetKept ..) (reportInState_sheetKept free)

theorem gensetMode_sheetKept {u : Fin 16} (h : SheetKept s) : SheetKept (gensetMode u s) := by
  unfold gensetMode
  simp only
  split
  · exact h
  · exact ite_kept (P := SheetKept) h (toDerived_sheetKept ..)
  · exact ite_kept (P := SheetKept) (toUnavailable_sheetKept ..) h

theorem clearLockout_sheetKept (u : Fin 16) (s : State) : SheetKept (clearLockout u s) :=
  ite_kept (P := SheetKept) (toUnavailable_sheetKept ..) (toDerived_sheetKept ..)

theorem takeGrant_sheetKept {u : Fin 16} (h : SheetKept s) : SheetKept (takeGrant u s) :=
  ite_kept (P := SheetKept) ((changeState_sheetKept u .cranking _).submitDispatch _ _) h

theorem crankEnds_sheetKept (u : Fin 16) (e : OrderEnd) (s : State) : SheetKept (crankEnds u e s) := by
  unfold crankEnds
  simp only
  split_ifs
  · exact toCooldown_sheetKept ..
  · exact changeState_sheetKept ..
  · exact (changeState_sheetKept u .warming s).frame (by simp)
  · exact (changeState_sheetKept u .crankRest s).frame (by simp)
  · exact lockOut_sheetKept ..

theorem closeEnds_sheetKept (u : Fin 16) (e : OrderEnd) (s : State) : SheetKept (closeEnds u e s) :=
  ite_kept (P := SheetKept) ((changeState_sheetKept u .online _).log _ _ _ _) (lockOut_sheetKept ..)

theorem stopTimerExpires_sheetKept (h : SheetKept s) : SheetKept (stopTimerExpires s) := by
  unfold stopTimerExpires
  split
  · exact ite_kept (P := SheetKept) (ite_kept (P := SheetKept) ((changeState_sheetKept _ .unloading _).submitDispatch _ _) (h.frame (by simp))) h
  · exact h

theorem unloadEnds_sheetKept (u : Fin 16) (e : OrderEnd) (s : State) : SheetKept (unloadEnds u e s) :=
  ite_kept (P := SheetKept) ((changeState_sheetKept u .opening s).submitDispatch _ _) ((changeState_sheetKept u .online s).log _ _ _ _)

theorem openEnds_sheetKept (u : Fin 16) (e : OrderEnd) (s : State) : SheetKept (openEnds u e s) :=
  ite_kept (P := SheetKept) (toCooldown_sheetKept ..) (lockOut_sheetKept ..)

theorem stopEnds_sheetKept (u : Fin 16) (e : OrderEnd) (s : State) : SheetKept (stopEnds u e s) :=
  ite_kept (P := SheetKept) ((changeState_sheetKept u .stopped s).log _ _ _ _) (lockOut_sheetKept ..)

theorem stateTimerExpires_sheetKept {g : GensetState} {u : Fin 16} (h : SheetKept s) : SheetKept (stateTimerExpires g u s) := by
  unfold stateTimerExpires
  refine ite_kept (P := SheetKept) ?_ h
  split
  · exact toClosing_sheetKept ..
  · exact toStartQueued_sheetKept ..
  · exact (changeState_sheetKept u .stopping s).frame (by simp)
  · exact h

theorem dispatchOrderEnd_sheetKept {u : Fin 16} {k : OrderKind} {e : OrderEnd} {own : Bool} (h : SheetKept s) :
    SheetKept (dispatchOrderEnd u k e own s) := by
  unfold dispatchOrderEnd
  refine ite_kept (P := SheetKept) h (ite_kept (P := SheetKept) (h.frame (by simp)) ?_)
  split
  · exact h.frame (by simp)
  · exact h.frame (by simp)
  · exact crankEnds_sheetKept ..
  · exact closeEnds_sheetKept ..
  · exact unloadEnds_sheetKept ..
  · exact openEnds_sheetKept ..
  · exact stopEnds_sheetKept ..
  · exact h.frame (by simp)

theorem recallUnit_sheetKept (u : Fin 16) (s : State) : SheetKept (recallUnit u s) := changeState_sheetKept ..

theorem dispatchEval_sheetKept (h : SheetKept s) : SheetKept (dispatchEval s) := by
  have settled : SheetKept (forUnits settleUnloaded (forUnits settleOwed s)) :=
    forUnits_kept (P := SheetKept) (fun _ _ ht => ht.frame (by simp)) (forUnits_kept (P := SheetKept) (fun _ _ ht => ht.frame (by simp)) h)
  exact ite_kept (P := SheetKept) settled (foldl_kept (P := SheetKept) (fun _ _ ht => startFrom_sheetKept ht) _
    (forUnits_kept (P := SheetKept) (fun _ _ ht => ite_kept (P := SheetKept) (recallUnit_sheetKept ..) ht) settled))

theorem dispatchTimerExpires_sheetKept (h : SheetKept s) : SheetKept (dispatchTimerExpires s) :=
  ite_kept (P := SheetKept) (dispatchEval_sheetKept (h.frame rfl)) h

theorem wantTest_sheetKept {u : Fin 16} (h : SheetKept s) : SheetKept (wantTest u s) :=
  ite_kept (P := SheetKept) (startFrom_sheetKept h) h

theorem startAsk_sheetKept {u : Fin 16} (h : SheetKept s) : SheetKept (startAsk u s) := by
  unfold startAsk
  simp only
  split
  · exact h.frame (by simp)
  · exact h.frame (by simp)
  · exact (recallUnit_sheetKept u s).frame (by simp)
  · exact startFrom_sheetKept (h.frame (by simp))
  · exact startFrom_sheetKept (h.frame (by simp))
  · exact h.frame (by simp)

theorem withdrawWant_sheetKept {u : Fin 16} (h : SheetKept s) : SheetKept (withdrawWant u s) := by
  unfold withdrawWant
  refine ite_kept (P := SheetKept) h (ite_kept (P := SheetKept) (h.frame (by simp)) ?_)
  simp only
  split
  · exact changeState_sheetKept ..
  · exact changeState_sheetKept ..
  · exact ite_kept (P := SheetKept) (h.frame (by simp)) (changeState_sheetKept ..)
  · exact h.frame (by simp)

/-! ## Shedding, the banks and the Sequencer -/

theorem restoreCloseEnd_sheetKept {f : Fin 32} {e : OrderEnd} (h : SheetKept s) : SheetKept (restoreCloseEnd f e s) := by
  unfold restoreCloseEnd
  refine ite_kept (P := SheetKept) h ?_
  simp only
  split
  · exact (((h.modShed _).modShed _).removeEntry f).log _ _ _ _
  iterate 3 exact (recompute_sheetKept _).post _
  all_goals exact (h.modShed _).post _

theorem selectBank_sheetKept {b : Fin 4} {c : SwitchCause} (h : SheetKept s) : SheetKept (selectBank b c s) :=
  have switched : SheetKept (bankSwitched ({ s with activeBank := b }.log .bankSwitch (bankSubject b) s.activeBank.val c.detail)) :=
    (recompute_sheetKept ({ s with activeBank := b }.log .bankSwitch (bankSubject b) s.activeBank.val c.detail)).frame
      (by simp [bankSwitched])
  ite_kept (P := SheetKept) h switched

theorem abortRun_sheetKept (c : AbortCause) (s : State) : SheetKept (abortRun c s) :=
  (((recompute_sheetKept _).modShed _).log _ _ _ _).post _

theorem pushRecord_sheetKept {c : SuspendCause} (h : SheetKept s) : SheetKept (pushRecord c s) :=
  ite_kept (P := SheetKept) (abortRun_sheetKept ..) ((h.modSeq _).log _ _ _ _)

theorem stepFailed_sheetKept (h : SheetKept s) : SheetKept (stepFailed s) := by
  unfold stepFailed
  split
  · exact abortRun_sheetKept ..
  · exact h.frame (by simp)
  · exact pushRecord_sheetKept h

theorem endStep_sheetKept {e : StepEnd} (h : SheetKept s) : SheetKept (endStep e s) :=
  have closed : SheetKept (closeStep e s) := h.frame (by simp)
  ite_kept (P := SheetKept) (closed.frame (by simp)) (stepFailed_sheetKept closed)

theorem stepBecomes_sheetKept {e : StepEnd} (h : SheetKept s) : SheetKept (stepBecomes e s) := by
  unfold stepBecomes
  refine ite_kept (P := SheetKept) h ?_
  split
  · exact endStep_sheetKept h
  · exact endStep_sheetKept h
  · exact ite_kept (P := SheetKept) h (h.modSeq _)
  · exact h

theorem continueStep_sheetKept {x : Timer} (h : SheetKept s) : SheetKept (continueStep x s) := by
  have out : SheetKept (s.modSeq fun q => { q with state := s.stepRec.kind.runState, stepTimeout := x }) := h.modSeq _
  unfold continueStep
  refine ite_kept (P := SheetKept) (out.frame (by simp)) ?_
  split
  · exact endStep_sheetKept out
  · split
    · exact ite_kept (P := SheetKept) (endStep_sheetKept out) out
    · exact ite_kept (P := SheetKept) (endStep_sheetKept out) out
    · exact out

theorem popRecords_sheetKept {n : Nat} (h : SheetKept s) : SheetKept (popRecords n s) := by
  induction n generalizing s with
  | zero => exact h
  | succ n ih =>
    unfold popRecords
    split
    · exact h
    · have selected := fun {b f k x v d} => selectBank_sheetKept (b := b) (c := .pop) (s := (s.modSeq f).log k x v d)
        ((h.modSeq f).log k x v d)
      simp only
      split
      · exact continueStep_sheetKept selected
      · exact ite_kept (P := SheetKept) (ih selected) selected

theorem popTop_sheetKept (h : SheetKept s) : SheetKept (popTop s) := popRecords_sheetKept h

theorem popProtection_sheetKept (h : SheetKept s) : SheetKept (popProtection s) := by
  unfold popProtection
  split <;> [exact ite_kept (P := SheetKept) (popTop_sheetKept h) h; exact h]

theorem suspendRun_sheetKept {c : SuspendCause} (h : SheetKept s) : SheetKept (suspendRun c s) :=
  have pushed := pushRecord_sheetKept (c := c) h
  ite_kept (P := SheetKept) (ite_kept (P := SheetKept) (popProtection_sheetKept pushed) pushed) h

theorem SheetKept.submitted {o : Order} {out : State} {a : SubmitAnswer} (h : SheetKept s) (e : submitRoutine o s = (out, a)) :
    SheetKept out := h.frame (by rw [submitRoutine_out_given e, submitRoutine_out_standing e])

theorem submitStep_sheetKept {l : List Order} (h : SheetKept s) : SheetKept (submitStep l s) := by
  induction l generalizing s with
  | nil => exact h
  | cons o rest ih =>
    unfold submitStep
    split <;> rename_i e
    · exact stepBecomes_sheetKept (h.submitted e)
    · exact ih ((h.submitted e).modSeq _)

theorem beginOpenFeeders_sheetKept (h : SheetKept s) : SheetKept (beginOpenFeeders s) := by
  unfold beginOpenFeeders
  split <;> [exact stepBecomes_sheetKept h; exact submitStep_sheetKept h]

theorem beginStartGenset_sheetKept {n : Nat} (h : SheetKept s) : SheetKept (beginStartGenset n s) := by
  unfold beginStartGenset
  split
  · exact ite_kept (P := SheetKept) (h.frame (by simp)) (stepBecomes_sheetKept h)
  · exact stepBecomes_sheetKept h

theorem skipOwner_sheetKept {f : Fin 32} (h : SheetKept s) : SheetKept (skipOwner f s) := stepBecomes_sheetKept (h.frame (by simp))

theorem beginCloseFeeder_sheetKept {n : Nat} (h : SheetKept s) : SheetKept (beginCloseFeeder n s) := by
  unfold beginCloseFeeder
  split
  · exact ite_kept (P := SheetKept) (skipOwner_sheetKept h) (submitStep_sheetKept h)
  · exact h

theorem beginWaitTime_sheetKept {n : Nat} (h : SheetKept s) : SheetKept (beginWaitTime n s) :=
  ite_kept (P := SheetKept) (stepBecomes_sheetKept h) (h.modSeq _)

theorem beginReleasePv_sheetKept (h : SheetKept s) : SheetKept (beginReleasePv s) :=
  stepBecomes_sheetKept (ite_kept (P := SheetKept) h ((h.modSeq _).post _))

theorem actStep_sheetKept {r : StepRec} (h : SheetKept s) : SheetKept (actStep r s) := by
  unfold actStep
  split
  · exact beginOpenFeeders_sheetKept h
  · exact beginStartGenset_sheetKept h
  · exact beginCloseFeeder_sheetKept h
  · exact beginWaitTime_sheetKept h
  · exact ite_kept (P := SheetKept) (stepBecomes_sheetKept h) h
  · exact stepBecomes_sheetKept h
  · split <;> [exact stepBecomes_sheetKept (selectBank_sheetKept h); exact h]
  · exact beginReleasePv_sheetKept h
  · exact h.frame (by simp)

theorem completeRun_sheetKept (h : SheetKept s) : SheetKept (completeRun s) := h.frame (by simp)

theorem beginStep_sheetKept {n : Nat} (h : SheetKept s) : SheetKept (beginStep n s) := by
  unfold beginStep
  refine ite_kept (P := SheetKept) h ?_
  split
  · exact completeRun_sheetKept (h.modSeq _)
  · exact ite_kept (P := SheetKept) (h.modSeq _) (actStep_sheetKept (h.modSeq _))

theorem openFeedersTold_sheetKept {f : Fin 32} {e : OrderEnd} (h : SheetKept s) : SheetKept (openFeedersTold f e s) :=
  ite_kept (P := SheetKept) (stepBecomes_sheetKept h) (ite_kept (P := SheetKept) (stepBecomes_sheetKept h) h)

theorem closeFeederTold_sheetKept {f : Fin 32} {e : OrderEnd} (h : SheetKept s) : SheetKept (closeFeederTold f e s) := by
  unfold closeFeederTold
  split
  · exact h.modShed _
  · exact ite_kept (P := SheetKept) (skipOwner_sheetKept h) (stepBecomes_sheetKept h)
  · exact ite_kept (P := SheetKept) (skipOwner_sheetKept h) (stepBecomes_sheetKept h)
  · exact stepBecomes_sheetKept h

theorem seqOrderEnd_sheetKept {o : Order} {e : OrderEnd} (h : SheetKept s) : SheetKept (seqOrderEnd o e s) := by
  unfold seqOrderEnd
  split
  · exact h
  · refine ite_kept (P := SheetKept) h ?_
    simp only
    split
    · exact openFeedersTold_sheetKept (h.modSeq _)
    · exact closeFeederTold_sheetKept (h.modSeq _)
    · exact h.modSeq _

theorem startAnswer_sheetKept {u : Fin 16} {b : Bool} (h : SheetKept s) : SheetKept (startAnswer u b s) :=
  ite_kept (P := SheetKept) (stepBecomes_sheetKept h) h

theorem barrierEnd_sheetKept {f : Fin 32} (h : SheetKept s) : SheetKept (barrierEnd f s) :=
  ite_kept (P := SheetKept) (stepBecomes_sheetKept h) h

theorem waitFreqTest_sheetKept (h : SheetKept s) : SheetKept (waitFreqTest s) :=
  ite_kept (P := SheetKept) (stepBecomes_sheetKept h) h

theorem waitTimeExpires_sheetKept (h : SheetKept s) : SheetKept (waitTimeExpires s) :=
  ite_kept (P := SheetKept) (stepBecomes_sheetKept h) h

theorem stepTimeoutExpires_sheetKept (h : SheetKept s) : SheetKept (stepTimeoutExpires s) :=
  ite_kept (P := SheetKept) (stepBecomes_sheetKept h) h

/-! ## Hand-overs -/

theorem shedSample_sheetKept {f : Nat} (h : SheetKept s) : SheetKept (shedSample f s) := h.frame (by simp)

theorem ownerTold_sheetKept {o : Order} {e : OrderEnd} {own : Bool} (h : SheetKept s) : SheetKept (ownerTold o e own s) := by
  unfold ownerTold
  split
  · exact h.frame (by simp)
  · exact h.frame (by simp)
  · exact restoreCloseEnd_sheetKept h
  · exact dispatchOrderEnd_sheetKept h
  · exact h.frame (by simp)
  · exact seqOrderEnd_sheetKept h
  · exact h

/-- R29: every hand-over leaves the sheet the one its records give. -/
theorem handle_sheetKept (x : Handover) (h : SheetKept s) : SheetKept (handle x s) := by
  cases x with
  | freqChange => exact (waitFreqTest_sheetKept (s := shedFreqChange s) (h.frame (by simp))).post _
  | sample f => exact (shedSample_sheetKept (formRocof_sheetKept h)).post _
  | sampleJobs f => exact (waitFreqTest_sheetKept h).post _
  | gensetReport u => exact gensetReport_sheetKept h
  | orderEnd o e own => exact ownerTold_sheetKept h
  | grant u => exact takeGrant_sheetKept h
  | dispatchEval => exact dispatchEval_sheetKept h
  | wantTest u => exact wantTest_sheetKept h
  | stateTimerEnd u => exact stateTimerExpires_sheetKept h
  | stopTimerEnd => exact stopTimerExpires_sheetKept h
  | startAsk u => exact startAsk_sheetKept h
  | startAnswer u b => exact startAnswer_sheetKept h
  | shedTaken => exact suspendRun_sheetKept h
  | permissionGrant => exact popProtection_sheetKept h
  | barrierEnd f => exact barrierEnd_sheetKept h
  | stepBegin n => exact beginStep_sheetKept h
  | _ => exact h.frame (by simp [handle])

/-- R29: the whole cascade of a command leaves the sheet the one its records give. -/
theorem settle_sheetKept (h : SheetKept s) : SheetKept (settle s) :=
  settle_keeps (P := SheetKept) (fun _ ht => ht.frame rfl) (fun _ ht => ht.frame rfl) (fun x _ => handle_sheetKept x) h

theorem run_sheetKept {event : State → State} (he : ∀ x, SheetKept x → SheetKept (event x)) (e : run event s = .next t)
    (h : SheetKept s) : SheetKept t :=
  run_keeps (P := SheetKept) (fun _ hx => hx.frame rfl) (fun _ hx => hx.frame rfl) (fun x _ => handle_sheetKept x) he h e

theorem runWhenUp_sheetKept {event : State → State} (he : ∀ x, SheetKept x → SheetKept (event x)) (e : runWhenUp event s = .next t)
    (h : SheetKept s) : SheetKept t := run_sheetKept (fun x hx => ite_kept (P := SheetKept) (he x hx) hx) e h

end Sys2Proof.Machine
end

section
/-!
SUPPORT. The invariant of R29 through the commands: what Sample Intake, the Management Agent, the pins and a millisecond do themselves,
and the step lemma.
-/

namespace Sys2Proof.Machine

variable {s t : State}

/-! ## Pins, ports and time -/

theorem sumOver_replicate {α : Type} {n : Nat} {x : α} {counts : α → Bool} {q : α → Int} (h : counts x = false ∨ q x = 0) :
    sumOver (Vector.replicate n x).toList counts q = 0 := by
  rw [sumOver_table]
  refine List.sum_eq_zero fun y hy => ?_
  obtain ⟨i, -, rfl⟩ := List.mem_map.mp hy
  rcases h with h | h <;> simp [h]

/-- R191: the empty records after a cold reset give the empty sheet. -/
theorem coldStart_sheetKept (fsel : Bool) (sid : BitVec 4) (l : List Instr) : SheetKept (State.coldStart fsel sid l) := by
  have units : ∀ {counts : UnitRec → Bool} {q : UnitRec → Int}, counts {} = false ∨ q {} = 0 →
      sumOver (State.coldStart fsel sid l).units.toList counts q = 0 := sumOver_replicate
  have feeders : ∀ {counts : FeederRec → Bool} {q : FeederRec → Int}, counts {} = false ∨ q {} = 0 →
      sumOver (State.coldStart fsel sid l).feeders.toList counts q = 0 := sumOver_replicate
  unfold SheetKept computeSheet
  simp only
  rw [feeders (.inl rfl), units (.inl rfl), units (.inl rfl), units (.inl rfl), units (.inl rfl), units (.inl rfl), units (.inl rfl),
    units (.inl rfl), units (.inl rfl)]
  have bank : (State.coldStart fsel sid l).bank = defaultBank fsel := Vector.getElem_replicate _
  rw [bank]
  cases fsel <;> rfl

theorem testRecordHigh_sheetKept (h : SheetKept s) : SheetKept s.testRecordHigh := h

theorem warmReset_sheetKept (d : Nat) (m : StationId) (s : State) : SheetKept (warmReset d m s) :=
  testRecordHigh_sheetKept (recompute_sheetKept _)

theorem modPort_sheetKept {p : Port} {f : PortState → PortState} (h : SheetKept s) : SheetKept (s.modPort p f) := by
  cases p <;> exact h

theorem readLink_sheetKept {p : Port} {up : Bool} (h : SheetKept s) : SheetKept (readLink p up s) :=
  ite_kept (P := SheetKept) h (ite_kept (P := SheetKept) ((modPort_sheetKept h).log _ _ _ _) ((modPort_sheetKept h).log _ _ _ _))

/-- R29: a millisecond moves timers alone. -/
theorem tick_sheetKept (h : SheetKept s) : SheetKept (tick s) := by
  unfold tick
  split
  · exact h
  · exact h
  · refine h.congr rfl rfl (fun u => ?_) fun k => ?_
    · exact (congrArg UnitRec.terms (mapTable_get UnitRec.tick s.units u)).trans rfl
    · exact (congrArg FeederRec.terms (mapTable_get FeederRec.tick s.feeders k)).trans rfl

theorem SheetKept.formTelegram (h : SheetKept s) (k : Nat) (d : StationId) (b : Octets) : SheetKept (formTelegram k d b s) := h

/-! ## Sample Intake -/

theorem SheetKept.modSource (h : SheetKept s) (i : Fin 64) (f : SourceEntry → SourceEntry) : SheetKept (s.modSource i f) := h

theorem makeFresh_sheetKept {i : Fin 64} {x : Timer} (h : SheetKept s) : SheetKept (makeFresh i x s) :=
  ite_kept (P := SheetKept) (h.modSource _ _) ((h.modSource _ _).log _ _ _ _)

theorem takeSample_sheetKept {f : Option Nat} {x : PartTime} (h : SheetKept s) : SheetKept (takeSample f x s) := by
  cases f with
  | none => exact h
  | some f => exact (h.withFreq s.freqSource (appendSample ⟨f, x⟩ s.history) (some f) s.sheet.rocof).post _

/-- R29: an accepted report for a unit or feeder has the sheet formed; one of another entry writes no record. -/
theorem acceptSample_sheetKept {i : Fin 64} {r : SampleReport} (h : SheetKept s) : SheetKept (acceptSample i r s) := by
  have chosen : ∀ {x}, SheetKept x → SheetKept (if (!(s.sources[i]).fresh || (entryFreq s i).isNone && (entryFreq x i).isSome) = true
      then chooseSource x else x) := fun hx => ite_kept (P := SheetKept) (chooseSource_sheetKept hx) hx
  refine takeSample_sheetKept (SheetKept.post ?_ _)
  unfold recomputeFor writeItems
  simp only
  split
  · exact recompute_sheetKept _
  · exact recompute_sheetKept _
  · split
    · contradiction
    · contradiction
    · exact chosen (makeFresh_sheetKept (h.modSource _ _))
    · exact chosen (makeFresh_sheetKept (h.modSource _ _))
    · exact chosen (makeFresh_sheetKept h)

theorem takeSampleReport_sheetKept {r : SampleReport} (h : SheetKept s) : SheetKept (takeSampleReport r s) := by
  unfold takeSampleReport
  split
  · exact h
  · exact ite_kept (P := SheetKept) (ite_kept (P := SheetKept) (acceptSample_sheetKept (h.modSource _ _)) (h.modSource _ _)) h

theorem takeSetpoint_sheetKept {x : Telegram} (h : SheetKept s) : SheetKept (takeSetpoint x s) := by
  unfold takeSetpoint
  split
  · exact h
  · exact ite_kept (P := SheetKept) ((chooseSource_sheetKept (makeFresh_sheetKept (h.modSource _ _))).post _) h

theorem recomputeFor_sheetKept {r : Role} (h : SheetKept s) : SheetKept (recomputeFor r s) := by
  unfold recomputeFor
  split <;> [exact recompute_sheetKept _; exact recompute_sheetKept _; exact h]

theorem staleExpires_sheetKept {i : Fin 64} (h : SheetKept s) : SheetKept (staleExpires i s) := by
  have chosen := chooseSource_sheetKept (recomputeFor_sheetKept (r := (s.sources[i]).role)
    ((h.modSource i fun e => { e with fresh := false, staleTimer := none }).log .stale (sourceSubject i) (s.sources[i]).eventValue
      detailNone))
  exact ite_kept (P := SheetKept) h (ite_kept (P := SheetKept) (chosen.post _) chosen)

theorem writeUnitDevice_terms {r : PositionReport} {x : UnitRec} (h : x.kind ≠ .genset) : (writeUnitDevice r x).terms = x.terms := by
  simp [writeUnitDevice, UnitRec.terms, UnitRec.inOnlineSet, UnitRec.inStartingSet, UnitRec.minimumLoad, h]

theorem writeFeederDevice_terms {r : PositionReport} {x : FeederRec} (h : r.breaker.getD x.breaker = x.breaker) :
    (writeFeederDevice r x).terms = x.terms := by
  simp only [writeFeederDevice, h]
  rfl

/-- R16, R29: the breaker and engine of a genset count in the sheet, those of a plant or a store do not. -/
theorem acceptUnitReport_sheetKept {u : Fin 16} {r : PositionReport} (h : SheetKept s) : SheetKept (acceptUnitReport u r s) := by
  unfold acceptUnitReport
  simp only
  refine SheetKept.post ?_ _
  split
  · exact recompute_sheetKept _
  · rename_i kind
    refine h.congr rfl rfl (fun v => ?_) fun _ => rfl
    rw [modUnit_units, Fin.getElem_fin, modifyAt_get]
    split
    · rename_i hv
      subst hv
      exact writeUnitDevice_terms kind
    · rfl

/-- R16, R29: of a feeder's device state the breaker alone counts. -/
theorem acceptFeederReport_sheetKept {f : Fin 32} {r : PositionReport} (h : SheetKept s) : SheetKept (acceptFeederReport f r s) := by
  unfold acceptFeederReport
  simp only
  refine SheetKept.post ?_ _
  split
  · exact recompute_sheetKept _
  · rename_i same
    have breaker : r.breaker.getD (s.feeders[f]).breaker = (s.feeders[f]).breaker := by
      cases hb : r.breaker with
      | none => rfl
      | some b => simpa [hb] using same
    refine h.congr rfl rfl (fun _ => rfl) fun k => ?_
    rw [modFeeder_feeders, Fin.getElem_fin, modifyAt_get]
    split
    · rename_i hk
      subst hk
      exact writeFeederDevice_terms breaker
    · rfl

theorem takePositionReport_sheetKept {r : PositionReport} (h : SheetKept s) : SheetKept (takePositionReport r s) := by
  unfold takePositionReport
  split
  · exact h
  · exact ite_kept (P := SheetKept) (acceptUnitReport_sheetKept h) h
  · exact ite_kept (P := SheetKept) (acceptFeederReport_sheetKept h) h

/-! ## The tables -/

theorem replaceSource_sheetKept (i : Fin 64) (e : SourceEntry) (b : StationId) (s : State) : SheetKept (replaceSource i e b s) :=
  ite_kept (P := SheetKept) ((chooseSource_sheetKept (recompute_sheetKept _)).post _) (chooseSource_sheetKept (recompute_sheetKept _))

theorem withdrawLimits_sheetKept {u : Fin 16} (h : SheetKept s) : SheetKept (withdrawLimits u s) := h.frame (by simp)

theorem plantQueue_sheetKept {u : Fin 16} {old : UnitRec} (h : SheetKept s) : SheetKept (plantQueue u old s) := by
  have lowered := ite_kept (P := SheetKept) (c := (s.units[u]).rated < old.rated) (a := lowerQueued u s) (h.frame (by simp)) h
  exact ite_kept (P := SheetKept) h (withdrawLimits_sheetKept lowered)

theorem replaceUnit_sheetKept (u : Fin 16) (k : UnitKind) (o : Octets) (b : StationId) (s : State) :
    SheetKept (replaceUnit u k o b s) := by
  have chosen := chooseSource_sheetKept (recompute_sheetKept (unitFreed u k o b s))
  rw [replaceUnit_eq]
  have queued := plantQueue_sheetKept (u := u) (old := s.units[u])
    (ite_kept (P := SheetKept) (c := k = .genset) (gensetMode_sheetKept (u := u) chosen) chosen)
  exact ite_kept (P := SheetKept) (queued.post _) queued

theorem replaceFeeder_sheetKept (f : Fin 32) (used : Bool) (o : Octets) (b : StationId) (s : State) :
    SheetKept (replaceFeeder f used o b s) := by
  have mode : ∀ x, SheetKept (feederMode f (recompute x)) := fun x => (recompute_sheetKept x).frame (by simp)
  exact ite_kept (P := SheetKept) (recompute_sheetKept _) (mode _)

theorem replaceSettings_sheetKept {x : Settings} {b : StationId} (h : SheetKept s) : SheetKept (replaceSettings x b s) := by
  rw [replaceSettings_frame]
  exact h

theorem replaceManager_sheetKept {k : Fin 4} {id b : StationId} (h : SheetKept s) : SheetKept (replaceManager k id b s) :=
  ite_kept (P := SheetKept) h h

theorem taken_sheetKept {checks : List (Bool × Status)} {act : State → State}
    (ha : firstFailure checks = .ok → SheetKept (act s)) (h : SheetKept s) : SheetKept (taken checks act s).1 := by
  unfold taken
  split
  · rename_i ok
    exact ha ok
  · exact h

/-- R44: a bank write that is taken is of a bank that is not active. -/
theorem writeBankEntry_sheetKept {i : Nat} {o : Octets} {b : StationId} (h : SheetKept s) : SheetKept (writeBankEntry i o b s).1 := by
  unfold writeBankEntry
  split
  · exact h
  · rename_i k _
    refine taken_sheetKept (fun ok => ?_) h
    have other : k ≠ s.activeBank := by simpa using ((firstFailure_cons (by decide)).mp ok).1
    refine h.congr rfl ?_ (fun _ => rfl) fun _ => rfl
    exact Vector.getElem_set_ne k.isLt s.activeBank.isLt fun he => other (Fin.ext he)

/-- R29: a WRITE_ENTRY leaves the sheet formed, whatever the table. -/
theorem writeEntry_sheetKept {x : TableId} {i : Nat} {o : Octets} {b : StationId} (h : SheetKept s) :
    SheetKept (writeEntry x i o b s).1 := by
  unfold writeEntry
  split
  · unfold writeSourceEntry
    split
    · exact h
    · split
      · exact replaceSource_sheetKept ..
      · split <;> [exact h; exact taken_sheetKept (fun _ => replaceSource_sheetKept ..) h]
  · unfold writeUnitEntry
    split <;> [exact h; split <;> [exact h; exact taken_sheetKept (fun _ => replaceUnit_sheetKept ..) h]]
  · unfold writeFeederEntry
    split <;> [exact h; exact taken_sheetKept (fun _ => replaceFeeder_sheetKept ..) h]
  · unfold writeProfileEntry
    split <;> [exact h; exact taken_sheetKept (fun _ => h) h]
  · unfold writeShedEntry
    split <;> [exact h; exact taken_sheetKept (fun _ => h) h]
  · unfold writeProgramEntry
    split <;> [exact h; split <;> [exact taken_sheetKept (fun _ => h) h; exact h]]
  · exact writeBankEntry_sheetKept h
  · unfold writeSettingsEntry
    split <;> [exact h; exact taken_sheetKept (fun _ => replaceSettings_sheetKept h) h]
  · unfold writeManagersEntry
    split <;> [exact h; exact taken_sheetKept (fun _ => replaceManager_sheetKept h) h]

/-! ## The Management Agent -/

theorem admitRequest_sheetKept {r : Request} {out : State} (e : admitRequest r s = some out) (h : SheetKept s) : SheetKept out := by
  rw [admitRequest_frame e]
  exact h

theorem withdrawOperator_sheetKept {x : Target} {m : Mode} (h : SheetKept s) : SheetKept (withdrawOperator x m s) :=
  ite_kept (P := SheetKept) (h.frame (by simp)) h

theorem setUnitMode_sheetKept (u : Fin 16) (m : Mode) (s : State) : SheetKept (setUnitMode u m s) := by
  have freed := withdrawOperator_sheetKept (x := .unit u) (m := m) (recompute_sheetKept (s.modUnit u fun r => { r with mode := m }))
  unfold setUnitMode
  simp only
  split
  · exact gensetMode_sheetKept (ite_kept (P := SheetKept) (freed.frame (by simp)) freed)
  · exact freed.frame (by simp)
  · exact freed

theorem feederMode_sheetKept {f : Fin 32} (h : SheetKept s) : SheetKept (feederMode f s) := h.frame (by simp)

theorem setFeederMode_sheetKept (f : Fin 32) (m : Mode) (s : State) : SheetKept (setFeederMode f m s) :=
  feederMode_sheetKept (withdrawOperator_sheetKept (recompute_sheetKept _))

theorem operateRecord_sheetKept {x : Target} {k : Option OrderKind} {v : Int} (h : SheetKept s) :
    SheetKept (operateRecord x k v s).state := by
  have submits : ∀ {k}, SheetKept (operateSubmit x k v s).state := by
    intro k
    unfold operateSubmit
    simp only
    split <;> rename_i e
    · exact h
    · exact h.submitted e
  unfold operateRecord
  split_ifs
  · exact h
  · split
    · exact h
    · split_ifs
      · exact h
      · exact h
      · split
        · unfold operateCrank
          split_ifs <;> [exact h; exact h; exact h.post _]
        · exact submits

theorem serveSetMode_sheetKept {r : Request} (h : SheetKept s) : SheetKept (serveSetMode r s).state := by
  unfold serveSetMode
  split
  · exact h
  · split_ifs
    · exact h
    · split <;> exact h
    · split
      · exact h
      · split <;> [exact setUnitMode_sheetKept ..; exact setFeederMode_sheetKept ..]

theorem serveOperate_sheetKept {r : Request} (h : SheetKept s) : SheetKept (serveOperate r s).state := by
  unfold serveOperate
  split
  · exact h
  · split_ifs <;> [exact h; exact operateRecord_sheetKept h]

theorem serveResume_sheetKept (h : SheetKept s) : SheetKept (serveResume s).state := by
  unfold serveResume
  split_ifs
  · exact h
  · split
    · split_ifs <;> [exact popTop_sheetKept h; exact h]
    · exact h

theorem startRun_sheetKept {c : RunCause} (h : SheetKept s) : SheetKept (startRun c s) := h.frame (by simp)

theorem serveReadEvents_sheetKept {r : Request} (h : SheetKept s) : SheetKept (serveReadEvents r s).state := h

theorem serveBy_sheetKept {k : RequestKind} {r : Request} (h : SheetKept s) : SheetKept (serveBy k r s).state := by
  cases k with
  | readEntry =>
    simp only [serveBy, serveReadEntry]
    split <;> [exact h; split <;> exact h]
  | writeEntry =>
    simp only [serveBy, serveWriteEntry]
    split <;> [exact h; (split_ifs <;> [exact h; exact writeEntry_sheetKept h])]
  | readSheet => exact h
  | readEvents => exact serveReadEvents_sheetKept h
  | rewindEvents => exact h
  | selectBank =>
    simp only [serveBy, serveSelectBank]
    split <;> [exact h; exact selectBank_sheetKept h]
  | setMode => exact serveSetMode_sheetKept h
  | operate => exact serveOperate_sheetKept h
  | clearLockout =>
    simp only [serveBy, serveClearLockout]
    split <;> [exact h; (split_ifs <;> [exact clearLockout_sheetKept ..; exact h])]
  | arm =>
    simp only [serveBy, serveArm]
    split_ifs <;> [exact h; exact h.modSeq _]
  | disarm =>
    simp only [serveBy, serveArm]
    split_ifs <;> [exact h; exact h.modSeq _]
  | beginRestore =>
    simp only [serveBy, serveBeginRestore]
    split_ifs <;> [exact h; exact startRun_sheetKept h]
  | hold =>
    simp only [serveBy, serveHold]
    split_ifs <;> [exact suspendRun_sheetKept h; exact h]
  | resume => exact serveResume_sheetKept h
  | warmReset => exact h

theorem serve_sheetKept {r : Request} (h : SheetKept s) : SheetKept (serve r s).state := by
  cases hk : ofCodeFromOne requestKindsFromOne r.kind with
  | none =>
    unfold serve
    rw [hk]
    exact h
  | some k =>
    rw [serve_kind hk]
    exact serveBy_sheetKept h

theorem takeAfter_sheetKept {a : AfterEffect} {m : StationId} (h : SheetKept s) : SheetKept (takeAfter a m s) := by
  cases a with
  | nothing => exact h
  | identity i x => exact ite_kept (P := SheetKept) h h
  | warmReset => exact warmReset_sheetKept ..

theorem takeRequest_sheetKept {r : Request} (h : SheetKept s) : SheetKept (takeRequest r s) := by
  unfold takeRequest
  split
  · exact h
  · rename_i e
    exact takeAfter_sheetKept ((settle_sheetKept (serve_sheetKept (admitRequest_sheetKept e h))).formTelegram _ _ _)

/-! ## Timers -/

theorem curtailEval_sheetKept (h : SheetKept s) : SheetKept (curtailEval s) := h.frame (by simp)

theorem curtailTimerExpires_sheetKept (h : SheetKept s) : SheetKept (curtailTimerExpires s) :=
  ite_kept (P := SheetKept) (curtailEval_sheetKept (s := { s with curtailTimer := curtailInterval s }) h) h

theorem beaconExpires_sheetKept (h : SheetKept s) : SheetKept (beaconExpires s) :=
  ite_kept (P := SheetKept) (SheetKept.formTelegram (s := { s with beaconTimer := timeOrSecond s.settings.beacon }) h _ _ _) h

theorem forgetRetired_sheetKept (h : SheetKept s) : SheetKept (forgetRetired s) := ite_kept (P := SheetKept) h h

/-! ## Steps -/

theorem takeIn_sheetKept {x : Telegram} (h : SheetKept s) : SheetKept (takeIn x s) :=
  ite_kept (P := SheetKept) (takeSampleReport_sheetKept h) (ite_kept (P := SheetKept) (takePositionReport_sheetKept h)
    (ite_kept (P := SheetKept) (takeSetpoint_sheetKept h) (ite_kept (P := SheetKept) (takeRequest_sheetKept h) h)))

theorem receive_sheetKept {p : Port} {f : Frame} (h : SheetKept s) : SheetKept (receive p f s) := by
  have passed : SheetKept (forward p f s) := modPort_sheetKept h
  unfold receive
  refine ite_kept (P := SheetKept) h (ite_kept (P := SheetKept) passed ?_)
  split
  · exact modPort_sheetKept (modPort_sheetKept h)
  · rename_i x _
    have reached := ite_kept (P := SheetKept) (c := x.dest = s.ownId) h passed
    exact ite_kept (P := SheetKept) (takeIn_sheetKept reached) reached

/-- R29: every command leaves the sheet the one its records give. -/
theorem exec_sheetKept {c : Instr} (e : exec c s = .next t) (h : SheetKept s) : SheetKept t := by
  cases ha : c.arrival with
  | some a =>
    rw [exec_arrival (p := a.1) (f := a.2) ha] at e
    exact run_sheetKept (fun _ => receive_sheetKept) e h
  | none =>
    cases c with
    | coldResetAssert => exact run_sheetKept (event := holdCold) (fun _ hx => hx) e h
    | coldResetRelease fsel sid =>
      exact run_sheetKept (fun x hx => ite_kept (P := SheetKept) (coldStart_sheetKept fsel sid x.pending) hx) e h
    | warmResetPinAssert =>
      exact run_sheetKept (fun x hx => ite_kept (P := SheetKept) (a := { x with phase := .warmHeld }) hx hx) e h
    | warmResetPinRelease => exact run_sheetKept (fun x hx => ite_kept (P := SheetKept) (warmReset_sheetKept detailPin 0 x) hx) e h
    | linkStatusRead upA upB =>
      exact run_sheetKept (fun _ hx => ite_kept (P := SheetKept) hx (readLink_sheetKept (readLink_sheetKept hx))) e h
    | badFcsFrame p f => exact run_sheetKept (fun _ hx => hx) e h
    | frameTransmit p => exact run_sheetKept (fun _ hx => ite_kept (P := SheetKept) hx (modPort_sheetKept hx)) e h
    | staleTimerExpiry i => exact runWhenUp_sheetKept (fun _ => staleExpires_sheetKept) e h
    | dispatchTimerExpiry => exact runWhenUp_sheetKept (fun _ => dispatchTimerExpires_sheetKept) e h
    | crankRestExpiry u => exact runWhenUp_sheetKept (fun _ => stateTimerExpires_sheetKept) e h
    | warmUpExpiry u => exact runWhenUp_sheetKept (fun _ => stateTimerExpires_sheetKept) e h
    | cooldownExpiry u => exact runWhenUp_sheetKept (fun _ => stateTimerExpires_sheetKept) e h
    | stopTimerExpiry => exact runWhenUp_sheetKept (fun _ => stopTimerExpires_sheetKept) e h
    | waitTimeExpiry => exact runWhenUp_sheetKept (fun _ => waitTimeExpires_sheetKept) e h
    | stepTimeoutExpiry => exact runWhenUp_sheetKept (fun _ => stepTimeoutExpires_sheetKept) e h
    | deadlineExpiry g => exact runWhenUp_sheetKept (fun _ hx => hx.frame (by simp)) e h
    | inhibitTimerExpiry g => exact runWhenUp_sheetKept (fun _ hx => hx.frame (by simp)) e h
    | cycleTimerExpiry x => exact runWhenUp_sheetKept (fun _ hx => hx.frame (by simp)) e h
    | holdOffExpiry x => exact runWhenUp_sheetKept (fun _ hx => hx.frame (by simp)) e h
    | airHoldOffExpiry => exact runWhenUp_sheetKept (fun _ hx => hx.frame (by simp)) e h
    | curtailTimerExpiry => exact runWhenUp_sheetKept (fun _ => curtailTimerExpires_sheetKept) e h
    | mirrorExpiry u => exact runWhenUp_sheetKept (fun _ hx => hx.frame (by simp)) e h
    | stageTimerExpiry i => exact runWhenUp_sheetKept (fun _ hx => hx.frame (by simp)) e h
    | restoreDelayExpiry => exact runWhenUp_sheetKept (fun _ hx => hx.frame (by simp)) e h
    | stepIntervalExpiry => exact runWhenUp_sheetKept (fun _ hx => hx.frame (by simp)) e h
    | deadBusTimerExpiry => exact runWhenUp_sheetKept (fun _ hx => hx.frame (by simp)) e h
    | beaconTimerExpiry => exact runWhenUp_sheetKept (fun _ => beaconExpires_sheetKept) e h
    | retiredIdentityExpiry => exact run_sheetKept (fun _ hx => ite_kept (P := SheetKept) hx (forgetRetired_sheetKept hx)) e h
    | _ => cases ha

/-- Settles O59: a millisecond moves timers alone, and every command leaves the sheet the one its records give. -/
theorem stepKeepsSheet : Obligations.StepKeepsSheet := by
  unfold Obligations.StepKeepsSheet
  intro s t h e
  unfold step at e
  split at e
  · cases e
    exact tick_sheetKept h
  · rename_i c rest _
    exact exec_sheetKept (s := { s with pending := rest }) e h

end Sys2Proof.Machine
end

section
/-!
SUPPORT. The part right after a cold reset, whatever its straps and its pending commands: every table is filled with one entry, and
every queue, stack and history is empty.
-/

namespace Sys2Proof.Machine

variable {fsel : Bool} {sid : BitVec 4} {l : List Instr}

theorem coldStart_units (u : Fin 16) : (State.coldStart fsel sid l).units[u] = {} := Vector.getElem_replicate _
theorem coldStart_feeders (k : Fin 32) : (State.coldStart fsel sid l).feeders[k] = {} := Vector.getElem_replicate _
theorem coldStart_banks (b : Fin 4) : (State.coldStart fsel sid l).banks[b] = defaultBank fsel := Vector.getElem_replicate _
theorem coldStart_profiles (i : Fin 16) : (State.coldStart fsel sid l).profiles[i] = {} := Vector.getElem_replicate _

theorem coldStart_recordKept : RecordKept (State.coldStart fsel sid l) := ⟨Nat.zero_le _, le_rfl, rfl⟩

theorem coldStart_portsKept : PortsKept (State.coldStart fsel sid l) := ⟨portKept_fresh, portKept_fresh⟩

/-- R43: the default bank of either nominal frequency is in range. -/
theorem coldStart_banksKept : BanksKept (State.coldStart fsel sid l) := fun b => by
  rw [coldStart_banks]
  cases fsel <;> decide

theorem coldStart_settingsKept : SettingsKept (State.coldStart fsel sid l) := by
  show ({} : Settings).valid = true
  decide

theorem coldStart_profilesKept : ProfilesKept (State.coldStart fsel sid l) := fun i => by
  rw [coldStart_profiles]
  decide

theorem coldStart_queueKept : QueueKept (State.coldStart fsel sid l) :=
  ⟨Nat.zero_le _, .nil, .nil, fun _ ho => absurd ho List.not_mem_nil⟩

theorem coldStart_trackerKept : TrackerKept (State.coldStart fsel sid l) :=
  ⟨Nat.zero_le _, Nat.zero_le _, .nil, fun _ hx => absurd hx List.not_mem_nil, .nil⟩

theorem coldStart_booksBalance : BooksBalance (State.coldStart fsel sid l) := ⟨rfl, rfl⟩

theorem coldStart_queueHighKept : QueueHighKept (State.coldStart fsel sid l) := rfl

theorem coldStart_limitsKept : LimitsKept (State.coldStart fsel sid l) := fun _ ho => absurd ho List.not_mem_nil

theorem coldStart_arbiterKept : ArbiterKept (State.coldStart fsel sid l) := 
  ⟨iff_of_false nofun nofun, iff_of_false nofun nofun, .nil⟩

/-- R78: no record is a genset yet. -/
theorem coldStart_lockoutKept : LockoutKept (State.coldStart fsel sid l) := fun u hk => by
  rw [coldStart_units] at hk
  contradiction

theorem coldStart_stackKept : StackKept (State.coldStart fsel sid l) := by
  refine ⟨.nil, fun k => ?_⟩
  rw [coldStart_feeders]
  exact iff_of_false (by decide) nofun

theorem coldStart_suspensionKept : SuspensionKept (State.coldStart fsel sid l) := 
  ⟨Nat.zero_le _, iff_of_false (fun h => h rfl) nofun⟩

/-- Settles O49: the cold-reset values, the straps low, meet each invariant. -/
theorem resetMeetsTheInvariants : Obligations.ResetMeetsTheInvariants :=
  ⟨rfl, coldStart_recordKept, coldStart_portsKept, Nat.zero_le _, coldStart_banksKept, coldStart_settingsKept,
    coldStart_profilesKept, coldStart_queueKept, coldStart_trackerKept, coldStart_booksBalance, coldStart_queueHighKept,
    coldStart_limitsKept, coldStart_arbiterKept, coldStart_lockoutKept, coldStart_stackKept, coldStart_suspensionKept,
    coldStart_sheetKept false 0 [], coldStart_sourceKept⟩

end Sys2Proof.Machine
end

section
/-!
SUPPORT. The quantities of the Balance Sheet (R24 to R28): the ranges that clamping gives, and the membership predicates written out.
-/

namespace Sys2Proof.Machine

theorem clampSum_mem (x : Int) : -1048575 ≤ clampSum x ∧ clampSum x ≤ 1048575 := clamp_mem _ _ x (by decide)

theorem clampSum0_mem (x : Int) : 0 ≤ clampSum0 x ∧ clampSum0 x ≤ 1048575 := clamp_mem _ _ x (by decide)

/-- R28: what is added before clamping never lowers a quantity that lies in range. -/
theorem clampSum_le_add {x y : Int} (hy : 0 ≤ y) : clampSum x ≤ clampSum (clampSum x + y) := by
  have h := clampSum_mem x
  have e : clampSum (clampSum x + y) = max (-1048575) (min 1048575 (clampSum x + y)) := rfl
  omega

theorem sumOver_nonneg {α : Type} {l : List α} {counts : α → Bool} {q : α → Int} (h : ∀ x, 0 ≤ q x) : 0 ≤ sumOver l counts q :=
  List.sum_nonneg fun _ hy => by
    obtain ⟨x, -, rfl⟩ := List.mem_map.mp hy
    exact h x

/-- A sum over the records of a table, its test written as a proposition. -/
theorem sumOver_iff {α : Type} {n : Nat} {v : Vector α n} {counts : α → Bool} {q : α → Int} {P : α → Prop} [DecidablePred P]
    (h : ∀ x, counts x = true ↔ P x) :
    sumOver v.toList counts q = ((List.finRange n).map fun i => if P v[i] then q v[i] else 0).sum := by
  rw [sumOver_table]
  refine congrArg List.sum (List.map_congr_left fun i _ => ?_)
  simp only [h]

theorem inLoad_iff (f : FeederRec) : f.inLoad = true ↔ f.used = true ∧ (f.breaker = .closed ∨ f.breaker = .unknown) := by
  simp [FeederRec.inLoad]

/-- R25: the states that Dispatch drives online count at once, those it does not drive by their last reports. -/
theorem inOnlineSet_iff (r : UnitRec) : r.inOnlineSet = true ↔ r.kind = .genset ∧
    (r.genset.state ∈ [.online, .unloading, .opening] ∨
      (r.genset.state ∈ [.unknown, .unavailable, .lockedOut] ∧ r.breaker = .closed ∧ r.engine = .firing)) := by
  unfold UnitRec.inOnlineSet
  cases r.genset.state <;> simp

theorem inStartingSet_iff (r : UnitRec) : r.inStartingSet = true ↔
    r.kind = .genset ∧ r.genset.state ∈ [.startQueued, .cranking, .crankRest, .warming, .closing] := by
  unfold UnitRec.inStartingSet
  cases r.genset.state <;> simp

theorem kind_iff (k : UnitKind) (r : UnitRec) : decide (r.kind = k) = true ↔ r.kind = k := decide_eq_true_iff

/-- Settles O15: each sum is one over the indices of its table, and every quantity is clamped last. -/
theorem sheetStaysInRange : Obligations.SheetStaysInRange := by
  unfold Obligations.SheetStaysInRange
  intro s
  refine ⟨?_, ?_, rfl, rfl, clampSum_le_add (sumOver_nonneg fun r => Int.natCast_nonneg r.rated), rfl, rfl, ?_⟩
  · simp only [List.forall_mem_cons, List.not_mem_nil, false_implies, implies_true, and_true]
    exact ⟨clampSum_mem _, clampSum_mem _, clampSum_mem _, clampSum_mem _, clampSum_mem _, clampSum_mem _, clampSum_mem _⟩
  · simp only [List.forall_mem_cons, List.not_mem_nil, false_implies, implies_true, and_true]
    exact ⟨clampSum0_mem _, clampSum0_mem _, clampSum0_mem _, clampSum0_mem _, clampSum0_mem _⟩
  · exact ⟨congrArg clampSum (sumOver_iff inLoad_iff), congrArg clampSum (sumOver_iff inOnlineSet_iff),
      congrArg clampSum0 (sumOver_iff inOnlineSet_iff), congrArg clampSum0 (sumOver_iff inOnlineSet_iff),
      congrArg clampSum (sumOver_iff (kind_iff .pv)), congrArg clampSum (sumOver_iff (kind_iff .store)),
      congrArg clampSum0 (sumOver_iff (kind_iff .store)), congrArg clampSum0 (sumOver_iff (kind_iff .store)), rfl,
      congrArg (fun x => clampSum ((computeSheet s).res + x)) (sumOver_iff inStartingSet_iff)⟩

end Sys2Proof.Machine
end

section
/-!
SUPPORT. The PV limits (R36 to R40): shares that never exceed the ceiling, the remainder told plant by plant, and the bounds of each
limit.
-/

namespace Sys2Proof.Machine

variable {s : State} {bank : Bank}

/-! ## Shares (R38) -/

/-- R38: the share of one plant among others. -/
def shareAmong (plants : List UnitRec) (c : Int) (r : UnitRec) : Int :=
  let weights := (plants.map UnitRec.weight).sum
  let rated := (plants.map fun u => (u.rated : Int)).sum
  if 0 < weights then c * r.weight / weights else c * (r.rated : Int) / rated

theorem shares_eq (plants : List UnitRec) (c : Int) : shares plants c = plants.map (shareAmong plants c) := rfl

theorem weight_nonneg (r : UnitRec) : 0 ≤ r.weight := by
  unfold UnitRec.weight
  split <;> omega

/-- Shares of an amount by weights, each rounded down, do not exceed it. -/
theorem sum_shares_le {α : Type} (l : List α) (w : α → Int) {c : Int} (hc : 0 ≤ c) (hw : ∀ x, 0 ≤ w x) :
    (l.map fun x => c * w x / (l.map w).sum).sum ≤ c := by
  have nonneg : 0 ≤ (l.map w).sum := List.sum_nonneg fun y hy => by
    obtain ⟨x, -, rfl⟩ := List.mem_map.mp hy
    exact hw x
  rcases nonneg.eq_or_lt with zero | pos
  · rw [← zero]
    simpa using hc
  · refine le_of_mul_le_mul_right ?_ pos
    calc (l.map fun x => c * w x / (l.map w).sum).sum * (l.map w).sum
        = (l.map fun x => c * w x / (l.map w).sum * (l.map w).sum).sum := (List.sum_map_mul_right ..).symm
      _ ≤ (l.map fun x => c * w x).sum := List.sum_le_sum fun x _ => Int.ediv_mul_le _ pos.ne'
      _ = c * (l.map w).sum := List.sum_map_mul_left ..

theorem shares_sum_le (plants : List UnitRec) {c : Int} (hc : 0 ≤ c) : (shares plants c).sum ≤ c := by
  rw [shares_eq]
  unfold shareAmong
  simp only
  split_ifs
  · exact sum_shares_le plants UnitRec.weight hc weight_nonneg
  · exact sum_shares_le plants (fun u => (u.rated : Int)) hc fun u => Int.natCast_nonneg u.rated

/-! ## The remainder (R39) -/

/-- R39: the remainder is handed out at most once. -/
theorem spread_sum_le (rest : Int) (l : List (UnitRec × Int)) :
    ((spread rest l).map Prod.snd).sum ≤ (l.map Prod.snd).sum + max 0 rest := by
  induction l generalizing rest with
  | nil => simp [spread]
  | cons x more ih =>
    have taken := ih (rest - 1)
    have kept := ih rest
    unfold spread
    split_ifs with h <;> simp only [List.map_cons, List.sum_cons]
    · simp only [Bool.and_eq_true, decide_eq_true_eq] at h
      omega
    · omega

/-- R39: what a plant has after the remainder: 1 kW more while fewer plants below their rating stand before it than there is to hand
out. -/
theorem spread_map (l : List (Fin 16)) (hl : l.Pairwise (· < ·)) (r : Fin 16 → UnitRec) (x : Fin 16 → Int) (rest : Int) :
    spread rest (l.map fun u => (r u, x u)) = l.map fun u => (r u, x u +
      if decide (x u < (r u).rated) = true ∧
        (((l.filter fun v => decide (v < u) && decide (x v < (r v).rated)).length : Nat) : Int) < rest then 1 else 0) := by
  induction l generalizing rest with
  | nil => rfl
  | cons u more ih =>
    obtain ⟨first, later⟩ := List.pairwise_cons.mp hl
    have none_before : (List.filter (fun v => decide (v < u) && decide (x v < (r v).rated)) (u :: more)).length = 0 := by
      rw [List.length_eq_zero_iff, List.filter_eq_nil_iff]
      intro v hv
      have : ¬ v < u := by
        rcases List.mem_cons.mp hv with rfl | hv
        · exact lt_irrefl _
        · exact (first v hv).not_gt
      simp [this]
    have before : ∀ v ∈ more, ((List.filter (fun w => decide (w < v) && decide (x w < (r w).rated)) (u :: more)).length : Int) =
        (List.filter (fun w => decide (w < v) && decide (x w < (r w).rated)) more).length +
          if x u < (r u).rated then 1 else 0 := by
      intro v hv
      rw [List.filter_cons]
      split_ifs with h below below <;> simp_all
    simp only [List.map_cons, spread, none_before]
    by_cases below : x u < (r u).rated
    · by_cases some_left : 0 < rest
      · simp only [some_left, below, decide_true, Bool.and_self, if_true, Nat.cast_zero, and_self]
        refine congrArg _ ((ih later (rest - 1)).trans (List.map_congr_left fun v hv => ?_))
        simp only [before v hv, below, if_true, Int.lt_sub_right_iff_add_lt]
      · simp only [some_left, below, decide_true, decide_false, Bool.false_and, Bool.false_eq_true, if_false, Nat.cast_zero, and_false,
          add_zero]
        refine congrArg _ ((ih later rest).trans (List.map_congr_left fun v hv => ?_))
        rw [if_neg (by omega), if_neg (by rw [before v hv]; split_ifs; omega)]
    · simp only [below, decide_false, Bool.and_false, Bool.false_eq_true, if_false, false_and, add_zero]
      refine congrArg _ ((ih later rest).trans (List.map_congr_left fun v hv => ?_))
      simp only [before v hv, below, if_false, add_zero]

/-! ## The limits (R40) -/

/-- R40: a share under the mirror minimum. -/
def UnitRec.underMirror (r : UnitRec) (x : Int) : Int := if r.pv.mirrorValid = true then min x (r.pv.mirror : Int) else x

theorem underMirror_le {r : UnitRec} {x : Int} (hx : 0 ≤ x) : 0 ≤ r.underMirror x ∧ r.underMirror x ≤ x ∧
    (r.pv.mirrorValid = true → r.underMirror x ≤ r.pv.mirror) := by
  unfold UnitRec.underMirror
  split_ifs with valid
  · exact ⟨by omega, min_le_left _ _, fun _ => min_le_right _ _⟩
  · exact ⟨hx, le_rfl, fun h => absurd h valid⟩

theorem limitOf_unsent {r : UnitRec} {x : Int} (h : r.pv.lastSent = none) : limitOf bank r x = r.underMirror x := by
  unfold limitOf
  rw [h]
  rfl

theorem limitOf_sent {r : UnitRec} {x : Int} {last : Nat} (h : r.pv.lastSent = some last) :
    limitOf bank r x = min (r.underMirror x) ((last : Int) + bank.rampStep) := by
  have ramp : ∀ a b : Int, (if b < a then b else a) = min a b := fun a b => by omega
  unfold limitOf
  rw [h]
  exact ramp _ _

/-- R40: the mirror minimum and the ramp only lower a share, and nothing falls below 0. -/
theorem limitOf_le {r : UnitRec} {x : Int} (hx : 0 ≤ x) : 0 ≤ limitOf bank r x ∧ limitOf bank r x ≤ x ∧
    (r.pv.mirrorValid = true → limitOf bank r x ≤ r.pv.mirror) ∧
    ∀ last, r.pv.lastSent = some last → limitOf bank r x ≤ (last : Int) + bank.rampStep := by
  obtain ⟨low, high, mirror⟩ := underMirror_le (r := r) hx
  cases hl : r.pv.lastSent with
  | none =>
    rw [limitOf_unsent hl]
    exact ⟨low, high, mirror, nofun⟩
  | some last =>
    rw [limitOf_sent hl]
    refine ⟨le_min low (by omega), (min_le_left _ _).trans high, fun valid => (min_le_left _ _).trans (mirror valid), fun _ h => ?_⟩
    cases h
    exact min_le_right _ _

/-- R36: the participating plants in index order. -/
def State.plants (s : State) : List (Fin 16) := (List.finRange 16).filter fun u => (s.units[u]).participating

theorem plants_pairwise : s.plants.Pairwise (· < ·) := (List.pairwise_lt_finRange 16).filter _

/-- R37: the final ceiling over the rated sum of the participating plants. -/
def State.pvCeiling (s : State) (bank : Bank) : Int :=
  finalCeiling s bank ((s.plants.map fun u => ((s.units[u]).rated : Int)).sum)

/-- R38: a plant's share of the final ceiling. -/
def State.pvShare (s : State) (bank : Bank) (u : Fin 16) : Int :=
  shareAmong (s.plants.map fun v => s.units[v]) (s.pvCeiling bank) s.units[u]

/-- R39: a plant's share with its part of the remainder. -/
def State.pvSpread (s : State) (bank : Bank) (u : Fin 16) : Int :=
  s.pvShare bank u +
    if decide (s.pvShare bank u < (s.units[u]).rated) = true ∧
      (((s.plants.filter fun v => decide (v < u) && decide (s.pvShare bank v < (s.units[v]).rated)).length : Nat) : Int) <
        s.pvCeiling bank - (s.plants.map (s.pvShare bank)).sum then 1 else 0

/-- R36 to R40: each plant's limit, told by plant. -/
theorem pvLimits_eq : pvLimits s bank = s.plants.map fun u =>
    (u, limitOf bank s.units[u] (clamp 0 ((s.units[u]).rated : Int) (s.pvSpread bank u))) := by
  have base : shares (s.plants.map fun v => s.units[v]) (s.pvCeiling bank) = s.plants.map (s.pvShare bank) := by
    rw [shares_eq, List.map_map]
    rfl
  have ceiling : finalCeiling s bank (((s.plants.map fun v => s.units[v]).map fun u => (u.rated : Int)).sum) = s.pvCeiling bank := by
    rw [List.map_map]
    rfl
  have paired : (s.plants.map fun v => s.units[v]).zip (s.plants.map (s.pvShare bank)) =
      s.plants.map fun u => (s.units[u], s.pvShare bank u) := List.zip_map'
  calc pvLimits s bank
      = s.plants.zip ((spread (s.pvCeiling bank - (s.plants.map (s.pvShare bank)).sum)
          (s.plants.map fun u => (s.units[u], s.pvShare bank u))).map fun x => limitOf bank x.1 (clamp 0 (x.1.rated : Int) x.2)) := by
        rw [← paired, ← base, ← ceiling]
        rfl
    _ = _ := by
        rw [spread_map _ plants_pairwise, List.map_map, ← List.map_prod_left_eq_zip]
        rfl

/-- R37: a ceiling of 0 leaves every plant at 0. -/
theorem pvSpread_of_forcedZero (h : s.forcedZero = true) (u : Fin 16) : s.pvSpread bank u = 0 := by
  have ceiling : s.pvCeiling bank = 0 := if_pos h
  have share : ∀ v, s.pvShare bank v = 0 := fun v => by simp [State.pvShare, shareAmong, ceiling]
  have total : (s.plants.map (s.pvShare bank)).sum = 0 := List.sum_eq_zero fun y hy => by
    obtain ⟨v, -, rfl⟩ := List.mem_map.mp hy
    exact share v
  unfold State.pvSpread
  rw [share, total, ceiling, if_neg (by omega), add_zero]

theorem limitOf_of_nothing (r : UnitRec) : limitOf bank r (clamp 0 (r.rated : Int) 0) = 0 := by
  have nothing : clamp 0 (r.rated : Int) 0 = 0 := by
    unfold clamp
    omega
  obtain ⟨low, high, -, -⟩ := limitOf_le (bank := bank) (r := r) (x := 0) le_rfl
  rw [nothing]
  exact le_antisymm high low

/-! ## The ceiling in the words of the statement (R36, R37) -/

theorem participating_iff (r : UnitRec) : r.participating = true ↔ r.kind = .pv ∧ r.mode = .auto ∧ r.device ≠ 0 := by
  simp [UnitRec.participating, and_assoc]

theorem plants_eq : s.plants = (List.finRange 16).filter fun u =>
    decide ((s.units[u]).kind = .pv ∧ (s.units[u]).mode = .auto ∧ (s.units[u]).device ≠ 0) := by
  refine List.filter_congr fun u _ => ?_
  rw [Bool.eq_iff_iff, participating_iff, decide_eq_true_iff]

/-- R36: what the plants that do not participate give is not for those that do. -/
theorem baseCeiling_eq (rated : Int) : baseCeiling s rated = max 0 (min rated (s.sheet.l + s.sheet.chgSum - s.sheet.dmin -
    ((List.finRange 16).map fun u =>
      if (s.units[u]).kind = .pv ∧ ¬ ((s.units[u]).kind = .pv ∧ (s.units[u]).mode = .auto ∧ (s.units[u]).device ≠ 0) then
        max 0 ((s.units[u]).p.getD 0) else 0).sum)) := by
  unfold baseCeiling
  rw [sumOver_iff (P := fun r => r.kind = .pv ∧ ¬ (r.kind = .pv ∧ r.mode = .auto ∧ r.device ≠ 0))
    fun r => by rw [← participating_iff]; simp]
  rfl

theorem forcedZero_iff : s.forcedZero = true ↔ s.inRun = true ∧ s.seq.pvReleased = false := by simp [State.forcedZero]

/-- Settles O16: the bounds from `limitOf`, the sums from the shares and the remainder, and the value from `pvLimits_eq`. -/
theorem pvLimitsStayInBounds : Obligations.PvLimitsStayInBounds := by
  unfold Obligations.PvLimitsStayInBounds
  refine ⟨fun s bank => ⟨?_, fun x hx => ?_⟩, fun plants c hc => ⟨shares_sum_le plants hc, ?_⟩, fun s bank => ?_⟩
  · rw [pvLimits_eq, List.map_map]
    exact List.map_id _
  · rw [pvLimits_eq] at hx
    obtain ⟨u, -, rfl⟩ := List.mem_map.mp hx
    have share := clamp_mem 0 ((s.units[u]).rated : Int) (s.pvSpread bank u) (Int.natCast_nonneg _)
    obtain ⟨low, high, mirror, ramp⟩ := limitOf_le (bank := bank) (r := s.units[u]) share.1
    refine ⟨low, high.trans share.2, mirror, ramp, fun zero => ?_⟩
    simp only [pvSpread_of_forcedZero zero]
    exact limitOf_of_nothing _
  · have given := spread_sum_le (c - (shares plants c).sum) (plants.zip (shares plants c))
    rw [List.map_snd_zip (by simp [shares_eq])] at given
    have within := shares_sum_le plants hc
    omega
  · intro takes plants total rated fixed base drooped ceiling weight share rest below spreadTo capped
    have hplants : plants = s.plants := plants_eq.symm
    have hceiling : ceiling = s.pvCeiling bank := by
      simp only [ceiling, drooped, base, fixed, total, hplants, takes, rated, ← baseCeiling_eq, ← forcedZero_iff]
      rfl
    have hshare : share = s.pvShare bank := funext fun u => by
      simp only [share, total, hplants, hceiling, State.pvShare, shareAmong, List.map_map]
      rfl
    rw [pvLimits_eq, hplants]
    refine List.map_congr_left fun u _ => ?_
    have hspread : spreadTo u = s.pvSpread bank u := by
      simp only [spreadTo, rest, total, below, hplants, hceiling, hshare, State.pvSpread]
      rfl
    have hcapped : capped u = (s.units[u]).underMirror (clamp 0 ((s.units[u]).rated : Int) (s.pvSpread bank u)) := by
      rw [← hspread]
      rfl
    cases hl : (s.units[u]).pv.lastSent with
    | none => rw [limitOf_unsent hl, ← hcapped]
    | some last => rw [limitOf_sent hl, ← hcapped]

end Sys2Proof.Machine
end

section
/-!
SUPPORT. How an accepted Sample Report reaches the records (R5, R8, R10), and what it does for an entry of role UNIT whose sample is not
the frequency's.
-/

namespace Sys2Proof.Machine

variable {s : State} {p : Port} {f : Frame} {t : Telegram} {i : Fin 64}

theorem index?_val {n : Nat} (u : Fin n) : index? n u.val = some u := by simp [index?]

theorem index?_eq_some {n m : Nat} {u : Fin n} : index? n m = some u ↔ m = u.val := by
  constructor
  · intro h
    unfold index? at h
    split at h <;> cases h
    rfl
  · rintro rfl
    exact index?_val u

@[simp] theorem post_nil : s.post [] = s := by simp [State.post]

/-- R5: the state once an admitted report's sequence and arrival stand in its entry. -/
def admitted (i : Fin 64) (p : Port) (f : Frame) (t : Telegram) (s : State) : State :=
  (passedOn p f t s).modSource i fun e => { e with lastSeq := some t.seq, lastArrival := some s.partTime }

theorem admitted_entry : (admitted i p f t s).sources[i] =
    { s.sources[i] with lastSeq := some t.seq, lastArrival := some s.partTime } := by
  rw [admitted, modSource_entry, passedOn_sources]

theorem admitted_handovers (h : s.handovers = []) : (admitted i p f t s).handovers = [] := passedOn_handovers.trans h

theorem admitted_units : (admitted i p f t s).units = s.units := passedOn_units

theorem admitted_sheetKept (h : SheetKept s) : SheetKept (admitted i p f t s) := by
  unfold admitted
  rw [passedOn_frame]
  exact h

/-- R5, R10: a VALID report that is admitted is accepted, and all that it hands on is taken. -/
theorem exec_accepted (h : Arrives s p f t) (hk : t.kind = kindSampleReport)
    (hi : findIndex s.sources (fun e => e.used && e.publisher = t.sender) = some i) (hrole : (s.sources[i]).role ≠ .gateway)
    (hseq : (s.sources[i]).fresh = false ∨ newerOrFirst t.seq (s.sources[i]).lastSeq = true) (hvalid : read8 t.body 4 = 0) :
    exec (.sampleReport p f) s = .next (settle (acceptSample i (sampleOf t) (admitted i p f t s))) := by
  have valid : (sampleOf t).valid = true := by simp [sampleOf, hvalid]
  rw [exec_arrival (p := p) (f := f) rfl, run, handovers_self h.1.2, receive_sampleReport h hk,
    takeSampleReport_admitted (i := i) (by rwa [passedOn_sources]) (by rwa [passedOn_sources]) (by rwa [passedOn_sources]), if_pos valid,
    passedOn_partTime]
  rfl

theorem recompute_sources : (recompute s).sources = s.sources := by
  unfold recompute
  simp only
  split <;> rfl

theorem recompute_freqSource : (recompute s).freqSource = s.freqSource := by
  unfold recompute
  simp only
  split <;> rfl

theorem carrier_of_unit {u : Fin 16} {x : FreqSource} (hrole : (s.sources[i]).role = .unit) (htarget : (s.sources[i]).target = u.val)
    (h : carrier s i = some x) : x = .genset u := by
  simp only [carrier, hrole, htarget, index?_val, Option.bind_some] at h
  split at h <;> cases h
  rfl

/-! ## A unit's measurement -/

/-- R10: a report of a FRESH entry starts its stale timer afresh. -/
def timerFull (e : SourceEntry) : SourceEntry := { e with fresh := true, staleTimer := some (timeOrSecond e.staleLimit) }

theorem writeUnit_genset {l : List (Nat × Int)} {r : UnitRec} : (writeUnit l r).genset = r.genset := by
  unfold writeUnit
  split <;> rfl

theorem writeUnit_f {l : List (Nat × Int)} {r : UnitRec} (h : r.kind ≠ .genset) : (writeUnit l r).f = r.f := by
  unfold writeUnit
  split
  · contradiction
  all_goals rfl

variable {u : Fin 16} {r : SampleReport}

theorem sampleWritten_measured (hrole : (s.sources[i]).role = .unit) (htarget : (s.sources[i]).target = u.val)
    (hfresh : (s.sources[i]).fresh = true) :
    sampleWritten i r s = (s.modSource i timerFull).modUnit u (writeUnit r.items) := by
  have wrote : writeItems i r.items s = s.modUnit u (writeUnit r.items) := by
    simp only [writeItems, hrole, htarget, index?_val]
  have stays : ((s.modUnit u (writeUnit r.items)).sources[i]).fresh = true := hfresh
  rw [sampleWritten, wrote, makeFresh, if_pos stays]
  exact modSource_congr (s := s.modUnit u (writeUnit r.items)) rfl

/-- R10: a report of a FRESH UNIT entry that is not the frequency's writes the record and has the sheet formed. -/
theorem acceptSample_measured (hrole : (s.sources[i]).role = .unit) (htarget : (s.sources[i]).target = u.val)
    (hfresh : (s.sources[i]).fresh = true) (hfreq : s.freqSource ≠ .genset u)
    (hfirst : (s.units[u]).kind ≠ .genset ∨ (s.units[u]).f ≠ none) :
    acceptSample i r s = recompute ((s.modSource i timerFull).modUnit u (writeUnit r.items)) := by
  have wrote := sampleWritten_measured (r := r) hrole htarget hfresh
  have before : entryFreq s i = (s.units[u]).f := by simp only [entryFreq, hrole, htarget, index?_val, Option.bind_some]
  have after : entryFreq (sampleWritten i r s) i = (writeUnit r.items s.units[u]).f := by
    obtain ⟨-, role, target, -⟩ := sampleWritten_entry (s := s) (i := i) (r := r) i
    simp only [entryFreq, role, target, hrole, htarget, index?_val, Option.bind_some]
    rw [wrote, modUnit_units, Fin.getElem_fin, modifyAt_get, if_pos rfl]
    rfl
  have known : ((s.units[u]).f.isNone && (writeUnit r.items s.units[u]).f.isSome) = false := by
    rcases hfirst with kind | freq
    · rw [writeUnit_f kind]
      cases (s.units[u]).f <;> rfl
    · rw [Option.isNone_eq_false_iff.mpr (Option.isSome_iff_ne_none.mpr freq), Bool.false_and]
  have chosen : sampleChosen i r s = (s.modSource i timerFull).modUnit u (writeUnit r.items) := by
    rw [sampleChosen, before, after, known, hfresh, Bool.not_true, Bool.or_false, wrote]
    rfl
  have summed : recomputeFor (s.sources[i]).role (sampleChosen i r s) =
      recompute ((s.modSource i timerFull).modUnit u (writeUnit r.items)) := by
    rw [chosen, hrole]
    rfl
  have role : ((recompute ((s.modSource i timerFull).modUnit u (writeUnit r.items))).sources[i]).role = .unit := by
    rw [recompute_sources]
    exact (congrArg SourceEntry.role modSource_entry).trans hrole
  have target : ((recompute ((s.modSource i timerFull).modUnit u (writeUnit r.items))).sources[i]).target = u.val := by
    rw [recompute_sources]
    exact (congrArg SourceEntry.target modSource_entry).trans htarget
  have apart : sampleFreq (recompute ((s.modSource i timerFull).modUnit u (writeUnit r.items))) i r.items = none := by
    rw [sampleFreq_eq, if_neg]
    intro carried
    rw [recompute_freqSource] at carried
    exact hfreq (carrier_of_unit role target carried)
  have none_told : sampleHandovers (recompute ((s.modSource i timerFull).modUnit u (writeUnit r.items))) i (s.sources[i]).fresh
      r.items = [] := by
    simp only [sampleHandovers, role]
  rw [acceptSample_eq]
  simp only [summed, apart, none_told, post_nil, takeSample]

end Sys2Proof.Machine
end

section
/-!
SUPPORT. The stop timer of Dispatch (R96 to R98): a genset that moves within the sums it counts in, an order of Dispatch that stands
alone, and what a test of the stop conditions makes of the timer.
-/

namespace Sys2Proof.Machine

variable {s t : State} {u : Fin 16}

/-! ## A change of state that moves no sum -/

/-- R85: what a change of state does to the genset itself. -/
def moved (u : Fin 16) (new : GensetState) (s : State) : State :=
  s.modGenset u fun g => { g with state := new, timer := none, want := g.want && !(new = .online || new = .lockedOut) }

theorem changeState_eq (u : Fin 16) (new : GensetState) (s : State) : changeState u new s =
    (if (s.genset u).state = .online || new = .online then chooseSource (recompute (moved u new s)) else recompute (moved u new s)).post
      (stateHandovers u (s.genset u).state new (s.genset u).want) := rfl

/-- R85: a change of state that leaves the sheet and the frequency source only moves the genset and is handed on. -/
theorem changeState_still {new : GensetState} (hsheet : computeSheet (moved u new s) = s.sheet)
    (hsource : (s.genset u).state = .online ∨ new = .online → sourceChoice (moved u new s) = s.freqSource) :
    changeState u new s = (moved u new s).post (stateHandovers u (s.genset u).state new (s.genset u).want) := by
  rw [changeState_eq, recompute_same (s := moved u new s) hsheet]
  split
  · rename_i h
    rw [chooseSource_same (s := moved u new s) (hsource (by simpa using h))]
  · rfl

theorem modGenset_entry {g : GensetControl → GensetControl} :
    (s.modGenset u g).units[u] = { s.units[u] with genset := g (s.units[u]).genset } := by
  simp only [State.modGenset, modUnit_units, Fin.getElem_fin, modifyAt_get, if_true]

theorem modGenset_other {v : Fin 16} {g : GensetControl → GensetControl} (h : v ≠ u) : (s.modGenset u g).units[v] = s.units[v] := by
  simp only [State.modGenset, modUnit_units, Fin.getElem_fin, modifyAt_get]
  exact if_neg (Ne.symm h)

theorem inState_iff {g : GensetState} : s.inState u g = true ↔ (s.units[u]).kind = .genset ∧ (s.genset u).state = g := by
  simp [State.inState, State.isGenset]

theorem inState_eq_false {g : GensetState} : s.inState u g = false ↔ ¬((s.units[u]).kind = .genset ∧ (s.genset u).state = g) := by
  rw [← inState_iff, Bool.not_eq_true]

/-! ## An order of Dispatch that stands alone -/

theorem closeAllowed_unit {o : Order} (h : o.target = .unit u) : closeAllowed s o = true := by
  unfold closeAllowed
  rw [h]
  split
  · contradiction
  · rfl

/-- R57, R62, R91: a Dispatch order submitted to an empty queue is the outstanding order. -/
theorem submitDispatch_alone {k : OrderKind} (h : TakesAlone s (.unit u)) : submitDispatch k u s =
    (s.submitsAlone { dispatchOrder s u k with device := (s.units[u]).device }).modGenset u fun g =>
      { g with outstanding := some k, owed := none } := by
  unfold submitDispatch
  rw [submitRoutine_alone (o := dispatchOrder s u k) h (closeAllowed_unit rfl)]
  rfl

theorem setCycle_apart {x : Target} {y : Timer} {l : List Handover} {d : DispatchUnit} :
    ({ s with handovers := l, dispatch := d } : State).setCycle x y = { s.setCycle x y with handovers := l, dispatch := d } := by
  cases x <;> rfl

theorem setCycle_unit (x : Target) (y : Timer) (v : Fin 16) : ∃ c, (s.setCycle x y).units[v] = { s.units[v] with cycle := c } := by
  cases x with
  | unit w =>
    by_cases h : v = w
    · subst h
      exact ⟨y, by simp only [State.setCycle, modUnit_units, Fin.getElem_fin, modifyAt_get, if_true]⟩
    · refine ⟨(s.units[v]).cycle, ?_⟩
      simp only [State.setCycle, modUnit_units, Fin.getElem_fin, modifyAt_get]
      exact if_neg (Ne.symm h)
  | feeder k => exact ⟨(s.units[v]).cycle, rfl⟩

/-- R63: the only order of the queue has gone out and its telegram is formed. -/
def outAlone (o : Order) (s : State) : State :=
  let tag := if s.orders.tagCounter = 255 then 1 else s.orders.tagCounter + 1
  formTelegram kindActionOrder o.device (orderBody tag o) { s with orders := { s.orders with
    queue := [], tracker := [{ order := o, tag := tag, deadline := (s.profiles[o.profile]).deadline }], tagCounter := tag
    counters := { s.orders.counters with sent := s.orders.counters.sent + 1 } } }

theorem sendsAlone_eq {o : Order} : s.sendsAlone o = (outAlone o s).setCycle o.target
    (some (max (timeMs (s.profiles[o.profile]).cycle) (s.profiles[o.profile]).deadline)) := rfl

/-- R62: a submission reads neither what waits inside the part nor what Dispatch keeps. -/
theorem submitsAlone_apart {o : Order} {l : List Handover} {d : DispatchUnit} :
    ({ s with handovers := l, dispatch := d } : State).submitsAlone o = { s.submitsAlone o with handovers := l, dispatch := d } := by
  unfold State.submitsAlone
  split_ifs with wait₁ wait₂ wait₂
  · rfl
  · exact absurd wait₁ wait₂
  · exact absurd wait₂ wait₁
  · rw [sendsAlone_eq, sendsAlone_eq]
    exact setCycle_apart (s := outAlone o (s.queuesAlone o))

/-- R64: of the records a submission touches the cycle timers alone. -/
theorem submitsAlone_unit {o : Order} (v : Fin 16) : ∃ c, (s.submitsAlone o).units[v] = { s.units[v] with cycle := c } := by
  unfold State.submitsAlone
  split_ifs
  · exact ⟨(s.units[v]).cycle, rfl⟩
  · exact setCycle_unit _ _ v

/-! ## The stop test (R97) -/

/-- R97: the timer after a test of the stop conditions. -/
def stopTimerAfter (s : State) : Option StopTimer :=
  match stopWanted s, s.dispatch.stopTimer with
  | none, _ => none
  | some c, none => some ⟨c, timeMs s.bank.stopDelay⟩
  | some c, some x => if x.unit = c then some x else some ⟨c, timeMs s.bank.stopDelay⟩

/-- R97: with a stop delay of some duration a test only sets the timer. -/
theorem stopTest_eq (h : timeMs s.bank.stopDelay ≠ 0) : stopTest s = s.setStopTimer (stopTimerAfter s) := by
  have kept : ∀ x, s.dispatch.stopTimer = some x → s = s.setStopTimer (some x) := fun x hx => by
    rw [← hx]
    rfl
  unfold stopTest stopTimerAfter
  cases stopWanted s with
  | none => rfl
  | some c =>
    cases hx : s.dispatch.stopTimer with
    | none => simp only [startStopTimer, if_neg h]
    | some x =>
      simp only
      split
      · exact kept x hx
      · simp only [startStopTimer, if_neg h]

theorem stopWanted_iff {c : Fin 16} : stopWanted s = some c ↔ StopHolds s c := by
  have busy : (s.units.toList.any fun r =>
      r.inStartingSet || (r.kind = .genset && (r.genset.state = .unloading || r.genset.state = .opening))) = false ↔
      (∀ v : Fin 16, (s.units[v]).inStartingSet = false) ∧
        ∀ v : Fin 16, s.inState v .unloading = false ∧ s.inState v .opening = false := by
    rw [toList_eq_finRange, List.any_map, List.any_eq_false, ← forall_and]
    refine ⟨fun h v => ?_, fun h v _ => ?_⟩
    · have hv := h v (List.mem_finRange v)
      simp only [Function.comp_apply, Bool.or_eq_true, Bool.and_eq_true, decide_eq_true_eq, not_or, Bool.not_eq_true] at hv
      refine ⟨hv.1, ?_⟩
      rw [inState_eq_false, inState_eq_false]
      exact ⟨fun x => hv.2 ⟨x.1, .inl x.2⟩, fun x => hv.2 ⟨x.1, .inr x.2⟩⟩
    · obtain ⟨starting, unloading, opening⟩ := h v
      rw [inState_eq_false] at unloading opening
      simp only [Function.comp_apply, starting, Bool.false_or, Bool.and_eq_true, Bool.or_eq_true, decide_eq_true_eq]
      rintro ⟨kind, state | state⟩
      exacts [unloading ⟨kind, state⟩, opening ⟨kind, state⟩]
  unfold stopWanted StopHolds
  cases hc : stopCandidate s with
  | none => simp
  | some x =>
    simp only [Option.some.injEq]
    rw [← and_assoc (a := ∀ v : Fin 16, _), ← busy]
    constructor
    · intro h
      split_ifs at h with hb hm
      cases h
      simp only [Bool.or_eq_true, Bool.not_eq_true', not_or, Bool.not_eq_true, Bool.not_eq_false, List.isEmpty_iff] at hb
      exact ⟨rfl, hb.1, hb.2, hm⟩
    · rintro ⟨rfl, hb, hs, hm⟩
      rw [hb, hs, if_neg (by simp), if_pos hm]

/-- R140, R141: a restore test with nothing to restore posts that nothing waits, unless a run blocks it. -/
theorem restoreTest_quiet (h : s.shed.permission = false ∨ s.shed.stack = []) : restoreTest s =
    { s with dispatch := { s.dispatch with restoreWait := if s.inRun then s.dispatch.restoreWait else none } } := by
  have found : restoreFinding s = .stop := by
    unfold restoreFinding
    rcases h with h | h
    · split <;> simp [h]
    · simp [Shedding.top, h]
  unfold restoreTest
  split
  · rfl
  · rw [found]
    rfl

end Sys2Proof.Machine
end

section
/-!
SUPPORT. The expiry of the stop timer (R98), and what a measurement that changes the reserve makes of it (R97).
-/

namespace Sys2Proof.Machine

variable {s : State} {u : Fin 16}

/-! ## The expiry (R98) -/

theorem stopTimerExpires_early (h : ∀ x, s.dispatch.stopTimer = some x → x.left ≠ 0) : stopTimerExpires s = s := by
  unfold stopTimerExpires
  split
  · next x hx => exact if_neg (h x hx)
  · rfl

theorem stopTimerExpires_offline (h : s.dispatch.stopTimer = some ⟨u, 0⟩) (hu : s.inState u .online = false) :
    stopTimerExpires s = s.setStopTimer none := by simp [stopTimerExpires, h, hu]

theorem stopTimerExpires_online (h : s.dispatch.stopTimer = some ⟨u, 0⟩) (hu : s.inState u .online = true) :
    stopTimerExpires s = submitDispatch .unload u (changeState u .unloading (s.setStopTimer none)) := by
  simp [stopTimerExpires, h, hu]

/-- R98: the candidate unloads, the timer idle. -/
def unloadingOf (u : Fin 16) (s : State) : State :=
  { s.modGenset u (fun g => { g with state := .unloading, timer := none }) with dispatch := { s.dispatch with stopTimer := none } }

theorem moved_unloading : moved u .unloading (s.setStopTimer none) = unloadingOf u s := by simp [moved, unloadingOf, State.setStopTimer]; rfl

theorem unloadingOf_entry : (unloadingOf u s).units[u] = { s.units[u] with
    genset := { (s.units[u]).genset with state := .unloading, timer := none } } :=
  modGenset_entry (s := s) (g := fun g => { g with state := .unloading, timer := none })

/-- R25, R29: a genset that goes from ONLINE to UNLOADING stays in the online set. -/
theorem computeSheet_unloading (hu : s.inState u .online = true) : computeSheet (unloadingOf u s) = computeSheet s := by
  obtain ⟨-, state⟩ := inState_iff.mp hu
  rw [State.genset, Fin.getElem_fin] at state
  refine computeSheet_modGenset (s := s) u (fun g => { g with state := .unloading, timer := none }) ?_ ?_
  · simp [UnitRec.inOnlineSet, state]
  · simp [UnitRec.inStartingSet, state]

theorem changeState_unloading (hu : s.inState u .online = true) (hs : SheetKept s)
    (hsource : sourceChoice (unloadingOf u s) = s.freqSource) :
    changeState u .unloading (s.setStopTimer none) = (unloadingOf u s).post [.stopTest] := by
  obtain ⟨-, state⟩ := inState_iff.mp hu
  have told : stateHandovers u ((s.setStopTimer none).genset u).state .unloading ((s.setStopTimer none).genset u).want = [.stopTest] := by
    rw [show ((s.setStopTimer none).genset u).state = .online from state]
    simp [stateHandovers]
  rw [changeState_still, told, moved_unloading]
  · rw [moved_unloading, computeSheet_unloading hu]
    exact hs.symm
  · rw [moved_unloading]
    exact fun _ => hsource

/-- R57, R98: the UNLOAD of the candidate. -/
def unloadOrder (u : Fin 16) (s : State) : Order :=
  { target := .unit u, device := (s.units[u]).device, kind := .unload, cls := .routine, cause := .dispatch,
    profile := (s.units[u]).stopProfile }

theorem submitsAlone_dispatch {o : Order} : (s.submitsAlone o).dispatch = s.dispatch :=
  (congrArg State.dispatch (submitsAlone_apart (s := s) (o := o) (l := s.handovers) (d := s.dispatch)) :)

theorem submitsAlone_handovers {o : Order} : (s.submitsAlone o).handovers = s.handovers :=
  (congrArg State.handovers (submitsAlone_apart (s := s) (o := o) (l := s.handovers) (d := s.dispatch)) :)

theorem submitsAlone_post {o : Order} {l : List Handover} : (s.post l).submitsAlone o = (s.submitsAlone o).post l := by
  refine (submitsAlone_apart (s := s) (l := s.handovers ++ l) (d := s.dispatch)).trans ?_
  rw [State.post, submitsAlone_handovers, ← submitsAlone_dispatch (s := s) (o := o)]

theorem submitDispatch_unloading (h : TakesAlone s (.unit u)) :
    submitDispatch .unload u ((unloadingOf u s).post [.stopTest]) =
      (((unloadingOf u s).submitsAlone (unloadOrder u s)).modGenset u fun g => { g with outstanding := some .unload, owed := none }).post
        [.stopTest] := by
  have entry : ((unloadingOf u s).post [.stopTest]).units[u] = { s.units[u] with
      genset := { (s.units[u]).genset with state := .unloading, timer := none } } := unloadingOf_entry
  have takes : TakesAlone ((unloadingOf u s).post [.stopTest]) (.unit u) := by
    obtain ⟨queue, high, offset, free⟩ := h
    refine ⟨queue, high, offset, ?_⟩
    simp only [State.cycleOf, State.holdOffOf, State.targetInhibit, entry]
    exact free
  have order : { dispatchOrder ((unloadingOf u s).post [.stopTest]) u .unload with
      device := (((unloadingOf u s).post [.stopTest]).units[u]).device } = unloadOrder u s := by
    simp only [dispatchOrder, entry]
    rfl
  rw [submitDispatch_alone takes, order]
  exact congrArg (State.modGenset · u _) submitsAlone_post

theorem stopTest_of_unloading (h : (s.units[u]).kind = .genset) (hu : (s.units[u]).genset.state = .unloading)
    (hx : s.dispatch.stopTimer = none) : stopTest s = s := by
  rw [stopTest_none (stopWanted_none_of_busy u (.inr ⟨h, .inl hu⟩)), setStopTimer_self hx]

/-- R98: the genset unloads under its UNLOAD, and the stop test that this hands on finds it busy. -/
theorem settle_unloading (hq : s.handovers = []) (hu : s.inState u .online = true) :
    settle ((((unloadingOf u s).submitsAlone (unloadOrder u s)).modGenset u fun g =>
      { g with outstanding := some .unload, owed := none }).post [.stopTest]) =
    ((unloadingOf u s).submitsAlone (unloadOrder u s)).modGenset u fun g => { g with outstanding := some .unload, owed := none } := by
  obtain ⟨kind, -⟩ := inState_iff.mp hu
  obtain ⟨c, record⟩ := submitsAlone_unit (s := unloadingOf u s) (o := unloadOrder u s) u
  have none_left : ((unloadingOf u s).submitsAlone (unloadOrder u s)).handovers = [] := submitsAlone_handovers.trans hq
  have idle : ((unloadingOf u s).submitsAlone (unloadOrder u s)).dispatch.stopTimer = none := by
    rw [submitsAlone_dispatch]
    rfl
  refine settle_post_one none_left (stopTest_of_unloading (u := u) ?_ ?_ idle) none_left
  · rw [modGenset_entry, record, unloadingOf_entry]
    exact kind
  · rw [modGenset_entry, record, unloadingOf_entry]

/-- R98: the expiry of the stop timer, event by event. -/
theorem stopTimer_expiry (h : Quiet s) :
    let idle := { s.dispatch with stopTimer := none }
    ((∀ x, s.dispatch.stopTimer = some x → x.left ≠ 0) → exec .stopTimerExpiry s = .next s) ∧
    (∀ u : Fin 16, s.dispatch.stopTimer = some ⟨u, 0⟩ →
      (s.inState u .online = false → exec .stopTimerExpiry s = .next { s with dispatch := idle }) ∧
      (s.inState u .online = true → SheetKept s → TakesAlone s (.unit u) → sourceChoice (unloadingOf u s) = s.freqSource →
        exec .stopTimerExpiry s = .next (((unloadingOf u s).submitsAlone (unloadOrder u s)).modGenset u fun g =>
          { g with outstanding := some .unload, owed := none }))) := by
  have event : exec .stopTimerExpiry s = .next (settle (stopTimerExpires s)) := runWhenUp_settle h
  intro idle
  refine ⟨fun early => ?_, fun u due => ⟨fun off => ?_, fun on sheet takes source => ?_⟩⟩
  · rw [event, stopTimerExpires_early early, settle_nil h.2]
  · rw [event, stopTimerExpires_offline due off, settle_nil (by exact h.2)]
    rfl
  · rw [event, stopTimerExpires_online due on, changeState_unloading on sheet source, submitDispatch_unloading takes,
      settle_unloading h.2 on]

end Sys2Proof.Machine
end

section
/-!
SUPPORT. What a measurement that changes the reserve makes of the stop timer (R97). Settles O30.
-/

namespace Sys2Proof.Machine

variable {s w : State} {u : Fin 16} {i : Fin 64}

/-- R29, R97, R141: Dispatch after the sheet is formed again, while there is nothing to restore. -/
def reserveDispatch (w : State) : DispatchUnit :=
  if w.sheet.reserveDiffers (computeSheet w) then
    { w.dispatch with
      stopTimer := stopTimerAfter { w with sheet := computeSheet w }
      restoreWait := if w.inRun then w.dispatch.restoreWait else none }
  else w.dispatch

/-- R97, R141: a changed reserve is tested against the stop conditions, and the restore test finds nothing. -/
theorem settle_reserveTold (hq : s.handovers = []) (hd : timeMs s.bank.stopDelay ≠ 0)
    (hr : s.shed.permission = false ∨ s.shed.stack = []) : settle (s.post [.stopTest, .restoreTest]) =
    { s with dispatch := { s.dispatch with
        stopTimer := stopTimerAfter s, restoreWait := if s.inRun then s.dispatch.restoreWait else none } } := by
  have first : handle .stopTest s = s.setStopTimer (stopTimerAfter s) := stopTest_eq hd
  have second := restoreTest_quiet (s := s.setStopTimer (stopTimerAfter s)) hr
  rw [settle_post hq, settleLoop_cons first hq, settleLoop_cons (h := .restoreTest) second hq, settleLoop_nil]
  rfl

theorem settle_recompute (hq : w.handovers = []) (hd : timeMs w.bank.stopDelay ≠ 0)
    (hr : w.shed.permission = false ∨ w.shed.stack = []) :
    settle (recompute w) = { w with sheet := computeSheet w, dispatch := reserveDispatch w } := by
  unfold recompute reserveDispatch
  simp only
  split
  · exact settle_reserveTold (s := { w with sheet := computeSheet w }) hq hd hr
  · exact settle_nil hq

theorem reserveDiffers_iff {a b : Sheet} :
    a.reserveDiffers b = true ↔ ¬(b.res = a.res ∧ b.req = a.req ∧ b.margin = a.margin ∧ b.exp = a.exp) := by
  simp only [Sheet.reserveDiffers, Bool.or_eq_true, bne_iff_ne, ne_comm (a := a.res), ne_comm (a := a.req), ne_comm (a := a.margin),
    ne_comm (a := a.exp), not_and_or, or_assoc, ne_eq]

theorem reserveDispatch_frame : reserveDispatch w = { w.dispatch with
    stopTimer := (reserveDispatch w).stopTimer, restoreWait := (reserveDispatch w).restoreWait } := by
  unfold reserveDispatch
  split <;> rfl

/-- R97: the timer after the test, by the conditions and the timer before. -/
theorem stopTimerAfter_cases :
    ((∀ c, ¬ StopHolds s c) → stopTimerAfter s = none) ∧
    (∀ c, StopHolds s c →
      ((∃ x, s.dispatch.stopTimer = some x ∧ x.unit = c) → stopTimerAfter s = s.dispatch.stopTimer) ∧
      ((∀ x, s.dispatch.stopTimer = some x → x.unit ≠ c) → stopTimerAfter s = some ⟨c, timeMs s.bank.stopDelay⟩)) := by
  refine ⟨fun fails => ?_, fun c holds => ?_⟩
  · have none_wanted : stopWanted s = none := Option.eq_none_iff_forall_ne_some.mpr fun c hc => fails c (stopWanted_iff.mp hc)
    simp only [stopTimerAfter, none_wanted]
  · have wanted := stopWanted_iff.mpr holds
    refine ⟨?_, fun other => ?_⟩
    · rintro ⟨x, hx, same⟩
      simp only [stopTimerAfter, wanted, hx, if_pos same]
    · cases hx : s.dispatch.stopTimer with
      | none => simp only [stopTimerAfter, wanted, hx]
      | some x => simp only [stopTimerAfter, wanted, hx, if_neg (other x hx)]

/-- R97: what a changed reserve makes of the stop timer and the wait of a restore. -/
theorem reserveDispatch_changed (h : w.sheet.reserveDiffers (computeSheet w) = true) :
    let t : State := { w with sheet := computeSheet w, dispatch := reserveDispatch w }
    t.dispatch.restoreWait = (if w.inRun then w.dispatch.restoreWait else none) ∧
    ((∀ c, ¬ StopHolds t c) → t.dispatch.stopTimer = none) ∧
    (∀ c, StopHolds t c →
      ((∃ x, w.dispatch.stopTimer = some x ∧ x.unit = c) → t.dispatch.stopTimer = w.dispatch.stopTimer) ∧
      ((∀ x, w.dispatch.stopTimer = some x → x.unit ≠ c) → t.dispatch.stopTimer = some ⟨c, timeMs w.bank.stopDelay⟩)) := by
  rw [reserveDispatch, if_pos h]
  exact ⟨rfl, stopTimerAfter_cases (s := { w with sheet := computeSheet w })⟩

/-- R10: the state once a measurement of a unit stands in its entry and its record. -/
def measured (i : Fin 64) (u : Fin 16) (p : Port) (f : Frame) (t : Telegram) (s : State) : State :=
  ((passedOn p f t s).modSource i fun e => { e with
    lastSeq := some t.seq, lastArrival := some s.partTime, staleTimer := some (timeOrSecond e.staleLimit) }).modUnit u
      (writeUnit (sampleOf t).items)

theorem measured_frame {p : Port} {f : Frame} {t : Telegram} :
    let w := measured i u p f t s
    w.handovers = s.handovers ∧ w.bank = s.bank ∧ w.shed = s.shed ∧ w.sheet = s.sheet ∧ w.dispatch = s.dispatch ∧ w.inRun = s.inRun := by
  rw [measured, passedOn_frame]
  exact ⟨rfl, rfl, rfl, rfl, rfl, rfl⟩

theorem measured_other {p : Port} {f : Frame} {t : Telegram} {v : Fin 16} (h : v ≠ u) :
    (measured i u p f t s).units[v] = s.units[v] := by
  rw [measured, modUnit_units, Fin.getElem_fin, modifyAt_get, if_neg h.symm]
  exact congrArg (fun x : Vector UnitRec 16 => x[v]) passedOn_units

theorem measured_genset {p : Port} {f : Frame} {t : Telegram} : (measured i u p f t s).genset u = s.genset u := by
  rw [State.genset, measured, modUnit_units, Fin.getElem_fin, modifyAt_get, if_pos rfl, writeUnit_genset]
  exact congrArg (fun x : Vector UnitRec 16 => x[u].genset) passedOn_units

/-- R29, R30, R97: what a measurement of a unit hands to the stop timer. -/
theorem measurement_stopTimer {p : Port} {f : Frame} {t : Telegram} (h : Arrives s p f t) (hk : t.kind = kindSampleReport)
    (hi : findIndex s.sources (fun e => e.used && e.publisher = t.sender) = some i) (hfresh : (s.sources[i]).fresh = true)
    (hseq : newerOrFirst t.seq (s.sources[i]).lastSeq = true) (hvalid : read8 t.body 4 = 0) (hrole : (s.sources[i]).role = .unit)
    (htarget : (s.sources[i]).target = u.val) (hfreq : s.freqSource ≠ .genset u)
    (hfirst : (s.units[u]).kind ≠ .genset ∨ (s.units[u]).f ≠ none) (hdelay : timeMs s.bank.stopDelay ≠ 0)
    (hrest : s.shed.permission = false ∨ s.shed.stack = []) :
    let w := measured i u p f t s
    exec (.sampleReport p f) s = .next { w with sheet := computeSheet w, dispatch := reserveDispatch w } := by
  intro w
  have written : ((admitted i p f t s).modSource i timerFull).modUnit u (writeUnit (sampleOf t).items) = w := by
    refine congrArg (State.modUnit · u _) ?_
    rw [admitted, modSource_modSource]
    refine modSource_congr ?_
    simp only [timerFull, passedOn_sources, hfresh]
  obtain ⟨quiet, bank, shed, -⟩ := measured_frame (s := s) (i := i) (u := u) (p := p) (f := f) (t := t)
  rw [exec_accepted h hk hi (by rw [hrole]; decide) (.inr hseq) hvalid, acceptSample_measured, written, settle_recompute (quiet.trans h.1.2)]
  · rwa [bank]
  · rwa [shed]
  · rw [admitted_entry]; exact hrole
  · rw [admitted_entry]; exact htarget
  · rw [admitted_entry]; exact hfresh
  · rw [admitted, passedOn_frame]; exact hfreq
  · rwa [admitted_units]

/-- R62: a submission does not read what Dispatch keeps. -/
theorem submitsAlone_withDispatch {o : Order} {d : DispatchUnit} :
    ({ s with dispatch := d } : State).submitsAlone o = { s.submitsAlone o with dispatch := d } := by
  refine (submitsAlone_apart (s := s) (l := s.handovers) (d := d)).trans ?_
  rw [← submitsAlone_handovers (s := s) (o := o)]

/-- Settles O30: the expiry by its cases, a measurement by what the new sheet makes of the stop conditions. -/
theorem stopTimerExpiryUnloads : Obligations.StopTimerExpiryUnloads := by
  unfold Obligations.StopTimerExpiryUnloads
  refine ⟨fun s quiet => ?_, ?_⟩
  · obtain ⟨early, due⟩ := stopTimer_expiry quiet
    refine ⟨early, fun u hu => ⟨(due u hu).1, fun on sheet takes => ?_⟩⟩
    intro unloading source
    rw [(due u hu).2 on sheet takes source, unloadingOf, submitsAlone_withDispatch]
    rfl
  · intro s p f t i u h hk hi hfresh hseq hvalid hrole htarget hsheet hfreq hfirst hdelay hrest
    obtain ⟨-, bank, -, sheet, dispatch, run⟩ := measured_frame (s := s) (i := i) (u := u) (p := p) (f := f) (t := t)
    refine ⟨_, measurement_stopTimer h hk hi hfresh hseq hvalid hrole htarget hfreq hfirst hdelay hrest, rfl, ?_, fun v hv => measured_other hv, measured_genset,
      fun same => ?_, fun changed => ?_⟩
    · rw [← dispatch, ← reserveDispatch_frame]
      rfl
    · have still : ¬ (measured i u p f t s).sheet.reserveDiffers (computeSheet (measured i u p f t s)) = true := by
        rw [reserveDiffers_iff, sheet]
        exact not_not.mpr same
      rw [reserveDispatch, if_neg still, dispatch]
    · have moves : (measured i u p f t s).sheet.reserveDiffers (computeSheet (measured i u p f t s)) = true := by
        rw [reserveDiffers_iff, sheet]
        exact changed
      have told := reserveDispatch_changed moves
      simp only [bank, run, dispatch] at told
      exact told

end Sys2Proof.Machine
end

section
/-!
SUPPORT. A calm Dispatch (R29, R85, R88, R97): what a change of one genset hands on, and that nothing of it acts while no order or shed
feeder waits, no other genset is ONLINE, none has an owed order and no plant participates.
-/

namespace Sys2Proof.Machine

variable {s t : State} {u : Fin 16}

/-! ## The cascade -/

theorem settleLoop_handed {n : Nat} {x : Handover} {rest l : List Handover} (hx : handle x s = t.post l) (ht : t.handovers = []) :
    settleLoop (n + 1) (x :: rest) s = settleLoop n (l ++ rest) t := by
  simp only [settleLoop, hx, State.post, ht, List.nil_append]
  rw [handovers_self ht]

/-- Hand-overs that change nothing are taken without a trace. -/
theorem settleLoop_still {l rest : List Handover} (hs : s.handovers = []) (hl : ∀ x ∈ l, handle x s = s) (n : Nat) :
    settleLoop (n + l.length) (l ++ rest) s = settleLoop n rest s := by
  induction l with
  | nil => rfl
  | cons x l ih =>
    rw [List.length_cons, ← Nat.add_assoc, List.cons_append, settleLoop_cons (hl x (List.mem_cons_self ..)) hs]
    exact ih fun y hy => hl y (List.mem_cons_of_mem x hy)

/-! ## The updates a change of state is made of -/

theorem modGenset_modGenset {f g : GensetControl → GensetControl} :
    (s.modGenset u f).modGenset u g = s.modGenset u fun x => g (f x) := by
  simp only [State.modGenset, State.modUnit, modifyAt, Fin.getElem_fin, Vector.getElem_set_self, Vector.set_set]

theorem modGenset_congr {f g : GensetControl → GensetControl} (h : f (s.genset u) = g (s.genset u)) :
    s.modGenset u f = s.modGenset u g := by
  rw [State.genset] at h
  simp only [State.modGenset, State.modUnit, modifyAt, h]

theorem modGenset_same {f : GensetControl → GensetControl} (h : f (s.genset u) = s.genset u) : s.modGenset u f = s :=
  modUnit_same (by rw [State.genset] at h; rw [h])

theorem genset_modGenset {f : GensetControl → GensetControl} : (s.modGenset u f).genset u = f (s.genset u) :=
  congrArg UnitRec.genset modGenset_entry

/-- R29: the sheet formed from the records as they stand. -/
def formed (s : State) : State := { s with sheet := computeSheet s }

/-- R30: what a changed reserve hands on. -/
def reserveHandovers (s : State) : List Handover :=
  if s.sheet.reserveDiffers (computeSheet s) then [.stopTest, .restoreTest] else []

theorem recompute_eq : recompute s = (formed s).post (reserveHandovers s) := by
  unfold recompute formed reserveHandovers
  simp only
  split
  · rfl
  · exact post_nil.symm

theorem reserveHandovers_mem {x : Handover} (h : x ∈ reserveHandovers s) : x = .stopTest ∨ x = .restoreTest := by
  unfold reserveHandovers at h
  split at h
  · simpa using h
  · cases h

theorem reserveHandovers_length : (reserveHandovers s).length ≤ 2 := by
  unfold reserveHandovers
  split <;> simp

/-! ## Calm -/

/-- Calm reads the sources, the orders, the Shed Stack, Dispatch, the arbiter and of each record the genset and what makes a plant. -/
theorem calm_congr (h : DispatchCalm s u) (hsources : t.sources = s.sources) (hfreq : t.freqSource = s.freqSource)
    (horders : t.orders = s.orders) (hshed : t.shed = s.shed) (hdispatch : t.dispatch = s.dispatch) (harbiter : t.arbiter = s.arbiter)
    (hother : ∀ v : Fin 16, v ≠ u → t.units[v] = s.units[v])
    (hwant : (t.genset u).want = false) (howed : (t.genset u).owed = none)
    (hplant : (t.units[u]).participating = false) : DispatchCalm t u := by
  obtain ⟨⟨i, source⟩, freq, queue, stack, timer, wait, free, -, each⟩ := h
  have choice : sourceChoice t = .reference i := sourceChoice_of_reference source hsources
  refine ⟨⟨i, choice⟩, by rw [hfreq, freq, source, choice], by rwa [horders], by rwa [hshed], by rwa [hdispatch], by rwa [hdispatch],
    by rwa [harbiter], hwant, fun v => ?_⟩
  by_cases hv : v = u
  · subst hv
    exact ⟨howed, hplant, fun h => absurd rfl h⟩
  · obtain ⟨owed, plant, offline⟩ := each v
    simp only [State.genset, State.inState, State.isGenset, hother v hv]
    exact ⟨owed, plant, offline⟩

theorem chooseSource_calm (h : DispatchCalm s u) : chooseSource s = s := chooseSource_same h.2.1.symm

theorem onlineUnits_calm (h : DispatchCalm s u) : s.onlineUnits.length < 2 := by
  obtain ⟨-, -, -, -, -, -, -, -, each⟩ := h
  have only : s.onlineUnits ⊆ [u] := fun v hv => by
    by_contra other
    have online : s.inState v .online = true := by simpa [State.onlineUnits] using hv
    rw [(each v).2.2 (by simpa using other)] at online
    cases online
  have nodup : s.onlineUnits.Nodup := (List.nodup_finRange 16).filter _
  exact Nat.lt_succ_of_le (nodup.subperm only).length_le

theorem stopTest_calm (h : DispatchCalm s u) : stopTest s = s := by
  have none_wanted : stopWanted s = none := by
    unfold stopWanted
    rw [stopCandidate_eq, if_pos (onlineUnits_calm h)]
  exact stopTest_idle none_wanted h.2.2.2.2.1

theorem restoreTest_calm (h : DispatchCalm s u) : restoreTest s = s := by
  obtain ⟨-, -, -, stack, -, wait, -⟩ := h
  exact restoreTest_empty stack wait

theorem curtailEval_calm (h : DispatchCalm s u) : curtailEval s = s := by
  obtain ⟨-, -, -, -, -, -, -, -, each⟩ := h
  exact curtailEval_none fun v => (each v).2.1

theorem forUnits_same {f : Fin 16 → State → State} (h : ∀ u, f u s = s) : forUnits f s = s := by
  unfold forUnits
  induction List.finRange 16 with
  | nil => rfl
  | cons u l ih => rw [List.foldl_cons, h, ih]

/-- R88, R89: with nothing owed, the genset not ONLINE and no need, an evaluation does nothing. -/
theorem dispatchEval_calm (h : DispatchCalm s u) (hu : s.inState u .online = false)
    (hneed : s.sheet.req + s.bank.startMargin ≤ s.sheet.exp) : dispatchEval s = s := by
  obtain ⟨-, -, -, -, -, wait, -, -, each⟩ := h
  have offline : ∀ v : Fin 16, s.inState v .online = false := fun v => by
    by_cases hv : v = u
    · rwa [hv]
    · exact (each v).2.2 hv
  have owed : forUnits settleOwed s = s := forUnits_same fun v => by rw [settleOwed, (each v).1]
  have unloaded : forUnits settleUnloaded s = s := forUnits_same fun v => by simp [settleUnloaded, offline v]
  have met : need s s.bank ≤ 0 := by
    simp only [need, requiredReserve, restoreDemand, wait, satSum]
    omega
  simp only [dispatchEval, owed, unloaded, if_pos met]

theorem withdrawCrank_absent {c : CauseClass → Bool} (h : u ∉ s.arbiter.units) : withdrawCrank c u s = s := by
  simp only [Arbiter.units, List.mem_map, List.mem_append, Option.mem_toList, not_exists, not_and, or_imp, forall_and] at h
  obtain ⟨⟨grant, batch⟩, waiting⟩ := h
  have no_grant : (s.arbiter.grant.any fun r => decide (r.unit = u) && c r.cls) = false := by
    rw [Option.any_eq_false]
    intro r hr
    simp [grant r hr]
  have keep : ∀ l : List CrankRequest, (∀ r ∈ l, ¬ r.unit = u) → (l.filter fun r => !(decide (r.unit = u) && c r.cls)) = l :=
    fun l hl => List.filter_eq_self.mpr fun r hr => by simp [hl r hr]
  unfold withdrawCrank
  simp only [no_grant, State.modArbiter, keep _ batch, keep _ waiting]
  rfl

theorem dispatchWithdraw_empty {k : Option OrderKind} (h : s.orders.queue = []) : dispatchWithdraw k u s = s := by
  simp [dispatchWithdraw, h, withdraw_empty]

end Sys2Proof.Machine
end

section
/-!
SUPPORT. How a genset follows its reports while Dispatch is calm (R79 to R84): each move of the state machine as the genset's new control
word, the sheet formed again, what is logged, and what it hands on.
-/

namespace Sys2Proof.Machine

variable {s : State} {u : Fin 16} {old : GensetState} {new : GensetControl} {l : List Logged}

/-- R29, R171: the sheet formed again and these events logged. -/
def formedWith (l : List Logged) (s : State) : State := { formed s with record := s.recordWith l }

/-- R29, R85: the genset under a new control word, its sheet formed again and these events logged. -/
def followed (u : Fin 16) (new : GensetControl) (l : List Logged) (s : State) : State := formedWith l (s.modGenset u fun _ => new)

theorem followed_calm (h : DispatchCalm s u) (hk : (s.units[u]).kind = .genset) (hwant : new.want = false) (howed : new.owed = none) :
    DispatchCalm (followed u new l s) u := by
  have entry : (followed u new l s).units[u] = { s.units[u] with genset := new } := modGenset_entry (s := s) (g := fun _ => new)
  refine calm_congr (s := s) h rfl rfl rfl rfl rfl rfl (fun v hv => modGenset_other (s := s) (g := fun _ => new) hv) ?_ ?_ ?_
  · rw [State.genset, entry]; exact hwant
  · rw [State.genset, entry]; exact howed
  · rw [entry, UnitRec.participating, hk]; rfl

/-- R85: the state has moved on with the hand-overs of a change of state. -/
def HandsOn (u : Fin 16) (old new : GensetState) (t y : State) : Prop :=
  ∃ r : List Handover, r.length ≤ 2 ∧ (∀ x ∈ r, x = .stopTest ∨ x = .restoreTest) ∧ t = y.post (r ++ stateHandovers u old new false)

theorem changeState_calm {dest : GensetState} (h : DispatchCalm (moved u dest s) u) : changeState u dest s =
    (formed (moved u dest s)).post (reserveHandovers (moved u dest s) ++ stateHandovers u (s.genset u).state dest (s.genset u).want) := by
  have chosen : chooseSource ((formed (moved u dest s)).post (reserveHandovers (moved u dest s))) = _ := chooseSource_calm (u := u) h
  rw [changeState_eq, recompute_eq, chosen, ite_self, post_post]

/-- R85: a change of state, taken on a state whose sheet has been formed and that has logged. -/
theorem changeState_follows {dest : GensetState} {f : GensetControl → GensetControl} (h : DispatchCalm s u)
    (hk : (s.units[u]).kind = .genset) (hwant : (f (s.genset u)).want = false) (howed : (f (s.genset u)).owed = none) :
    HandsOn u (f (s.genset u)).state dest (changeState u dest ((formedWith l s).modGenset u f))
      (followed u { f (s.genset u) with state := dest, timer := none } l s) := by
  have word : moved u dest ((formedWith l s).modGenset u f) =
      (formedWith l s).modGenset u fun _ => { f (s.genset u) with state := dest, timer := none } := by
    rw [moved, modGenset_modGenset]
    refine modGenset_congr ?_
    change ({ f (s.genset u) with
      state := dest, timer := none, want := (f (s.genset u)).want && !(dest = .online || dest = .lockedOut) } : GensetControl) = _
    simp [hwant]
  have calm : DispatchCalm (moved u dest ((formedWith l s).modGenset u f)) u := by
    rw [word]
    exact followed_calm (l := l) h hk hwant howed
  refine ⟨reserveHandovers (moved u dest ((formedWith l s).modGenset u f)), reserveHandovers_length, fun x hx => reserveHandovers_mem hx, ?_⟩
  rw [changeState_calm calm, genset_modGenset]
  have was : f ((formedWith l s).genset u) = f (s.genset u) := rfl
  rw [was, hwant, word]
  rfl

/-! ## The cascade of a move -/

theorem still_of_reserve (h : DispatchCalm s u) {x : Handover} (hx : x = .stopTest ∨ x = .restoreTest) : handle x s = s := by
  rcases hx with rfl | rfl
  · exact stopTest_calm h
  · exact restoreTest_calm h

/-- R85, R88: with no need, leaving a state has no one else act. -/
theorem settleLoop_left {dest : GensetState} {r : List Handover} {n : Nat} (hn : 5 ≤ n) (h : DispatchCalm s u) (hq : s.handovers = [])
    (hto : dest ≠ .online) (hr : r.length ≤ 2) (hmem : ∀ x ∈ r, x = .stopTest ∨ x = .restoreTest)
    (heval : old = .online → s.inState u .online = false ∧ s.sheet.req + s.bank.startMargin ≤ s.sheet.exp) :
    settleLoop n (r ++ stateHandovers u old dest false) s = s := by
  have short : (r ++ stateHandovers u old dest false).length ≤ 5 := by
    simp only [stateHandovers, List.length_append, if_neg hto]
    split <;> simp <;> omega
  have still : ∀ x ∈ r ++ stateHandovers u old dest false, handle x s = s := by
    intro x mem
    rcases List.mem_append.mp mem with mem | told
    · exact still_of_reserve h (hmem x mem)
    · obtain ⟨⟨left, -⟩, eval⟩ | stop : ((old = .online ∧ ¬dest = .unloading) ∧ (x = .dispatchEval ∨ x = .curtailEval)) ∨ x = .stopTest := by
        simpa [stateHandovers, hto] using told
      · obtain ⟨offline, met⟩ := heval left
        rcases eval with rfl | rfl
        · exact dispatchEval_calm h offline met
        · exact curtailEval_calm h
      · exact still_of_reserve h (.inl stop)
  obtain ⟨m, rfl⟩ : ∃ m, n = m + (r ++ stateHandovers u old dest false).length := ⟨_, (Nat.sub_add_cancel (short.trans hn)).symm⟩
  have loop := settleLoop_still (rest := []) hq still m
  rwa [List.append_nil, settleLoop_nil] at loop

/-- R150: the bus is alive again. -/
def busAlive (s : State) : State := { s with seq := { s.seq with deadBusTimer := none, declared := false } }

theorem deadBus_of_online (h : s.inState u .online = true) : deadBus s = false := by
  have some_online : s.onlineUnits.isEmpty = false := by
    rw [List.isEmpty_eq_false_iff_exists_mem]
    exact ⟨u, by simpa [State.onlineUnits] using h⟩
  rw [deadBus, some_online, Bool.and_false]

/-- R85, R150: the entry to ONLINE ends a dead bus, and has no one else act. -/
theorem settleLoop_joined {r : List Handover} {n : Nat} (hn : 4 ≤ n) (h : DispatchCalm s u) (hq : s.handovers = [])
    (hu : s.inState u .online = true) (hr : r.length ≤ 2) (hmem : ∀ x ∈ r, x = .stopTest ∨ x = .restoreTest) (hold : old ≠ .online) :
    settleLoop n (r ++ stateHandovers u old .online false) s = busAlive s := by
  have told : stateHandovers u old .online false = [.deadBusTest false, .stopTest] := by simp [stateHandovers, hold]
  obtain ⟨m, rfl⟩ : ∃ m, n = m + 2 + r.length := ⟨n - 2 - r.length, by omega⟩
  have tested : handle (.deadBusTest false) s = busAlive s := deadBusTest_alive (deadBus_of_online hu)
  have stop : handle .stopTest (busAlive s) = busAlive s := stopTest_calm (u := u) h
  rw [told, settleLoop_still hq fun x hx => still_of_reserve h (hmem x hx)]
  rw [settleLoop_cons tested hq, settleLoop_cons stop hq, settleLoop_nil]

/-! ## A report taken -/

/-- R80 to R83: the cascade of a report, up to the genset's own rule. -/
theorem settle_report (h : DispatchCalm s u) (hq : s.handovers = []) {y : State} {m : List Handover}
    (hy : gensetReport u (formed s) = y.post m) (hyq : y.handovers = []) :
    ∃ n, 5 ≤ n ∧ settle ((recompute s).post [.gensetReport u]) = settleLoop n m y := by
  have calm : DispatchCalm (formed s) u := h
  have reserve : (reserveHandovers s).length ≤ 2 := reserveHandovers_length
  refine ⟨2 ^ 64 - 8 + (7 - (reserveHandovers s).length), by omega, ?_⟩
  have fuel : 2 ^ 64 - 8 + 8 = 2 ^ 64 - 8 + (7 - (reserveHandovers s).length) + 1 + (reserveHandovers s).length := by omega
  rw [recompute_eq, post_post, settle_post (s := formed s) hq, fuel,
    settleLoop_still (s := formed s) hq fun x hx => still_of_reserve calm (reserveHandovers_mem hx), settleLoop_handed (x := .gensetReport u) hy hyq,
    List.append_nil]

/-- R80 to R83: a report that leaves the state only has the sheet formed. -/
theorem settle_report_stays (h : DispatchCalm s u) (hq : s.handovers = []) (hx : gensetReport u (formed s) = formed s) :
    settle ((recompute s).post [.gensetReport u]) = followed u (s.genset u) [] s := by
  obtain ⟨n, -, settled⟩ := settle_report h hq (y := formed s) (m := []) (hx.trans post_nil.symm) hq
  rw [settled, settleLoop_nil, followed, modGenset_same rfl]
  rfl

/-- R80 to R83: a report that moves the genset to a state other than ONLINE. -/
theorem settle_report_left (h : DispatchCalm s u) (hq : s.handovers = []) (hk : (s.units[u]).kind = .genset)
    (hx : HandsOn u old new.state (gensetReport u (formed s)) (followed u new l s)) (hnew : new.state ≠ .online)
    (hwant : new.want = false) (howed : new.owed = none)
    (heval : old = .online → (computeSheet (s.modGenset u fun _ => new)).req + s.bank.startMargin ≤
      (computeSheet (s.modGenset u fun _ => new)).exp) :
    settle ((recompute s).post [.gensetReport u]) = followed u new l s := by
  obtain ⟨r, hr, hmem, report⟩ := hx
  obtain ⟨n, hn, settled⟩ := settle_report h hq report hq
  have offline : (followed u new l s).inState u .online = false := by
    rw [inState_eq_false]
    rintro ⟨-, online⟩
    exact hnew ((congrArg GensetControl.state (genset_modGenset (s := s) (f := fun _ => new))).symm.trans online)
  rw [settled, settleLoop_left hn (followed_calm h hk hwant howed) hq hnew hr hmem fun left => ⟨offline, heval left⟩]

/-- R80 to R83: a report that moves the genset to ONLINE. -/
theorem settle_report_joined (h : DispatchCalm s u) (hq : s.handovers = []) (hk : (s.units[u]).kind = .genset)
    (hx : HandsOn u old new.state (gensetReport u (formed s)) (followed u new l s)) (hnew : new.state = .online)
    (hwant : new.want = false) (howed : new.owed = none) (hold : old ≠ .online) :
    settle ((recompute s).post [.gensetReport u]) = busAlive (followed u new l s) := by
  obtain ⟨r, hr, hmem, report⟩ := hx
  obtain ⟨n, hn, settled⟩ := settle_report h hq report hq
  have online : (followed u new l s).inState u .online = true :=
    inState_iff.mpr ⟨(congrArg UnitRec.kind (modGenset_entry (s := s) (g := fun _ => new))).trans hk,
      (congrArg GensetControl.state (genset_modGenset (s := s) (f := fun _ => new))).trans hnew⟩
  rw [settled, hnew, settleLoop_joined (by omega) (followed_calm h hk hwant howed) hq online hr hmem hold]

end Sys2Proof.Machine
end

section
/-!
SUPPORT. What the rules of a report (R79 to R84) make of a genset's control word while Dispatch is calm, and the event of the report.
Settles O28.
-/

namespace Sys2Proof.Machine

variable {s : State} {u : Fin 16} {old new : GensetState}

theorem formedWith_nil : formedWith [] s = formed s := rfl

theorem HandsOn.log {t : State} {w : GensetControl} {kind : EventKind} {subject : Option Subject} {value : Int} {detail : Nat}
    (h : HandsOn u old new t (followed u w [] s)) :
    HandsOn u old new (t.log kind subject value detail) (followed u w [(kind, subject, value, detail)] s) := by
  obtain ⟨r, hr, hmem, rfl⟩ := h
  exact ⟨r, hr, hmem, rfl⟩

/-- R85: a change of state taken on the state whose sheet has been formed. -/
theorem changeState_formed (h : DispatchCalm s u) (hk : (s.units[u]).kind = .genset) :
    HandsOn u (s.genset u).state new (changeState u new (formed s)) (followed u { s.genset u with state := new, timer := none } [] s) := by
  have move := changeState_follows (l := []) (dest := new) (f := id) h hk h.2.2.2.2.2.2.2.1 (h.2.2.2.2.2.2.2.2 u).1
  rwa [formedWith_nil, modGenset_same (s := formed s) (f := id) rfl] at move

/-! ## UNAVAILABLE (R81) -/

theorem toUnavailable_follows (h : DispatchCalm s u) (hk : (s.units[u]).kind = .genset) :
    HandsOn u (s.genset u).state .unavailable (toUnavailable u (formed s))
      (followed u { s.genset u with state := .unavailable, startCause := .absent, owed := none, timer := none } [] s) := by
  obtain ⟨-, -, queue, -, -, -, free, want, -⟩ := id h
  have withdrawn : withdrawCrank (fun c => c ≠ .operator) u (dispatchWithdraw none u (formed s)) = formed s := by
    rw [dispatchWithdraw_empty (s := formed s) queue, withdrawCrank_absent (s := formed s) free]
  rw [toUnavailable, withdrawn]
  exact changeState_follows (l := []) (f := fun g => { g with owed := none, startCause := .absent }) h hk want rfl

/-! ## LOCKED_OUT (R84) -/

/-- R84, R172: what a lockout logs. -/
def lockoutEvent (cause : LockoutCause) (u : Fin 16) (s : State) : Logged :=
  match cause with
  | .startFail | .closeFail => (.startFail, unitSubject u, (s.genset u).crankAttempts, cause.detail)
  | _ => (.gensetTrip, unitSubject u, (s.units[u]).p.getD 0, cause.detail)

theorem logLockout_eq {cause : LockoutCause} :
    logLockout u cause s = { s with record := s.recordWith [lockoutEvent cause u s] } := by cases cause <;> rfl

/-- R84: the control word of a genset that is locked out. -/
def lockedWord (cause : LockoutCause) (g : GensetControl) : GensetControl :=
  { g with state := .lockedOut, lockout := cause, startCause := .absent, attempts := 0, owed := none, timer := none }

/-- R84: with nothing to withdraw, the entry to LOCKED_OUT logs and clears. -/
theorem lockoutReady_alone {cause : LockoutCause} (hq : s.orders.queue = []) (hu : u ∉ s.arbiter.units) :
    lockoutReady cause u s = ({ s with record := s.recordWith [lockoutEvent cause u s] } : State).modGenset u fun g =>
      { g with owed := none, attempts := 0, startCause := .absent, lockout := cause } := by
  unfold lockoutReady
  simp only
  rw [dispatchWithdraw_empty hq, withdrawCrank_absent hu, withdraw_empty _ _ _ hq, withdraw_empty _ _ _ hq, logLockout_eq]

/-- R82, R84: a lockout, from the genset's own state or as one that left ONLINE. -/
theorem lockOut_follows {cause : LockoutCause} (h : DispatchCalm s u) (hk : (s.units[u]).kind = .genset) :
    HandsOn u old .lockedOut (lockOut cause u ((formed s).modGenset u fun g => { g with state := old }))
      (followed u (lockedWord cause (s.genset u)) [lockoutEvent cause u s] s) := by
  obtain ⟨-, -, queue, -, -, -, free, want, -⟩ := id h
  have event : lockoutEvent cause u ((formed s).modGenset u fun g => { g with state := old }) = lockoutEvent cause u s := by
    simp only [lockoutEvent, genset_modGenset, modGenset_entry]
    rfl
  have ready : lockoutReady cause u ((formed s).modGenset u fun g => { g with state := old }) =
      (formedWith [lockoutEvent cause u s] s).modGenset u fun g =>
        { g with state := old, owed := none, attempts := 0, startCause := .absent, lockout := cause } := by
    rw [lockoutReady_alone (s := (formed s).modGenset u fun g => { g with state := old }) queue free, event]
    exact modGenset_modGenset (s := formedWith [lockoutEvent cause u s] s) (u := u) (f := fun g => { g with state := old })
      (g := fun g => { g with owed := none, attempts := 0, startCause := .absent, lockout := cause })
  rw [lockOut_eq, ready]
  exact changeState_follows (f := fun g => { g with state := old, owed := none, attempts := 0, startCause := .absent, lockout := cause })
    h hk want rfl

theorem lockOut_formed {cause : LockoutCause} (h : DispatchCalm s u) (hk : (s.units[u]).kind = .genset) :
    HandsOn u (s.genset u).state .lockedOut (lockOut cause u (formed s))
      (followed u (lockedWord cause (s.genset u)) [lockoutEvent cause u s] s) := by
  have move := lockOut_follows (old := (s.genset u).state) (cause := cause) h hk
  rwa [modGenset_same (s := formed s) rfl] at move

/-! ## The derived state (R79) -/

/-- R79: the control word of a genset that takes its derived state. -/
def derivedWord (r : UnitRec) (g : GensetControl) : GensetControl :=
  if r.engine ≠ .firing then { g with state := .stopped, timer := none }
  else if r.breaker = .closed then { g with state := .online, timer := none }
  else { g with state := .cooldown, timer := some (timeMs r.cooldown) }

/-- R79, R99: the cooldown timer starts in full. -/
theorem toCooldown_follows (h : DispatchCalm s u) (hk : (s.units[u]).kind = .genset) (hc : timeMs (s.units[u]).cooldown ≠ 0) :
    HandsOn u (s.genset u).state .cooldown (toCooldown u (formed s))
      (followed u { s.genset u with state := .cooldown, timer := some (timeMs (s.units[u]).cooldown) } [] s) := by
  obtain ⟨r, hr, hmem, move⟩ := changeState_formed (new := .cooldown) h hk
  refine ⟨r, hr, hmem, ?_⟩
  have timed : (followed u { s.genset u with state := .cooldown, timer := none } [] s).modGenset u
      (fun g => { g with timer := some (timeMs (s.units[u]).cooldown) }) =
      followed u { s.genset u with state := .cooldown, timer := some (timeMs (s.units[u]).cooldown) } [] s := by
    have sheet := computeSheet_modGenset (s := s.modGenset u fun _ => { s.genset u with state := .cooldown, timer := none }) u
      (fun g => { g with timer := some (timeMs (s.units[u]).cooldown) }) rfl rfl
    rw [modGenset_modGenset] at sheet
    have units := modGenset_modGenset (s := s) (u := u) (f := fun _ => { s.genset u with state := .cooldown, timer := none })
      (g := fun g => { g with timer := some (timeMs (s.units[u]).cooldown) })
    simp only [followed, formedWith, formed, sheet]
    exact congrArg (fun x : State => ({ x with
      sheet := computeSheet (s.modGenset u fun _ => { s.genset u with state := .cooldown, timer := none })
      record := s.recordWith [] } : State)) units
  rw [toCooldown, startStateTimer, if_neg (by exact hc), move, ← timed]
  rfl

/-- R79, log 18: the derived state; ONLINE is logged where the rule says so. -/
theorem toDerived_follows {b : Bool} (h : DispatchCalm s u) (hk : (s.units[u]).kind = .genset) (hlast : (s.units[u]).lastPos ≠ none)
    (hc : timeMs (s.units[u]).cooldown ≠ 0) :
    HandsOn u (s.genset u).state (derivedWord s.units[u] (s.genset u)).state (toDerived b u (formed s))
      (followed u (derivedWord s.units[u] (s.genset u))
        (if b = true ∧ (derivedWord s.units[u] (s.genset u)).state = .online then
          [(.gensetOnline, unitSubject u, (s.units[u]).rated, detailNone)] else []) s) := by
  have known : (s.units[u]).lastPos.isNone = false := Option.isNone_eq_false_iff.mpr (Option.isSome_iff_ne_none.mpr hlast)
  have state : derivedState ((formed s).units[u]) = derivedState s.units[u] := rfl
  unfold toDerived
  rw [state]
  by_cases firing : (s.units[u]).engine = .firing
  · by_cases closed : (s.units[u]).breaker = .closed
    · have online := changeState_formed (new := .online) h hk
      simp only [derivedState, derivedWord, known, firing, closed, if_true, if_false, ne_eq, not_true_eq_false, Bool.false_eq_true]
      cases b
      · exact online
      · exact online.log
    · simp only [derivedState, derivedWord, known, firing, closed, if_true, if_false, ne_eq, not_true_eq_false, Bool.false_eq_true,
        reduceCtorEq, and_false]
      exact toCooldown_follows h hk hc
  · simp only [derivedState, derivedWord, known, firing, if_true, if_false, ne_eq, not_false_eq_true, Bool.false_eq_true,
      reduceCtorEq, and_false]
    exact changeState_formed h hk

/-! ## The rule that takes the report (R80 to R83) -/

theorem gensetReport_calm (h : DispatchCalm s u) (hk : (s.units[u]).kind = .genset) : gensetReport u (formed s) =
    match (s.genset u).state with
    | .unknown => if (s.units[u]).kept then toUnavailable u (formed s) else toDerived false u (formed s)
    | .unavailable => if (s.units[u]).kept then formed s else toDerived true u (formed s)
    | .lockedOut => formed s
    | _ => if (s.units[u]).kept then toUnavailable u (formed s) else reportInState u (formed s) := by
  obtain ⟨-, -, -, -, -, -, free, -, -⟩ := h
  have genset : (formed s).isGenset u = true := decide_eq_true hk
  have withdrawn : (if ((formed s).units[u]).isLocal then operatorWithdraw u (formed s) else formed s) = formed s := by
    rw [operatorWithdraw, withdrawCrank_absent (s := formed s) free, ite_self]
  unfold gensetReport
  simp only [genset, withdrawn]
  rfl

end Sys2Proof.Machine
end

section
/-!
SUPPORT. The event of a Position Report from a genset (R80 to R83), rule by rule, while Dispatch is calm. Settles O28.
-/

namespace Sys2Proof.Machine

variable {s s0 : State} {p : Port} {f : Frame} {t : Telegram} {u : Fin 16} {old : GensetState} {new : GensetControl} {l : List Logged}

/-! ## The rule that takes the report -/

theorem gensetReport_kept (h : DispatchCalm s u) (hk : (s.units[u]).kind = .genset) (hkept : (s.units[u]).kept = true)
    (ha : (s.genset u).state ≠ .unavailable) (hl : (s.genset u).state ≠ .lockedOut) :
    gensetReport u (formed s) = toUnavailable u (formed s) := by
  rw [gensetReport_calm h hk, hkept]
  split
  · rfl
  · contradiction
  · contradiction
  · rfl

theorem gensetReport_driven (h : DispatchCalm s u) (hk : (s.units[u]).kind = .genset) (hkept : (s.units[u]).kept = false)
    (hn : (s.genset u).state ≠ .unknown) (ha : (s.genset u).state ≠ .unavailable) (hl : (s.genset u).state ≠ .lockedOut) :
    gensetReport u (formed s) = reportInState u (formed s) := by
  rw [gensetReport_calm h hk, hkept]
  split
  · contradiction
  · contradiction
  · contradiction
  · rfl

/-- R82: an open breaker under a genset that is ONLINE or UNLOADING. -/
def Trips (s : State) (u : Fin 16) : Prop :=
  (s.units[u]).breaker = .opened ∧ ((s.genset u).state = .online ∨ (s.genset u).state = .unloading)

theorem reportInState_tripped (h : Trips s u) : reportInState u (formed s) = tripUnit u (formed s) := by
  obtain ⟨opened, state⟩ := h
  refine if_pos ?_
  rw [Bool.and_eq_true, Bool.or_eq_true]
  exact ⟨decide_eq_true opened, state.imp decide_eq_true decide_eq_true⟩

/-- R83: what the engine makes of a genset in this state. -/
def engineRule (engine : Engine) (state : GensetState) (u : Fin 16) (s : State) : State :=
  match engine, state with
  | .faulted, _ => lockOut .engineFault u s
  | .stopped, .warming | .absent, .warming | .stopped, .closing | .absent, .closing => lockOut .startFail u s
  | .stopped, .cooldown => (changeState u .stopped s).log .gensetStopped (unitSubject u) 0 detailNone
  | .firing, .stopped => toDerived true u s
  | _, _ => s

/-- R83: other reports leave the genset as it is. -/
theorem engineRule_same {engine : Engine} {state : GensetState} (he : engine ≠ .faulted)
    (hs : state = .startQueued ∨ state = .cranking ∨ state = .crankRest ∨ state = .online ∨ state = .unloading ∨
      state = .opening ∨ state = .stopping ∨ (state = .stopped ∧ engine ≠ .firing) ∨ (state = .cooldown ∧ engine ≠ .stopped) ∨
      ((state = .warming ∨ state = .closing) ∧ engine ≠ .stopped ∧ engine ≠ .absent)) : engineRule engine state u s = s := by
  unfold engineRule
  split
  case h_8 => rfl
  all_goals simp at he hs

/-- R83: the rules of a report that shows no trip. -/
theorem reportInState_untripped (h : ¬ Trips s u) : reportInState u (formed s) =
    engineRule (s.units[u]).engine (s.genset u).state u (formed s) := by
  refine (if_neg fun trips => h ?_).trans ?_
  · rw [Bool.and_eq_true, Bool.or_eq_true] at trips
    exact ⟨of_decide_eq_true trips.1, trips.2.imp of_decide_eq_true of_decide_eq_true⟩
  · unfold engineRule
    rfl

theorem not_trips_of_state (h1 : (s.genset u).state ≠ .online) (h2 : (s.genset u).state ≠ .unloading) : ¬ Trips s u :=
  fun trips => trips.2.elim h1 h2

/-! ## The event -/

theorem deviceReported_unit : s.deviceReported (.unit u) t = s.modUnit u (writeUnitDevice (positionOf t)) := by
  have write : ∀ r : UnitRec, writeUnitDevice (positionOf t) r = { r with
      lastPos := some t.seq, breaker := (([.opened, .closed, .moving, .unknown] : List Breaker)[read8 t.body 1]?).getD r.breaker
      isLocal := (octet t.body 3).getLsbD 2, inhibit := (octet t.body 3).getLsbD 0
      engine := if r.kind = .genset then
        (([.absent, .stopped, .prelube, .cranking, .firing, .cooling, .faulted] : List Engine)[read8 t.body 2]?).getD r.engine else r.engine
      unloaded := if r.kind = .genset then (octet t.body 3).getLsbD 3 else r.unloaded } := fun r => by
    unfold writeUnitDevice
    split <;> rfl
  exact congrArg (State.modUnit s u) (funext fun r => (write r).symm)

/-- R16, R29: what is left of the event once the report stands in its record: the sheet, then the genset's own rule. -/
structure Reported (s s0 : State) (p : Port) (f : Frame) (u : Fin 16) : Prop where
  event : exec (.positionReport p f) s = .next (settle ((recompute s0).post [.gensetReport u]))
  calm : DispatchCalm s0 u
  kind : (s0.units[u]).kind = .genset
  idle : s0.handovers = []
  word : s0.genset u = s.genset u
  bank : s0.bank = s.bank
  record : ∀ l, s0.recordWith l = s.recordWith l
  seq : s0.seq = s.seq

theorem reported_of_arrives (h : Arrives s p f t) (hk : t.kind = kindPositionReport) (hu : recordOf s t.sender = some (.unit u))
    (hg : (s.units[u]).kind = .genset) (hnew : newerOrFirst t.seq (s.units[u]).lastPos = true) (htag : octet t.body 0 = 0)
    (hinh : (octet t.body 3).getLsbD 0 = (s.units[u]).inhibit) (hc : DispatchCalm s u) :
    Reported s ((passedOn p f t s).deviceReported (.unit u) t) p f u := by
  rw [deviceReported_unit]
  have entry : ((passedOn p f t s).modUnit u (writeUnitDevice (positionOf t))).units[u] = writeUnitDevice (positionOf t) s.units[u] := by
    rw [modUnit_units, Fin.getElem_fin, modifyAt_get, if_pos rfl]
    exact congrArg (fun x : Vector UnitRec 16 => writeUnitDevice (positionOf t) x[u]) passedOn_units
  have kept : (writeUnitDevice (positionOf t) s.units[u]).kind = (s.units[u]).kind ∧
      (writeUnitDevice (positionOf t) s.units[u]).genset = (s.units[u]).genset := by
    unfold writeUnitDevice
    split <;> exact ⟨rfl, rfl⟩
  obtain ⟨kind, word⟩ := kept
  have silent : orderHandovers (.unit u) (positionOf t) (s.units[u]).inhibit = [] := by
    simp only [orderHandovers, positionOf, htag, hinh, ne_eq, not_true_eq_false, if_false, List.append_nil]
  refine ⟨?_, ?_, ?_, ?_, ?_, ?_, fun l => ?_, ?_⟩
  · rw [exec_positionReport h hk, takePositionReport_unit (passedOn_recordOf.trans hu), passedOn_units, if_pos hnew, acceptUnitReport,
      passedOn_units]
    simp only [silent, hg, if_true, List.nil_append]
  · obtain ⟨-, -, -, -, -, -, -, want, each⟩ := id hc
    refine calm_congr hc (by simp) ?_ ?_ ?_ ?_ ?_ (fun v hv => ?_) ?_ ?_ ?_
    · rw [State.modUnit, passedOn_frame]
    · rw [State.modUnit, passedOn_frame]
    · rw [State.modUnit, passedOn_frame]
    · rw [State.modUnit, passedOn_frame]
    · rw [State.modUnit, passedOn_frame]
    · rw [modUnit_units, Fin.getElem_fin, modifyAt_get, if_neg hv.symm]
      exact congrArg (fun x : Vector UnitRec 16 => x[v]) passedOn_units
    · rw [State.genset, entry, word]; exact want
    · rw [State.genset, entry, word]; exact (each u).1
    · rw [entry, UnitRec.participating, kind, hg]; rfl
  · rw [entry, kind]; exact hg
  · rw [State.modUnit]; exact passedOn_handovers.trans h.1.2
  · rw [State.genset, entry, word]; rfl
  · exact passedOn_bank
  · exact passedOn_recordWith
  · exact passedOn_seq

/-- R80 to R85: the event moves the genset to this control word and logs these events, if the sheet then needs no start. -/
def Moves (s s0 : State) (p : Port) (f : Frame) (u : Fin 16) (new : GensetControl) (l : List Logged) : Prop :=
  let sheet := computeSheet (s0.modGenset u fun _ => new)
  ((s0.genset u).state = .online ∨ (s0.genset u).state = .unloading → new.state ≠ (s0.genset u).state →
    sheet.req + s.bank.startMargin ≤ sheet.exp) →
  exec (.positionReport p f) s = .next { s0.modGenset u fun _ => new with
    sheet := sheet
    record := s.recordWith l
    seq := if new.state = .online ∧ (s0.genset u).state ≠ .online then { s.seq with deadBusTimer := none, declared := false } else s.seq }

namespace Reported

variable (h : Reported s s0 p f u)
include h

theorem stays (hx : gensetReport u (formed s0) = formed s0) : Moves s s0 p f u (s0.genset u) [] := by
  intro _
  rw [h.event, settle_report_stays h.calm h.idle hx, if_neg (fun x => x.2 x.1), ← h.record, ← h.seq]
  rfl

/-- R85: a move away from ONLINE is counted as such for a trip out of UNLOADING too (R82). -/
theorem moves (hx : HandsOn u old new.state (gensetReport u (formed s0)) (followed u new l s0)) (hwant : new.want = false)
    (howed : new.owed = none)
    (hleft : old = .online → new.state ≠ .online ∧ new.state ≠ (s0.genset u).state ∧
      ((s0.genset u).state = .online ∨ (s0.genset u).state = .unloading))
    (hjoined : new.state = .online → (s0.genset u).state ≠ .online) : Moves s s0 p f u new l := by
  intro hneed
  rw [h.event, ← h.record, ← h.seq]
  by_cases online : new.state = .online
  · rw [settle_report_joined h.calm h.idle h.kind hx online hwant howed fun left => (hleft left).1 online,
      if_pos ⟨online, hjoined online⟩]
    rfl
  · rw [settle_report_left h.calm h.idle h.kind hx online hwant howed fun left => ?_, if_neg (fun x => online x.1)]
    · rfl
    · obtain ⟨-, moved, was⟩ := hleft left
      rw [h.bank]
      exact hneed was moved

theorem want : (s0.genset u).want = false := h.calm.2.2.2.2.2.2.2.1

theorem owed : (s0.genset u).owed = none := (h.calm.2.2.2.2.2.2.2.2 u).1

theorem derivedWord_kept {r : UnitRec} : (derivedWord r (s0.genset u)).want = false ∧ (derivedWord r (s0.genset u)).owed = none := by
  unfold derivedWord
  split_ifs <;> exact ⟨h.want, h.owed⟩

/-- R79: the derived state, taken from a state that is not ONLINE. -/
theorem moves_derived {b : Bool} (hx : gensetReport u (formed s0) = toDerived b u (formed s0)) (hlast : (s0.units[u]).lastPos ≠ none)
    (hc : timeMs (s0.units[u]).cooldown ≠ 0) (hold : (s0.genset u).state ≠ .online) :
    Moves s s0 p f u (derivedWord s0.units[u] (s0.genset u))
      (if b = true ∧ (derivedWord s0.units[u] (s0.genset u)).state = .online then
        [(.gensetOnline, unitSubject u, (s0.units[u]).rated, detailNone)] else []) := by
  have move := toDerived_follows (b := b) h.calm h.kind hlast hc
  rw [← hx] at move
  exact h.moves move h.derivedWord_kept.1 h.derivedWord_kept.2 (fun left => absurd left hold) fun _ => hold

/-- R84: a lockout that a report gives rise to. -/
theorem moves_locked {cause : LockoutCause} (hx : gensetReport u (formed s0) = lockOut cause u (formed s0))
    (hold : (s0.genset u).state ≠ .lockedOut) : Moves s s0 p f u (lockedWord cause (s0.genset u)) [lockoutEvent cause u s0] := by
  have move := lockOut_formed (cause := cause) h.calm h.kind
  rw [← hx] at move
  exact h.moves move h.want rfl (fun left => ⟨nofun, hold.symm, .inl left⟩) nofun

/-- R81: entry to UNAVAILABLE. -/
theorem moves_unavailable (hkept : (s0.units[u]).kept = true) (ha : (s0.genset u).state ≠ .unavailable)
    (hl : (s0.genset u).state ≠ .lockedOut) : Moves s s0 p f u
      { s0.genset u with state := .unavailable, startCause := .absent, owed := none, timer := none } [] := by
  have move := toUnavailable_follows h.calm h.kind
  rw [← gensetReport_kept h.calm h.kind hkept ha hl] at move
  exact h.moves move h.want rfl (fun left => ⟨nofun, ha.symm, .inl left⟩) nofun

/-- R82: a trip, counted as one that left ONLINE. -/
theorem moves_tripped (hkept : (s0.units[u]).kept = false) (ht : Trips s0 u) : Moves s s0 p f u
    (lockedWord .breakerTrip (s0.genset u)) [lockoutEvent .breakerTrip u s0] := by
  have apart : ∀ {x : GensetState}, x ≠ .online → x ≠ .unloading → (s0.genset u).state ≠ x := fun h1 h2 e =>
    ht.2.elim (fun o => h1 (e.symm.trans o)) fun o => h2 (e.symm.trans o)
  have report : gensetReport u (formed s0) = lockOut .breakerTrip u ((formed s0).modGenset u fun g => { g with state := .online }) :=
    (gensetReport_driven h.calm h.kind hkept (apart nofun nofun) (apart nofun nofun) (apart nofun nofun)).trans (reportInState_tripped ht)
  have move := lockOut_follows (old := .online) (cause := .breakerTrip) h.calm h.kind
  rw [← report] at move
  exact h.moves move h.want rfl (fun _ => ⟨nofun, (apart (x := .lockedOut) nofun nofun).symm, ht.2⟩) nofun

/-- R82, R83: in a state that Dispatch drives and that a breaker does not trip, the engine decides. -/
theorem report_driven {x : GensetState} (hkept : (s0.units[u]).kept = false) (hx : (s0.genset u).state = x)
    (hn : x ≠ .unknown) (ha : x ≠ .unavailable) (hl : x ≠ .lockedOut) (ht : ¬ Trips s0 u) : gensetReport u (formed s0) =
    engineRule (s0.units[u]).engine x u (formed s0) := by
  subst hx
  exact (gensetReport_driven h.calm h.kind hkept hn ha hl).trans (reportInState_untripped ht)

/-- R83: an engine that has cooled down and stopped. -/
theorem moves_cooled (hkept : (s0.units[u]).kept = false) (hx : (s0.genset u).state = .cooldown)
    (he : (s0.units[u]).engine = .stopped) : Moves s s0 p f u { s0.genset u with state := .stopped, timer := none }
      [(.gensetStopped, unitSubject u, 0, detailNone)] := by
  have report : gensetReport u (formed s0) = (changeState u .stopped (formed s0)).log .gensetStopped (unitSubject u) 0 detailNone := by
    rw [h.report_driven hkept hx nofun nofun nofun (not_trips_of_state (hx.trans_ne nofun) (hx.trans_ne nofun)), he]
    rfl
  have move := (changeState_formed (new := .stopped) h.calm h.kind).log (kind := .gensetStopped) (subject := unitSubject u) (value := 0)
    (detail := detailNone)
  rw [← report] at move
  exact h.moves move h.want h.owed (fun left => absurd (hx.symm.trans left) nofun) nofun

/-- R83: a start that fails because the engine is not running. -/
theorem moves_failed (hkept : (s0.units[u]).kept = false) (hx : (s0.genset u).state = .warming ∨ (s0.genset u).state = .closing)
    (he : (s0.units[u]).engine = .stopped ∨ (s0.units[u]).engine = .absent) : Moves s s0 p f u
      (lockedWord .startFail (s0.genset u)) [lockoutEvent .startFail u s0] := by
  have fails : ∀ {x : GensetState}, (s0.genset u).state = x → x = .warming ∨ x = .closing →
      gensetReport u (formed s0) = lockOut .startFail u (formed s0) := by
    rintro x hx (rfl | rfl)
    all_goals
      have report := h.report_driven hkept hx nofun nofun nofun (not_trips_of_state (hx.trans_ne nofun) (hx.trans_ne nofun))
      rcases he with he | he <;> rwa [he] at report
  rcases hx with hx | hx
  · exact h.moves_locked (fails hx (.inl rfl)) (hx.trans_ne nofun)
  · exact h.moves_locked (fails hx (.inr rfl)) (hx.trans_ne nofun)

end Reported

/-! ## Settled -/

theorem lastPos_reported {p : Port} {f : Frame} :
    (((passedOn p f t s).deviceReported (.unit u) t).units[u]).lastPos = some t.seq ∧
    (((passedOn p f t s).deviceReported (.unit u) t).units[u]).cooldown = (s.units[u]).cooldown := by
  rw [State.deviceReported, modUnit_units, Fin.getElem_fin, modifyAt_get, if_pos rfl]
  exact ⟨rfl, congrArg (fun x : Vector UnitRec 16 => x[u].cooldown) passedOn_units⟩

theorem kept_iff {r : UnitRec} : r.kept = true ↔ r.mode = .manual ∨ r.isLocal = true := by
  simp [UnitRec.kept]

/-- Settles O28: the report leaves its record and the genset's own rule, and each rule is one move of the control word. -/
theorem gensetFollowsItsReports : Obligations.GensetFollowsItsReports := by
  intro s p f t u harr hk hu hg hlast htag hinh hcalm hcool s0
  have hnew : newerOrFirst t.seq (s.units[u]).lastPos = true := by
    rcases hlast with none | ⟨l, some, newer⟩
    · rw [none]; rfl
    · rw [some]; exact newer
  have h : Reported s s0 p f u := reported_of_arrives harr hk hu hg hnew htag hinh hcalm
  have hpos : (s0.units[u]).lastPos ≠ none := by rw [lastPos_reported.1]; exact nofun
  have hcd : timeMs (s0.units[u]).cooldown ≠ 0 := by rwa [lastPos_reported.2]
  rw [← h.word]
  intro r g kept tripped moves derived online locked
  have free : ∀ {P : Prop}, ((s0.units[u]).kept = false → P) → ¬ kept → P := fun e x => e (Bool.eq_false_iff.mpr (mt kept_iff.mp x))
  have logs_online (move : Moves s s0 p f u (derivedWord s0.units[u] (s0.genset u))
      (if true = true ∧ (derivedWord s0.units[u] (s0.genset u)).state = .online then
        [(EventKind.gensetOnline, unitSubject u, ((s0.units[u]).rated : Int), detailNone)] else [])) : moves derived online := by
    by_cases joined : derived.state = .online
    · rw [if_pos ⟨rfl, joined⟩] at move
      rw [show online = [(EventKind.gensetOnline, (r.rated : Int), 0)] from if_pos joined]
      exact move
    · rw [if_neg fun y => joined y.2] at move
      rw [show online = [] from if_neg joined]
      exact move
  refine ⟨fun state => h.stays ?_, fun x state => h.stays ?_, fun x ha hl => h.moves_unavailable (kept_iff.mpr x) ha hl,
    free fun x => ⟨fun state => ?_, fun state => logs_online (h.moves_derived ?_ hpos hcd (state.trans_ne nofun)),
    fun trip => h.moves_tripped x trip, fun trip engine hn ha hl => h.moves_locked (cause := .engineFault) ?_ hl, fun state engine => ?_,
    fun state engine => h.moves_cooled x state engine,
    fun state engine => logs_online (h.moves_derived ?_ hpos hcd (state.trans_ne nofun)), fun trip engine state => h.stays ?_⟩⟩
  · rw [gensetReport_calm h.calm h.kind, show (s0.genset u).state = .lockedOut from state]
  · rw [gensetReport_calm h.calm h.kind, show (s0.genset u).state = .unavailable from state]
    exact if_pos (kept_iff.mpr x)
  · refine h.moves_derived (b := false) ?_ hpos hcd (state.trans_ne nofun)
    rw [gensetReport_calm h.calm h.kind, show (s0.genset u).state = .unknown from state, x]
    rfl
  · rw [gensetReport_calm h.calm h.kind, show (s0.genset u).state = .unavailable from state, x]
    rfl
  · rw [h.report_driven x rfl hn ha hl trip, show (s0.units[u]).engine = .faulted from engine]
    rfl
  · have attempts : (((s0.genset u).crankAttempts : Nat) : Int) = if g.fromCooldown then 0 else (g.attempts : Int) := by
      rw [GensetControl.crankAttempts, Nat.cast_ite]
      rfl
    have move := h.moves_failed x state engine
    rw [show lockoutEvent .startFail u s0 = (.startFail, unitSubject u, _, LockoutCause.startFail.detail) from rfl, attempts] at move
    exact move
  · rw [h.report_driven x (show (s0.genset u).state = .stopped from state) nofun nofun nofun
      (not_trips_of_state (state.trans_ne nofun) (state.trans_ne nofun)), show (s0.units[u]).engine = .firing from engine]
    rfl
  · have rule : engineRule r.engine g.state u (formed s0) = formed s0 := engineRule_same engine state
    have apart : g.state ≠ .unknown ∧ g.state ≠ .unavailable ∧ g.state ≠ .lockedOut := by
      refine ⟨?_, ?_, ?_⟩ <;> intro none <;> simp [none] at state
    exact (h.report_driven x rfl apart.1 apart.2.1 apart.2.2 trip).trans rule

end Sys2Proof.Machine
end

section
/-!
SUPPORT. A frequency sample of the reference that gives the frequency (R10, R19, R31, R32): how it reaches the entry, the Frequency History
and the sheet, and what of its cascade follows the work of Shedding.
-/

namespace Sys2Proof.Machine

variable {s : State} {p : Port} {f : Frame} {t : Telegram} {i : Fin 64} {v : Int}

/-- R9: a reported F, clamped to its range. -/
def clampedFreq (v : Int) : Nat := (max 0 (min 99999 v)).toNat

/-- R7, R9: a report's F, clamped to its range. -/
theorem freqItem_of_f {l : List (Nat × Int)} (hf : l.find? (fun x => x.1 = 2) = some (2, v)) :
    freqItem l = some (max 0 (min 99999 v), max 0 (min 99999 v) != v) := by
  have first : firstItem quantityF l = some v := congrArg (Option.map Prod.snd) hf
  rw [freqItem, clampedItem, first]
  rfl

theorem voltItem_of_no_u {l : List (Nat × Int)} (hu : ∀ x ∈ l, x.1 ≠ 3) : voltItem l = none := by
  have absent : l.find? (fun x => x.1 = 3) = none := List.find?_eq_none.mpr fun x hx => by simpa using hu x hx
  have first : firstItem quantityU l = none := congrArg (Option.map Prod.snd) absent
  rw [voltItem, clampedItem, first, Option.map_none]

/-- R8 to R10: the entry of a reference after a report with an F and no U. -/
def withF (v : Int) (e : SourceEntry) : SourceEntry :=
  { e with
    fresh := true, staleTimer := some (timeOrSecond e.staleLimit), f := some (clampedFreq v)
    clamped := decide ((clampedFreq v : Int) ≠ v) }

section
variable {r : SampleReport}

theorem sampleWritten_f (hrole : (s.sources[i]).role = .reference) (hfresh : (s.sources[i]).fresh = true)
    (hf : r.items.find? (fun x => x.1 = 2) = some (2, v)) (hu : ∀ x ∈ r.items, x.1 ≠ 3) :
    sampleWritten i r s = s.modSource i (withF v) := by
  have entry : writeSource r.items s.sources[i] = { s.sources[i] with
      f := some (clampedFreq v), clamped := decide ((clampedFreq v : Int) ≠ v) } := by
    have clamped : (max 0 (min 99999 v) != v) = decide ((clampedFreq v : Int) ≠ v) := by
      rw [clampedFreq, Int.toNat_of_nonneg (le_max_left 0 _)]
      exact Bool.eq_iff_iff.mpr (by simp)
    simp only [writeSource, hrole, freqItem_of_f hf, voltItem_of_no_u hu, written, clamped, clampedAfter, List.all_cons,
      Option.isNone_none, Option.isNone_some, Bool.true_and, Bool.false_and, Bool.false_eq_true, if_false, List.any_cons,
      Option.any_none, Option.any_some, List.any_nil, Bool.or_false]
    rfl
  have wrote : writeItems i r.items s = s.modSource i (writeSource r.items) := by
    simp only [writeItems, hrole]
  have stays : ((s.modSource i (writeSource r.items)).sources[i]).fresh = true := by
    rw [modSource_entry, entry]
    exact hfresh
  simp only [sampleWritten, makeFresh, wrote, if_pos stays, modSource_modSource]
  exact modSource_congr (by rw [entry]; simp [withF])

/-- R10, R19: a report with an F of the reference that gives the frequency is a frequency sample. -/
theorem acceptSample_f (hrole : (s.sources[i]).role = .reference) (hsource : s.freqSource = .reference i)
    (hfresh : (s.sources[i]).fresh = true) (hknown : (s.sources[i]).f ≠ none)
    (hf : r.items.find? (fun x => x.1 = 2) = some (2, v)) (hu : ∀ x ∈ r.items, x.1 ≠ 3) :
    acceptSample i r s = takeSample (some (clampedFreq v)) r.time (s.modSource i (withF v)) := by
  have wrote := sampleWritten_f hrole hfresh hf hu
  have before : (entryFreq s i).isNone = false := by
    simp only [entryFreq, hrole]
    exact Option.isNone_eq_false_iff.mpr (Option.isSome_iff_ne_none.mpr hknown)
  have chosen : sampleChosen i r s = s.modSource i (withF v) := by
    unfold sampleChosen
    simp only [wrote, before, hfresh, Bool.false_and, Bool.not_true, Bool.or_false, Bool.false_eq_true, if_false]
  have role : ((s.modSource i (withF v)).sources[i]).role = .reference := by rw [modSource_entry]; exact hrole
  have freq : sampleFreq (s.modSource i (withF v)) i r.items = some (clampedFreq v) := by
    have source : (s.modSource i (withF v)).freqSource = .reference i := hsource
    simp only [sampleFreq, role, source, freqItem_of_f hf, decide_true, if_true, Option.map_some]
    rfl
  have none_told : sampleHandovers (s.modSource i (withF v)) i (s.sources[i]).fresh r.items = [] := by
    simp only [sampleHandovers, role, voltItem_of_no_u hu, hfresh]
    simp
  rw [acceptSample_eq]
  simp only [hrole, chosen, recomputeFor, freq, none_told, post_nil]

end

/-- R19, R31: the sample stands in the entry, the history and the sheet, RoCoF still to be formed. -/
def sampleJoined (i : Fin 64) (t : Telegram) (v : Int) (s : State) : State :=
  let taken := s.modSource i fun e => { e with
    lastSeq := some t.seq, lastArrival := some s.partTime, staleTimer := some (timeOrSecond e.staleLimit)
    f := some (clampedFreq v), clamped := decide ((clampedFreq v : Int) ≠ v) }
  { taken with
    history := appendSample ⟨clampedFreq v, BitVec.ofNat 32 (read32 t.body 0)⟩ s.history
    sheet := { s.sheet with freq := some (clampedFreq v) } }

/-- R32: RoCoF over a history, from its newest sample. -/
theorem rocofOver_last {l : List Sample} {window : Nat} {new : Sample} (last : l.getLast? = some new) : rocofOver l window =
    if l.length < window then none
    else match l[l.length - window]? with
      | none => none
      | some old =>
        if 1 ≤ (new.time - old.time).toNat ∧ (new.time - old.time).toNat ≤ 2000000 then
          some (max (-32767) (min 32767 ((((new.freq : Int) - old.freq) * 1000000).tdiv (new.time - old.time).toNat)))
        else none := by
  unfold rocofOver
  rw [last]
  cases l[l.length - window]? <;> rfl

/-- R32: RoCoF formed over the history with the sample. -/
theorem formRocof_joined : formRocof (sampleJoined i t v s) = s.sampleTaken i t v := by
  have last : (sampleJoined i t v s).history.getLast? = some ⟨clampedFreq v, BitVec.ofNat 32 (read32 t.body 0)⟩ := by
    simp [sampleJoined, appendSample]
  rw [formRocof, rocofOver_last last]
  rfl

/-- R10, R31: the event of a frequency sample is its work at Shedding, and then at the Sequencer and the Order Unit. -/
theorem exec_freqReport (h : FreqReport s p f t i v) (hseq : newerOrFirst t.seq (s.sources[i]).lastSeq = true) {y : State}
    {l : List Handover} (hshed : shedSample (clampedFreq v) ((passedOn p f t s).sampleTaken i t v) = y.post l) (hy : y.handovers = []) :
    exec (.sampleReport p f) s = .next (settleLoop (2 ^ 64 - 8 + 7) (l ++ [.sampleJobs (clampedFreq v)]) y) := by
  obtain ⟨arrives, kind, found, source, role, fresh, known, valid, hf, hu⟩ := h
  have taken : acceptSample i (sampleOf t) (admitted i p f t s) =
      (sampleJoined i t v (passedOn p f t s)).post [.sample (clampedFreq v)] := by
    have entry := admitted_entry (s := s) (i := i) (p := p) (f := f) (t := t)
    rw [acceptSample_f (v := v) (by rw [entry]; exact role) (by rw [admitted, passedOn_frame]; exact source) (by rw [entry]; exact fresh)
      (by rw [entry]; exact known) hf hu, admitted, modSource_modSource]
    have same := modSource_congr (s := passedOn p f t s) (i := i)
      (g := fun e => withF v { e with lastSeq := some t.seq, lastArrival := some s.partTime })
      (k := fun e => { e with
        lastSeq := some t.seq, lastArrival := some (passedOn p f t s).partTime, staleTimer := some (timeOrSecond e.staleLimit)
        f := some (clampedFreq v), clamped := decide ((clampedFreq v : Int) ≠ v) }) (by simp only [withF, passedOn_sources, passedOn_partTime, fresh])
    rw [same]
    rfl
  have quiet : (sampleJoined i t v (passedOn p f t s)).handovers = [] := passedOn_handovers.trans arrives.1.2
  have handed : handle (.sample (clampedFreq v)) (sampleJoined i t v (passedOn p f t s)) = y.post (l ++ [.sampleJobs (clampedFreq v)]) := by
    rw [← post_post, ← hshed, ← formRocof_joined]
    rfl
  rw [exec_accepted arrives kind found (by rw [role]; nofun) (.inr hseq) valid, taken, settle_post quiet, settleLoop_handed handed hy,
    List.append_nil]

/-- R32, R109, R158: with no WAIT_FREQ step, a frequency not above f_ofc and no order waiting, the sample ends at Shedding. -/
theorem settleLoop_sampleJobs {n freq : Nat} (hq : s.handovers = []) (hs : s.seq.state ≠ .waiting) (hf : freq ≤ s.bank.fOfc)
    (ho : s.orders.queue = []) : settleLoop (n + 2) [.sampleJobs freq] s = s := by
  have jobs : handle (.sampleJobs freq) s = s.post [.sendTest] := by
    have waits : waitFreqTest s = s := if_neg (by simp [hs])
    simp only [handle, sampleJobs, waits, if_neg (Nat.not_lt.mpr hf), List.nil_append]
  have sent : handle .sendTest s = s := sendTest_empty ho
  rw [settleLoop_handed jobs hq, List.append_nil, settleLoop_cons sent hq, settleLoop_nil]

end Sys2Proof.Machine
end

section
/-!
SUPPORT. What the Order Unit leaves to Shedding, and the deficit walk (R126, R128, R129, R134): the entries it takes, where it ends, and
the progress it leaves.
-/

namespace Sys2Proof.Machine

variable {s t : State}

/-! ## The frame of the Order Unit -/

/-- What the walks read and the Order Unit leaves: Shedding's own state and the feeder records but for their order timers. -/
def State.shedView (s : State) : Shedding × (Fin 32 → FeederRec) :=
  (s.shed, fun k => { s.feeders[k] with cycle := none, holdOff := none })

theorem modFeeder_shedView {k : Fin 32} {g : FeederRec → FeederRec}
    (h : ∀ r, ({ g r with cycle := none, holdOff := none } : FeederRec) = { r with cycle := none, holdOff := none }) :
    (s.modFeeder k g).shedView = s.shedView := by
  refine Prod.ext rfl (funext fun j => ?_)
  simp only [State.shedView, modFeeder_feeders, Fin.getElem_fin, modifyAt_get]
  split_ifs
  · exact h _
  · rfl

@[simp] theorem log_shedView (k : EventKind) (x : Option Subject) (v : Int) (d : Nat) : (s.log k x v d).shedView = s.shedView := rfl
@[simp] theorem post_shedView (l : List Handover) : (s.post l).shedView = s.shedView := rfl
@[simp] theorem modOrders_shedView (g : OrderUnit → OrderUnit) : (s.modOrders g).shedView = s.shedView := rfl
@[simp] theorem countAccepted_shedView : (countAccepted s).shedView = s.shedView := rfl
@[simp] theorem formTelegram_shedView (k : Nat) (d : StationId) (b : Octets) : (formTelegram k d b s).shedView = s.shedView := rfl

@[simp] theorem setQueue_shedView (q : List Order) : (setQueue q s).shedView = s.shedView := by
  rw [setQueue, testQueueHigh_frame]
  rfl

@[simp] theorem setCycle_shedView (x : Target) (y : Timer) : (s.setCycle x y).shedView = s.shedView := by
  cases x
  · rfl
  · exact modFeeder_shedView fun _ => rfl

@[simp] theorem setHoldOff_shedView (x : Target) (y : Timer) : (s.setHoldOff x y).shedView = s.shedView := by
  cases x
  · rfl
  · exact modFeeder_shedView fun _ => rfl

@[simp] theorem recordEnd_shedView (o : Order) (e : OrderEnd) (v : Nat) : (recordEnd o e v s).shedView = s.shedView := by
  unfold recordEnd
  simp only
  split <;> rfl

@[simp] theorem endSlot_shedView (x : Slot) (e : OrderEnd) : (endSlot x e s).shedView = s.shedView := by
  unfold endSlot startHoldOff
  simp only [post_shedView]
  split <;> simp

@[simp] theorem endQueued_shedView (o : Order) (e : OrderEnd) (b : Bool) : (endQueued o e b s).shedView = s.shedView := by
  simp [endQueued]

@[simp] theorem freeze_shedView (x : Slot) : (freeze x s).shedView = s.shedView := by
  unfold freeze
  simp only
  split <;> simp

@[simp] theorem sendOne_shedView (o : Order) : (sendOne o s).shedView = s.shedView := by
  unfold sendOne
  simp only
  split_ifs <;> simp <;> split <;> simp

@[simp] theorem sendTest_shedView : (sendTest s).shedView = s.shedView := by
  rw [sendTest]
  induction s.orders.queue.length generalizing s with
  | zero => rfl
  | succ n ih => unfold sendLoop; split <;> simp [ih]

@[simp] theorem cancelWhere_shedView (p : Order → Bool) (own : Bool) : (cancelWhere p own s).shedView = s.shedView :=
  foldl_kept (P := fun t => t.shedView = s.shedView) (fun t x ht => by simpa using ht) _ rfl

@[simp] theorem dropLast_shedView : (dropLast s).shedView = s.shedView := by
  unfold dropLast
  split
  · rfl
  · split <;> simp

@[simp] theorem submitProtective_shedView (o : Order) : (submitProtective o s).shedView = s.shedView := by
  unfold submitProtective
  simp only
  split <;> simp

theorem shedView_shed (h : t.shedView = s.shedView) : t.shed = s.shed := congrArg Prod.fst h

theorem shedView_feeder (h : t.shedView = s.shedView) (k : Fin 32) :
    ({ t.feeders[k] with cycle := none, holdOff := none } : FeederRec) = { s.feeders[k] with cycle := none, holdOff := none } :=
  congrFun (congrArg Prod.snd h) k

/-! ## A feeder is taken (R128) -/

/-- R126: what makes a feeder eligible, beside the shed itself. -/
theorem eligibleFeeder_congr {k : Fin 32} (hr : ({ t.feeders[k] with cycle := none, holdOff := none } : FeederRec) =
      { s.feeders[k] with cycle := none, holdOff := none })
    (he : (t.shed.entryOf k).isNone = (s.shed.entryOf k).isNone) (hu : t.shed.underRestore = s.shed.underRestore) :
    eligibleFeeder t k = eligibleFeeder s k := by
  simp only [FeederRec.mk.injEq] at hr
  obtain ⟨used, mode, device, -, p, -, breaker, -, -, -, failed, -⟩ := hr
  simp only [eligibleFeeder, used, mode, device, p, breaker, failed, he, hu]

section
variable {k : Fin 32} {cause : ShedCause} {load : Nat}

theorem setStack_shed {l : List StackEntry} : (setStack l s).shed = { s.shed with stack := l } := rfl

/-- R128: the state as the TRIP of a feeder taken is submitted. -/
theorem takeFeeder_view (h : s.shed.underRestore ≠ some k) : (takeFeeder k cause load s).shedView =
    (({ s with shed := { s.shed with stack := s.shed.stack ++ [⟨k, load, cause, false⟩] } } : State).modFeeder k fun r =>
      { r with owner := .shed, shedLoad := some load }).shedView := by
  unfold takeFeeder
  simp only [if_neg h, log_shedView, submitProtective_shedView]
  rfl

theorem takeFeeder_shed (h : s.shed.underRestore ≠ some k) : (takeFeeder k cause load s).shed =
    { s.shed with stack := s.shed.stack ++ [⟨k, load, cause, false⟩] } := shedView_shed (takeFeeder_view h)

theorem takeFeeder_other {j : Fin 32} (h : s.shed.underRestore ≠ some k) (hj : j ≠ k) :
    ({ (takeFeeder k cause load s).feeders[j] with cycle := none, holdOff := none } : FeederRec) =
      { s.feeders[j] with cycle := none, holdOff := none } := by
  rw [shedView_feeder (takeFeeder_view h) j, modFeeder_feeders, Fin.getElem_fin, modifyAt_get, if_neg hj.symm]
  rfl

theorem takeFeeder_self (h : s.shed.underRestore ≠ some k) : ((takeFeeder k cause load s).feeders[k]).owner = .shed ∧
    ((takeFeeder k cause load s).feeders[k]).shedLoad = some load := by
  have view := shedView_feeder (takeFeeder_view (cause := cause) (load := load) h) k
  rw [modFeeder_feeders, Fin.getElem_fin, Fin.getElem_fin, modifyAt_get, if_pos rfl] at view
  exact ⟨congrArg FeederRec.owner view, congrArg FeederRec.shedLoad view⟩

/-- R126: the others stay as eligible as they were. -/
theorem takeFeeder_eligible {j : Fin 32} (h : s.shed.underRestore ≠ some k) (hj : j ≠ k) :
    eligibleFeeder (takeFeeder k cause load s) j = eligibleFeeder s j := by
  refine eligibleFeeder_congr (takeFeeder_other h hj) ?_ (by rw [takeFeeder_shed h])
  rw [takeFeeder_shed h]
  simp [Shedding.entryOf, List.find?_append, hj.symm]

end

end Sys2Proof.Machine
end

section
/-!
SUPPORT. The deficit walk over a table of plain entries with no feeder twice (R129, R134).
-/

namespace Sys2Proof.Machine

variable {s : State} {target : Int}

/-- R126: the load of a feeder as a walk reads it. -/
def loadOf (s : State) (k : Fin 32) : Nat := ((s.feeders[k]).p.getD 0).toNat

/-- The feeders that these entries name. -/
def feedersOf (table : Vector ShedEntry 32) (l : List (Fin 32)) : List (Fin 32) := l.filterMap fun i => (table[i]).feeder

/-- The sum of the loads of the feeders that these entries name. -/
def totalOf (s : State) (l : List (Fin 32)) : Int := ((feedersOf s.shed.table l).map fun k => (loadOf s k : Int)).sum

/-- R134: the entry is a deficit entry whose feeder is eligible. -/
def sheds (s : State) (i : Fin 32) : Bool := (s.shed.table[i]).deficit && (s.shed.table[i]).feeder.any fun k => eligibleFeeder s k

/-- R134: the entries a deficit walk reaches. -/
def deficitOver (target : Int) (l : List (Fin 32)) (w : Walk) : Walk := walkOver .deficit (fun e => e.deficit) (some target) l w

/-- R128, R134: what a deficit walk over these entries has made of a walk: the entries taken, those left, and where it stands. -/
def WalkEnds (target : Int) (l : List (Fin 32)) (w out : Walk) : Prop :=
  ∃ (taken left : List (Fin 32)) (next : Nat),
    l.filter (sheds w.state) = taken ++ left ∧ (∀ i ∈ taken, i.val < next) ∧ (∀ i ∈ left, next ≤ i.val) ∧ w.next ≤ next ∧
    (left ≠ [] → target ≤ w.sum + totalOf w.state taken) ∧
    (∀ a i b, taken = a ++ i :: b → w.sum + totalOf w.state a < target) ∧
    out.state.shed = { w.state.shed with
      stack := w.state.shed.stack ++ (feedersOf w.state.shed.table taken).map fun k => ⟨k, loadOf w.state k, .deficit, false⟩ } ∧
    out.next = next ∧ out.marks = [] ∧
    (∀ k ∈ feedersOf w.state.shed.table taken,
      (out.state.feeders[k]).owner = .shed ∧ (out.state.feeders[k]).shedLoad = some (loadOf w.state k)) ∧
    (∀ k : Fin 32, k ∉ feedersOf w.state.shed.table taken →
      (out.state.feeders[k]).owner = (w.state.feeders[k]).owner ∧ (out.state.feeders[k]).shedLoad = (w.state.feeders[k]).shedLoad)

/-- R134: a walk that takes nothing more. -/
theorem walkEnds_nothing {l : List (Fin 32)} {w out : Walk} (hl : l.filter (sheds w.state) = []) (hs : out.state = w.state)
    (hm : out.marks = []) (hn : w.next ≤ out.next) : WalkEnds target l w out :=
  ⟨[], [], out.next, hl, nofun, nofun, hn, fun h => absurd rfl h, fun a i b h => (List.append_ne_nil_of_right_ne_nil a
    (List.cons_ne_nil i b) h.symm).elim, by rw [hs]; simp [feedersOf], rfl, hm, nofun, fun k _ => by rw [hs]; exact ⟨rfl, rfl⟩⟩

theorem totalOf_nil : totalOf s [] = 0 := rfl

/-- R128: what a walk has made of the state when it has taken this feeder. -/
def tookFeeder (k : Fin 32) (i : Fin 32) (w : Walk) : Walk :=
  { state := takeFeeder k .deficit (loadOf w.state k) w.state, sum := w.sum + loadOf w.state k, next := i.val + 1, marks := [] }

section
variable {w out : Walk} {i k : Fin 32} {rest : List (Fin 32)}

/-! ## One entry -/

theorem marksAfter_plain {table : Vector ShedEntry 32} {b : Bool} {m : List Nat} (h : (table[i]).condition = .plain) :
    marksAfter table i b m = m := by
  unfold marksAfter
  rw [h]
  split <;> first | rfl | contradiction

theorem walkEntry_unused (h : (w.state.shed.table[i]).feeder = none ∨ (w.state.shed.table[i]).deficit = false) (hm : w.marks = []) :
    walkEntry .deficit (fun e => e.deficit) i w = w := by
  unfold walkEntry
  simp only [hm]
  split
  · rfl
  · rename_i k named
    have unexamined : (w.state.shed.table[i]).deficit = false := h.resolve_left fun none => nomatch named.symm.trans none
    rw [if_neg List.not_mem_nil, unexamined]
    rfl

theorem walkEntry_passed (hk : (w.state.shed.table[i]).feeder = some k) (hd : (w.state.shed.table[i]).deficit = true)
    (hp : (w.state.shed.table[i]).condition = .plain) (hm : w.marks = []) (he : eligibleFeeder w.state k = false) :
    walkEntry .deficit (fun e => e.deficit) i w = { w with next := i.val + 1, marks := [] } := by
  unfold walkEntry
  simp only [hk, hd, he, hm, marksAfter_plain hp]
  rfl

theorem walkEntry_taken (hk : (w.state.shed.table[i]).feeder = some k) (hd : (w.state.shed.table[i]).deficit = true)
    (hp : (w.state.shed.table[i]).condition = .plain) (hm : w.marks = []) (he : eligibleFeeder w.state k = true) :
    walkEntry .deficit (fun e => e.deficit) i w = tookFeeder k i w := by
  unfold walkEntry
  simp only [hk, hd, he, hm, marksAfter_plain hp]
  rfl

theorem sheds_of_named (hk : (s.shed.table[i]).feeder = some k) (hd : (s.shed.table[i]).deficit = true) :
    sheds s i = eligibleFeeder s k := by
  rw [sheds, hd, hk]
  rfl

theorem sheds_of_unused (h : (s.shed.table[i]).feeder = none ∨ (s.shed.table[i]).deficit = false) : sheds s i = false := by
  rcases h with h | h
  · rw [sheds, h, Option.any_none, Bool.and_false]
  · rw [sheds, h, Bool.false_and]

/-! ## A feeder taken -/

/-- No feeder stands in two entries of the table. -/
def Distinct (table : Vector ShedEntry 32) : Prop :=
  ∀ i j : Fin 32, i ≠ j → (table[i]).feeder ≠ none → (table[i]).feeder ≠ (table[j]).feeder

theorem tookFeeder_shed (hu : w.state.shed.underRestore = none) : (tookFeeder k i w).state.shed =
    { w.state.shed with stack := w.state.shed.stack ++ [⟨k, loadOf w.state k, .deficit, false⟩] } :=
  takeFeeder_shed (by rw [hu]; nofun)

theorem tookFeeder_load (hu : w.state.shed.underRestore = none) (j : Fin 32) : loadOf (tookFeeder k i w).state j = loadOf w.state j := by
  have view := shedView_feeder (takeFeeder_view (k := k) (cause := .deficit) (load := loadOf w.state k) (s := w.state) (by rw [hu]; nofun)) j
  have power : (((tookFeeder k i w).state).feeders[j]).p = (w.state.feeders[j]).p := by
    refine (congrArg FeederRec.p view).trans ?_
    rw [modFeeder_feeders, Fin.getElem_fin, modifyAt_get]
    split_ifs with e <;> [subst e; skip] <;> rfl
  rw [loadOf, loadOf, power]

theorem tookFeeder_total (hu : w.state.shed.underRestore = none) (l : List (Fin 32)) :
    totalOf (tookFeeder k i w).state l = totalOf w.state l := by
  simp only [totalOf, tookFeeder_shed hu, tookFeeder_load hu]

theorem not_mem_feedersOf {table : Vector ShedEntry 32} {l : List (Fin 32)} (hd : Distinct table) (hk : (table[i]).feeder = some k)
    (hl : i ∉ l) : k ∉ feedersOf table l := by
  intro mem
  obtain ⟨j, hj, named⟩ := List.mem_filterMap.mp mem
  exact hd i j (fun e => hl (e ▸ hj)) (by rw [hk]; nofun) (hk.trans named.symm)

/-- R126: the entries that are left stay as they were. -/
theorem tookFeeder_sheds (hu : w.state.shed.underRestore = none) (hd : Distinct w.state.shed.table)
    (hk : (w.state.shed.table[i]).feeder = some k) {j : Fin 32} (hj : j ≠ i) :
    sheds (tookFeeder k i w).state j = sheds w.state j := by
  rw [sheds, sheds, tookFeeder_shed hu]
  cases named : (w.state.shed.table[j]).feeder with
  | none => rfl
  | some m =>
    have apart : m ≠ k := fun e => hd i j hj.symm (by rw [hk]; nofun) (by rw [hk, named, e])
    have same : eligibleFeeder (tookFeeder k i w).state m = eligibleFeeder w.state m := takeFeeder_eligible (by rw [hu]; nofun) apart
    simp only [Option.any_some, same]

/-! ## The walk -/

theorem walkEnds_skip (h : WalkEnds target rest w out) (hi : sheds w.state i = false) : WalkEnds target (i :: rest) w out := by
  unfold WalkEnds
  rw [List.filter_cons_of_neg (by simp [hi])]
  exact h

theorem walkEnds_pass (h : WalkEnds target rest { w with next := i.val + 1, marks := [] } out) (hi : sheds w.state i = false)
    (hn : w.next ≤ i.val) : WalkEnds target (i :: rest) w out := by
  refine walkEnds_skip ?_ hi
  obtain ⟨taken, left, next, hl, ht, hleft, hnext, ends⟩ := h
  exact ⟨taken, left, next, hl, ht, hleft, hn.trans ((Nat.le_succ _).trans hnext), ends⟩

theorem tookFeeder_filter (hu : w.state.shed.underRestore = none) (hd : Distinct w.state.shed.table)
    (hk : (w.state.shed.table[i]).feeder = some k) (hi : i ∉ rest) :
    rest.filter (sheds (tookFeeder k i w).state) = rest.filter (sheds w.state) :=
  List.filter_congr fun _ hj => tookFeeder_sheds hu hd hk fun e => hi (e ▸ hj)

theorem totalOf_cons (hk : (s.shed.table[i]).feeder = some k) {l : List (Fin 32)} : totalOf s (i :: l) = loadOf s k + totalOf s l := by
  simp only [totalOf, feedersOf, List.filterMap_cons, hk, List.map_cons, List.sum_cons]

/-- R128: the frame of the feeders that a walk has not taken. -/
theorem tookFeeder_others (hu : w.state.shed.underRestore = none) {j : Fin 32} (hj : j ≠ k) :
    ((tookFeeder k i w).state.feeders[j]).owner = (w.state.feeders[j]).owner ∧
    ((tookFeeder k i w).state.feeders[j]).shedLoad = (w.state.feeders[j]).shedLoad := by
  have view := takeFeeder_other (cause := .deficit) (load := loadOf w.state k) (s := w.state) (k := k) (by rw [hu]; nofun) hj
  exact ⟨(congrArg FeederRec.owner view :), (congrArg FeederRec.shedLoad view :)⟩

theorem tookFeeder_own (hu : w.state.shed.underRestore = none) : ((tookFeeder k i w).state.feeders[k]).owner = .shed ∧
    ((tookFeeder k i w).state.feeders[k]).shedLoad = some (loadOf w.state k) := takeFeeder_self (by rw [hu]; nofun)

/-- R134: the walk ends with the feeder whose load reaches the target. -/
theorem walkEnds_reached (hu : w.state.shed.underRestore = none) (hk : (w.state.shed.table[i]).feeder = some k)
    (hi : sheds w.state i = true) (hn : w.next ≤ i.val) (hlt : w.sum < target) (hafter : ∀ j ∈ rest, i < j)
    (hreach : target ≤ w.sum + loadOf w.state k) : WalkEnds target (i :: rest) w (tookFeeder k i w) := by
  have feeders : feedersOf w.state.shed.table [i] = [k] := by simp only [feedersOf, List.filterMap_cons, hk, List.filterMap_nil]
  have total : totalOf w.state [i] = loadOf w.state k := by rw [totalOf_cons hk, totalOf_nil, add_zero]
  refine ⟨[i], rest.filter (sheds w.state), i.val + 1, List.filter_cons_of_pos hi, by simp, fun j hj => ?_, hn.trans (Nat.le_succ _),
    fun _ => by rwa [total], fun a j b split => ?_, ?_, rfl, rfl, ?_, ?_⟩
  · exact hafter j (List.mem_of_mem_filter hj)
  · obtain rfl : a = [] := by
      cases a with
      | nil => rfl
      | cons x a => simp at split
    rwa [totalOf_nil, add_zero]
  · rw [tookFeeder_shed hu, feeders]
    rfl
  · rw [feeders]
    rintro j hj
    obtain rfl := List.mem_singleton.mp hj
    exact tookFeeder_own hu
  · rw [feeders]
    exact fun j hj => tookFeeder_others hu fun e => hj (List.mem_singleton.mpr e)

/-- R134: a walk that has not reached its target goes on after the feeder taken. -/
theorem walkEnds_goes_on (hu : w.state.shed.underRestore = none) (hd : Distinct w.state.shed.table)
    (hk : (w.state.shed.table[i]).feeder = some k) (hi : sheds w.state i = true) (hn : w.next ≤ i.val) (hlt : w.sum < target)
    (hafter : ∀ j ∈ rest, i < j) (h : WalkEnds target rest (tookFeeder k i w) out) : WalkEnds target (i :: rest) w out := by
  have fresh : i ∉ rest := fun mem => lt_irrefl i (hafter i mem)
  obtain ⟨taken, left, next, hl, ht, hleft, hnext, hcover, hshort, hstack, hend, hmarks, hown, hother⟩ := h
  have table : (tookFeeder k i w).state.shed.table = w.state.shed.table := by rw [tookFeeder_shed hu]
  rw [tookFeeder_filter hu hd hk fresh] at hl
  simp only [table, tookFeeder_total hu, tookFeeder_load hu] at hcover hshort hstack hown hother
  have feeders : feedersOf w.state.shed.table (i :: taken) = k :: feedersOf w.state.shed.table taken := by
    simp only [feedersOf, List.filterMap_cons, hk]
  have apart : k ∉ feedersOf w.state.shed.table taken := not_mem_feedersOf hd hk fun mem =>
    fresh (List.mem_of_mem_filter (hl ▸ List.mem_append_left left mem))
  have sum : ∀ l, w.sum + totalOf w.state (i :: l) = (tookFeeder k i w).sum + totalOf w.state l := fun l => by
    rw [totalOf_cons hk]
    exact (add_assoc _ _ _).symm
  refine ⟨i :: taken, left, next, by rw [List.filter_cons_of_pos hi, hl]; rfl, ?_, hleft, hn.trans ((Nat.le_succ _).trans hnext),
    fun hne => by rw [sum]; exact hcover hne, fun a j b split => ?_, ?_, hend, hmarks, ?_, ?_⟩
  · rintro j hj
    rcases List.mem_cons.mp hj with rfl | hj
    · exact hnext
    · exact ht j hj
  · cases a with
    | nil => rwa [totalOf_nil, add_zero]
    | cons x a =>
      obtain ⟨-, tail⟩ := List.cons.inj split
      obtain ⟨rfl, -⟩ := List.cons.inj split
      rw [sum]
      exact hshort a j b tail
  · rw [hstack, tookFeeder_shed hu, feeders]
    simp
  · rw [feeders]
    rintro j hj
    rcases List.mem_cons.mp hj with rfl | hj
    · obtain ⟨owner, load⟩ := hother j apart
      obtain ⟨own, amount⟩ := tookFeeder_own (i := i) hu
      exact ⟨owner.trans own, load.trans amount⟩
    · exact hown j hj
  · rw [feeders]
    intro j hj
    obtain ⟨apartj, hj⟩ := not_or.mp (mt List.mem_cons.mpr hj)
    obtain ⟨owner, load⟩ := hother j hj
    obtain ⟨own, amount⟩ := tookFeeder_others (i := i) hu apartj
    exact ⟨owner.trans own, load.trans amount⟩

/-- R129, R134: a deficit walk over ascending entries, by induction on the entries. -/
theorem deficitOver_ends (l : List (Fin 32)) : ∀ w : Walk, w.marks = [] → w.sum < target → (∀ i ∈ l, w.next ≤ i.val) →
    l.Pairwise (· < ·) → (∀ i : Fin 32, (w.state.shed.table[i]).condition = .plain) → Distinct w.state.shed.table →
    w.state.shed.underRestore = none → WalkEnds target l w (deficitOver target l w) := by
  induction l with
  | nil => exact fun w hm _ _ _ _ _ _ => walkEnds_nothing rfl rfl hm le_rfl
  | cons i rest ih =>
    intro w hm hlt hn hord hplain hdis hu
    obtain ⟨hafter, hrest⟩ := List.pairwise_cons.mp hord
    have hni : w.next ≤ i.val := hn i (List.mem_cons_self ..)
    have later : ∀ j ∈ rest, i.val + 1 ≤ j.val := fun j hj => hafter j hj
    have short : ¬ (some target).any (fun x => decide (x ≤ w.sum)) = true := by simpa using hlt
    unfold deficitOver walkOver
    simp only
    by_cases unused : (w.state.shed.table[i]).feeder = none ∨ (w.state.shed.table[i]).deficit = false
    · rw [walkEntry_unused unused hm, if_neg short]
      exact walkEnds_skip (ih w hm hlt (fun j hj => hn j (List.mem_cons_of_mem i hj)) hrest hplain hdis hu) (sheds_of_unused unused)
    · obtain ⟨named, deficit⟩ := not_or.mp unused
      obtain ⟨k, hk⟩ := Option.ne_none_iff_exists'.mp named
      have hdef : (w.state.shed.table[i]).deficit = true := by simpa using deficit
      cases he : eligibleFeeder w.state k with
      | false =>
        rw [walkEntry_passed hk hdef (hplain i) hm he, if_neg short]
        exact walkEnds_pass (ih { w with next := i.val + 1, marks := [] } rfl hlt later hrest hplain hdis hu)
          ((sheds_of_named hk hdef).trans he) hni
      | true =>
        have hi := (sheds_of_named hk hdef).trans he
        rw [walkEntry_taken hk hdef (hplain i) hm he]
        by_cases reach : target ≤ w.sum + loadOf w.state k
        · rw [Option.any_some, if_pos (c := decide (target ≤ (tookFeeder k i w).sum) = true) (decide_eq_true reach)]
          exact walkEnds_reached hu hk hi hni hlt hafter reach
        · rw [Option.any_some, if_neg (c := decide (target ≤ (tookFeeder k i w).sum) = true) (mt of_decide_eq_true reach)]
          have table := tookFeeder_shed (k := k) (i := i) hu
          refine walkEnds_goes_on hu hdis hk hi hni hlt hafter (ih (tookFeeder k i w) rfl (not_le.mp reach) later hrest ?_ ?_ ?_)
          · rw [table]; exact hplain
          · rw [table]; exact hdis
          · rw [table]; exact hu

end

end Sys2Proof.Machine
end

section
/-!
SUPPORT. Shedding at a frequency sample with nothing to do for the stages (R130 to R134, R139), and the deficit shed of one feeder.
-/

namespace Sys2Proof.Machine

variable {s : State} {target : Int} {freq : Nat}

/-! ## The deficit walk -/

/-- R134: a deficit walk from its first entry on. -/
theorem deficitWalk_ends {start : Nat} (ht : 0 < target) (hu : s.shed.underRestore = none) (hd : Distinct s.shed.table)
    (hp : ∀ i : Fin 32, (s.shed.table[i]).condition = .plain) :
    WalkEnds target ((List.finRange 32).filter fun i => start ≤ i.val) ⟨s, 0, start, []⟩
      (deficitOver target ((List.finRange 32).filter fun i => start ≤ i.val) ⟨s, 0, start, []⟩) :=
  deficitOver_ends _ ⟨s, 0, start, []⟩ rfl ht (fun i hi => by simpa using (List.mem_filter.mp hi).2)
    ((List.pairwise_lt_finRange 32).filter _) hp hd hu

theorem deficitOver_unused {l : List (Fin 32)} {w : Walk} (hm : w.marks = [])
    (hl : ∀ i ∈ l, (w.state.shed.table[i]).feeder = none ∨ (w.state.shed.table[i]).deficit = false) : deficitOver target l w = w := by
  induction l with
  | nil => rfl
  | cons i rest ih =>
    unfold deficitOver walkOver
    simp only [walkEntry_unused (hl i (List.mem_cons_self ..)) hm]
    split
    · rfl
    · exact ih fun j hj => hl j (List.mem_cons_of_mem i hj)

/-- R134: a walk with one entry to examine, whose feeder is eligible, takes that feeder. -/
theorem deficitOver_single {l : List (Fin 32)} {w : Walk} {i j : Fin 32} (hm : w.marks = []) (hlt : w.sum < target) (hi : i ∈ l)
    (hl : l.Nodup) (hj : (w.state.shed.table[i]).feeder = some j) (hd : (w.state.shed.table[i]).deficit = true)
    (hp : (w.state.shed.table[i]).condition = .plain) (he : eligibleFeeder w.state j = true) (hu : w.state.shed.underRestore = none)
    (hother : ∀ m : Fin 32, m ≠ i → (w.state.shed.table[m]).feeder = none ∨ (w.state.shed.table[m]).deficit = false) :
    deficitOver target l w = tookFeeder j i w := by
  induction l with
  | nil => cases hi
  | cons m rest ih =>
    obtain ⟨hmem, hrest⟩ := List.nodup_cons.mp hl
    unfold deficitOver walkOver
    by_cases h : m = i
    · subst h
      simp only [walkEntry_taken hj hd hp hm he]
      split
      · rfl
      · refine deficitOver_unused rfl fun n hn => ?_
        rw [tookFeeder_shed hu]
        exact hother n fun e => hmem (e ▸ hn)
    · simp only [walkEntry_unused (hother m h) hm]
      rw [if_neg (by simpa using hlt)]
      exact ih ((List.mem_cons.mp hi).resolve_left fun e => h e.symm) hrest

/-! ## The sample (R130) -/

theorem stageSample_quiet {b : Bank} {i : Fin 8} (ht : b.threshold[i] ≤ freq) (hs : s.shed.stageTimers[i] = none) :
    stageSample b freq i s = s := by
  unfold stageSample
  simp only [hs, if_neg (Nat.not_lt.mpr ht), ite_self]

theorem stages_quiet {b : Bank} (h : ∀ i : Fin 8, b.threshold[i] ≤ freq ∧ s.shed.stageTimers[i] = none) :
    (List.finRange 8).foldl (fun t i => stageSample b freq i t) s = s := by
  induction List.finRange 8 with
  | nil => rfl
  | cons i l ih => rw [List.foldl_cons, stageSample_quiet (h i).1 (h i).2, ih]

/-- R139: permission is withdrawn and the restore delay stops. -/
def permissionWithdrawn (s : State) : State :=
  { s with
    shed := { s.shed with restoreDelay := none, permission := false }
    dispatch := { s.dispatch with restoreWait := none } }

theorem withdrawCloses_empty (h : s.orders.queue = []) : withdrawCloses s = s := cancelWhere_none _ _ (by simp [h])

/-- R139: below the restore frequency, with no order waiting. -/
theorem restoreDelaySample_below {b : Bank} (hf : freq < b.restoreFreq) (hq : s.orders.queue = []) :
    restoreDelaySample b freq s = permissionWithdrawn s := by
  have none_waits : ((losePermission s).orders.queue.any fun o =>
      decide (o.cause = .restore) && (losePermission s).shed.underRestore.any fun f => decide (o.target = .feeder f)) = false := by
    rw [show (losePermission s).orders.queue = [] from hq]
    rfl
  rw [restoreDelaySample, if_pos hf, cancelRestoration]
  simp only [none_waits]
  exact withdrawCloses_empty (s := losePermission s) hq

theorem clearLatches_below {b : Bank} (hf : freq < b.restoreFreq) (hl : ∀ i : Fin 8, s.shed.latches[i] = false) :
    clearLatches b freq s = s := by
  have kept : mapIndexed (fun i l => l && !(decide (b.threshold[i] = 0) || decide (b.threshold[i] + b.hysteresis ≤ freq))) s.shed.latches =
      s.shed.latches := by
    refine Vector.ext fun i hi => ?_
    have clear := hl ⟨i, hi⟩
    rw [Fin.getElem_fin] at clear
    simp [mapIndexed, clear]
  unfold clearLatches
  simp only [State.modShed, kept]
  exact if_neg (Nat.not_le.mpr hf)

/-- R130: with nothing to do for the stages, a sample below the restore frequency withdraws permission and tests the deficit. -/
theorem shedSample_below (h : StagesQuiet s freq) (hf : freq < s.bank.restoreFreq) :
    shedSample freq s = deficitTest s.bank freq (permissionWithdrawn s) := by
  obtain ⟨stages, -, -, queue⟩ := h
  unfold shedSample
  simp only [clearLatches_below hf fun i => (stages i).2.1, restoreDelaySample_below hf queue]
  rw [stages_quiet (s := permissionWithdrawn s) fun i => ⟨(stages i).1, (stages i).2.2⟩, if_neg (Nat.not_le.mpr hf)]

end Sys2Proof.Machine
end

section
/-!
SUPPORT. The deficit shed of one feeder and its run, and the TRIP of a shed feeder that fails (R128, R134 to R136, R161). Settles O34.
-/

namespace Sys2Proof.Machine

variable {s : State} {freq : Nat}

/-! ## A run is suspended (R161) -/

/-- R161: without permission a run in progress is suspended by a record of cause PROTECTION, if the stack has room. -/
theorem suspendRun_protection (hroom : s.inRun = false ∨ s.seq.stack.length < 4) (hp : s.shed.permission = false) :
    suspendRun .protection s =
      { s with seq := s.suspendedBy .protection, record := s.recordWith (s.suspendEvents .protection) } := by
  cases run : s.inRun with
  | false => simp only [suspendRun, State.suspendedBy, State.suspendEvents, run]; rfl
  | true =>
    have room : ¬ Config.suspensionSize ≤ s.seq.stack.length := by
      rcases hroom with idle | room
      · rw [run] at idle; cases idle
      · exact Nat.not_le.mpr room
    have stays : popProtection (pushRecord .protection s) = pushRecord .protection s := by
      have withdrawn : (pushRecord .protection s).shed.permission = false := by
        rw [pushRecord, if_neg room]
        exact hp
      unfold popProtection
      rw [withdrawn]
      split <;> simp
    simp only [suspendRun, State.suspendedBy, State.suspendEvents, run, if_true, stays]
    rw [pushRecord, if_neg room]
    simp [State.log, State.modSeq, State.recordWith, List.length_append]

/-! ## The shed (R128, R134) -/

/-- R128, R134: the TRIP of a feeder shed for a deficit. -/
def deficitTrip (j : Fin 32) (s : State) : Order :=
  { target := .feeder j, device := (s.feeders[j]).device, kind := .trip, cls := .protective, cause := .deficitShed,
    profile := (s.feeders[j]).profile }

/-- R123, R127: the feeder is owned by SHED and stands on top of the Shed Stack. -/
def shedOwned (j : Fin 32) (s : State) : State :=
  { s.modFeeder j (fun x => { x with owner := .shed, shedLoad := some (loadOf s j) }) with
    shed := { s.shed with stack := s.shed.stack ++ [⟨j, loadOf s j, .deficit, false⟩] } }

/-- No order waits or is out, and a TRIP of this feeder is sent at once. -/
def TripsAlone (s : State) (j : Fin 32) : Prop :=
  s.orders.queue = [] ∧ s.orders.tracker = [] ∧ s.orders.queueHigh = false ∧ s.settings.queueOffset ≤ 30 ∧
    (s.feeders[j]).inhibit = false

/-- R127: what the stack's new top hands on. -/
def pushHandovers (s : State) : List Handover := (if s.shed.stack = [] then [.stopTest] else []) ++ [.restoreTest]

theorem not_stacked {j : Fin 32} (he : eligibleFeeder s j = true) (hu : s.shed.underRestore = none) {e : StackEntry}
    (mem : e ∈ s.shed.stack) : e.feeder ≠ j := by
  intro same
  have stacked : (s.shed.entryOf j).isNone = false := by
    rw [Option.isNone_eq_false_iff, Shedding.entryOf, List.find?_isSome]
    exact ⟨e, mem, decide_eq_true same⟩
  simp [eligibleFeeder, stacked, hu] at he

theorem setStack_pushed {j : Fin 32} {n : Nat} {c : ShedCause} (h : ∀ e ∈ s.shed.stack, e.feeder ≠ j) :
    setStack (s.shed.stack ++ [⟨j, n, c, false⟩]) s =
      ({ s with shed := { s.shed with stack := s.shed.stack ++ [⟨j, n, c, false⟩] } } : State).post (pushHandovers s) := by
  have moved : (s.shed.stack.getLast?.map fun e => (e.feeder, e.done)) ≠
      ((s.shed.stack ++ [(⟨j, n, c, false⟩ : StackEntry)]).getLast?.map fun e => (e.feeder, e.done)) := by
    rw [List.getLast?_append_cons, List.getLast?_singleton, Option.map_some]
    intro same
    obtain ⟨e, top, eq⟩ := Option.map_eq_some_iff.mp same
    exact h e (List.mem_of_getLast? top) (congrArg Prod.fst eq)
  unfold setStack pushHandovers
  simp only [if_pos moved]
  cases s.shed.stack <;> rfl

theorem log_post {kind : EventKind} {x : Option Subject} {v : Int} {d : Nat} {l : List Handover} :
    (s.post l).log kind x v d = (s.log kind x v d).post l := rfl

theorem log_eq_recordWith {kind : EventKind} {x : Option Subject} {v : Int} {d : Nat} :
    s.log kind x v d = { s with record := s.recordWith [(kind, x, v, d)] } := rfl

theorem setCycle_recordWith {x : Target} {y : Timer} {l : List Logged} : (s.setCycle x y).recordWith l = s.recordWith l := by
  cases x <;> rfl

/-- R62 to R64: what is sent reads neither what waits inside the part nor the Event Record. -/
theorem sendsAlone_post {o : Order} {l : List Handover} :
    ((s.post l).queuesAlone o).sendsAlone o = ((s.queuesAlone o).sendsAlone o).post l := by
  rw [sendsAlone_eq, sendsAlone_eq]
  cases o.target <;> rfl

theorem sendsAlone_recordWith {o : Order} {l : List Logged} : ((s.queuesAlone o).sendsAlone o).recordWith l = s.recordWith l := by
  rw [sendsAlone_eq, setCycle_recordWith]
  rfl

/-- R58, R62: a PROTECTIVE order submitted alone, as the order it becomes. -/
theorem submitProtective_as {o new : Order} (hnew : ({ o with cls := .protective, device := s.targetDevice o.target } : Order) = new)
    (hq : s.orders.queue = []) (ht : s.orders.tracker = []) (hi : s.targetInhibit o.target = false)
    (hh : s.orders.queueHigh = false) (ho : s.settings.queueOffset ≤ 30) : submitProtective o s = (s.queuesAlone new).sendsAlone new := by
  subst hnew
  exact submitProtective_alone hq ht hi hh ho

/-- R128: a feeder is taken for a deficit while no order waits or is out. -/
theorem takeFeeder_alone {j : Fin 32} (ht : TripsAlone s j) (he : eligibleFeeder s j = true) (hu : s.shed.underRestore = none) :
    takeFeeder j .deficit (loadOf s j) s =
      ({ ((shedOwned j s).queuesAlone (deficitTrip j s)).sendsAlone (deficitTrip j s) with
        record := s.recordWith [(.feederShed, some ⟨.feeder, j.val⟩, loadOf s j, 2)] } : State).post (pushHandovers s) := by
  obtain ⟨queue, tracker, high, offset, inhibit⟩ := ht
  have feeder : (shedOwned j s).feeders[j] = { s.feeders[j] with owner := .shed, shedLoad := some (loadOf s j) } := by
    rw [shedOwned]
    simp only [modFeeder_feeders, Fin.getElem_fin, modifyAt_get, if_true]
  have order : ({ tripOrder ((shedOwned j s).post (pushHandovers s)) j .protective .deficitShed with
      device := ((shedOwned j s).post (pushHandovers s)).targetDevice (.feeder j) } : Order) = deficitTrip j s := by
    simp only [tripOrder, deficitTrip, State.targetDevice, State.post, feeder]
  have sent := submitProtective_as order queue tracker
    (by simp only [tripOrder, State.targetInhibit, State.post, feeder]; exact inhibit) high offset
  have pushed := setStack_pushed (n := loadOf s j) (c := .deficit) fun e mem => not_stacked he hu mem
  have took : takeFeeder j .deficit (loadOf s j) s = (submitProtective (tripOrder ((shedOwned j s).post (pushHandovers s)) j .protective
      .deficitShed) ((shedOwned j s).post (pushHandovers s))).log .feederShed (feederSubject j) (loadOf s j) 2 := by
    rw [takeFeeder, if_neg (show s.shed.underRestore ≠ some j by rw [hu]; nofun), pushed]
    rfl
  rw [took, sent, sendsAlone_post, log_post, log_eq_recordWith, sendsAlone_recordWith]
  rfl

end Sys2Proof.Machine
end

section
/-!
SUPPORT. A deficit found at a frequency sample (R134, R161), event by event.
-/

namespace Sys2Proof.Machine

variable {s : State} {freq : Nat} {j k : Fin 32} {amount : Int}

/-! ## The deficit test -/

/-- R34, R35: the amount to shed from the RoCoF of the sheet. -/
theorem amountToShed_falling {inertia : Nat} {r : Int} (hr : s.sheet.rocof = some r) : amountToShed s inertia =
    max 0 (min 1048575 (2 * (inertia : Int) * s.sheet.cd * (r.natAbs : Int) / (10 * (s.fNom : Int)))) - s.sheet.q := by
  simp only [amountToShed, deficitEstimate, hr]
  rfl

theorem deficitTest_none {b : Bank} (h : amountToShed s b.inertia ≤ 0) : deficitTest b freq s = s := by
  unfold deficitTest
  simp [Int.not_lt.mpr h]

/-- R134: the deficit is latched and logged. -/
def deficitLatched (amount : Int) (s : State) : State :=
  { s with shed := { s.shed with deficitLatch := true }, record := s.recordWith [(.deficitShed, none, amount, 1)] }

theorem deficitTest_found {b : Bank} {r : Int} (hr : s.sheet.rocof = some r) (hfall : r ≤ -(b.deficitTrigger : Int))
    (hlow : freq < b.deficitArming) (hlatch : s.shed.deficitLatch = false) (hamount : 0 < amountToShed s b.inertia) :
    deficitTest b freq s = (deficitWalk 0 [] (amountToShed s b.inertia) (deficitLatched (amountToShed s b.inertia) s)).post [.shedTaken] := by
  unfold deficitTest
  simp only [hr, Option.any_some, hlatch, decide_eq_true hfall, decide_eq_true hlow, decide_eq_true hamount]
  rfl

/-- R134, R135: the progress after the entry of this number. -/
def progressed (k : Fin 32) (s : State) : State := s.modShed fun x => { x with progress := some ⟨k.val + 1, [], .deficit⟩ }

/-- R128, R134: one feeder shed, its TRIP sent, while no order waits or is out. -/
def deficitShed (k j : Fin 32) (amount : Int) (s : State) : State :=
  progressed k { ((shedOwned j (deficitLatched amount s)).queuesAlone (deficitTrip j s)).sendsAlone (deficitTrip j s) with
    record := s.recordWith [(.deficitShed, none, amount, 1), (.feederShed, some ⟨.feeder, j.val⟩, loadOf s j, 2)] }

/-- The only deficit entry of the table, with an eligible feeder. -/
structure OnlyDeficit (s : State) (k j : Fin 32) : Prop where
  named : (s.shed.table[k]).feeder = some j
  deficit : (s.shed.table[k]).deficit = true
  plain : (s.shed.table[k]).condition = .plain
  only : ∀ l : Fin 32, l ≠ k → (s.shed.table[l]).feeder = none ∨ (s.shed.table[l]).deficit = false
  eligible : eligibleFeeder s j = true
  free : s.shed.underRestore = none

theorem deficitWalk_single (h : OnlyDeficit s k j) (ht : TripsAlone s j) (ha : 0 < amount) :
    deficitWalk 0 [] amount (deficitLatched amount s) = (deficitShed k j amount s).post (pushHandovers s) := by
  have entries : k ∈ (List.finRange 32).filter fun i => decide (0 ≤ i.val) := by simp
  have walk := deficitOver_single (target := amount) (w := ⟨deficitLatched amount s, 0, 0, []⟩) rfl ha entries
    ((List.nodup_finRange 32).filter _) h.named h.deficit h.plain h.eligible h.free h.only
  have took := takeFeeder_alone (s := deficitLatched amount s) ht h.eligible h.free
  unfold deficitOver at walk
  unfold deficitWalk
  simp only [walk, tookFeeder]
  have load : loadOf (deficitLatched amount s) j = loadOf s j := rfl
  rw [load] at took ⊢
  rw [took]
  rfl

/-! ## The cascade of the shed -/

/-- R97, R140: on a Shed Stack that is not empty and without permission, a new top stops the stop timer at most. -/
theorem settleLoop_pushed {n : Nat} {rest : List Handover} {c : Prop} [Decidable c] (hq : s.handovers = []) (hstack : s.shed.stack ≠ [])
    (hp : s.shed.permission = false) (hw : s.dispatch.restoreWait = none) : ∃ m, n ≤ m ∧
      settleLoop (n + 2) (((if c then [.stopTest] else []) ++ [.restoreTest]) ++ rest) s =
        settleLoop m rest { s with dispatch := { s.dispatch with stopTimer := if c then none else s.dispatch.stopTimer } } := by
  have restore : ∀ x : Option StopTimer, handle .restoreTest (s.setStopTimer x) = s.setStopTimer x := fun x => by
    refine (restoreTest_quiet (s := s.setStopTimer x) (.inl hp)).trans ?_
    have idle : (if (s.setStopTimer x).inRun then (s.setStopTimer x).dispatch.restoreWait else none) = none := by
      rw [show (s.setStopTimer x).dispatch.restoreWait = none from hw, ite_self]
    rw [idle, ← show (s.setStopTimer x).dispatch.restoreWait = none from hw]
  have unwanted : stopWanted s = none := by
    have full : s.shed.stack.isEmpty = false := by simpa using hstack
    unfold stopWanted
    cases stopCandidate s with
    | none => rfl
    | some x => simp [full]
  by_cases h : c
  · refine ⟨n, le_rfl, ?_⟩
    simp only [if_pos h, List.cons_append, List.nil_append]
    rw [settleLoop_cons (h := .stopTest) (stopTest_none unwanted) hq, settleLoop_cons (restore none) hq]
    rfl
  · refine ⟨n + 1, Nat.le_succ n, ?_⟩
    simp only [if_neg h, List.nil_append]
    have same : s.setStopTimer s.dispatch.stopTimer = s := rfl
    have test := restore s.dispatch.stopTimer
    rw [same] at test
    exact settleLoop_cons test hq

/-- R161: with the shed taken, a run is suspended; the sample then ends. -/
theorem settleLoop_shed {n : Nat} {c : Prop} [Decidable c] (hn : 5 ≤ n) (hq : s.handovers = []) (hstack : s.shed.stack ≠ [])
    (hp : s.shed.permission = false) (hw : s.dispatch.restoreWait = none) (hroom : s.inRun = false ∨ s.seq.stack.length < 4)
    (hs : s.seq.state ≠ .waiting) (hf : freq ≤ s.bank.fOfc) (ho : s.orders.queue = []) :
    settleLoop n ((((if c then [.stopTest] else []) ++ [.restoreTest]) ++ [.shedTaken]) ++ [.sampleJobs freq]) s =
      { s with
        dispatch := { s.dispatch with stopTimer := if c then none else s.dispatch.stopTimer }
        seq := s.suspendedBy .protection, record := s.recordWith (s.suspendEvents .protection) } := by
  obtain ⟨n, rfl⟩ : ∃ m, n = m + 3 + 2 := ⟨n - 5, by omega⟩
  obtain ⟨m, hm, pushed⟩ := settleLoop_pushed (n := n + 3) (rest := [.shedTaken, .sampleJobs freq]) (c := c) hq hstack hp hw
  obtain ⟨m, rfl⟩ : ∃ x, m = x + 2 + 1 := ⟨m - 3, by omega⟩
  have taken := suspendRun_protection (s := { s with
    dispatch := { s.dispatch with stopTimer := if c then none else s.dispatch.stopTimer } }) hroom hp
  have still : (s.suspendedBy .protection).state ≠ .waiting := by
    unfold State.suspendedBy
    split
    · exact nofun
    · exact hs
  rw [List.append_assoc _ [Handover.shedTaken], List.singleton_append, pushed, settleLoop_cons (h := .shedTaken) taken hq]
  exact settleLoop_sampleJobs (s := { s with
    dispatch := { s.dispatch with stopTimer := if c then none else s.dispatch.stopTimer }
    seq := s.suspendedBy .protection, record := s.recordWith (s.suspendEvents .protection) }) hq still hf ho

/-! ## The sample -/

/-- R128, R139: the feeder's record, the Shed Stack and Dispatch once it is shed, its TRIP still to be sent. -/
def deficitOwned (k j : Fin 32) (s : State) : State :=
  { s.modFeeder j (fun x => { x with owner := .shed, shedLoad := some (loadOf s j) }) with
    shed := { s.shed with
      restoreDelay := none, permission := false, deficitLatch := true, progress := some ⟨k.val + 1, [], .deficit⟩
      stack := s.shed.stack ++ [⟨j, loadOf s j, .deficit, false⟩] }
    dispatch := { s.dispatch with
      restoreWait := none, stopTimer := if s.shed.stack = [] then none else s.dispatch.stopTimer } }

/-- R62 to R64: what is sent reads neither Shedding, Dispatch, the Sequencer nor the Event Record. -/
theorem sendsAlone_apart {o : Order} {x : Shedding} {d : DispatchUnit} {q : Sequencer} {r : EventRecord} :
    (({ s with shed := x, dispatch := d, seq := q, record := r } : State).queuesAlone o).sendsAlone o =
      { (s.queuesAlone o).sendsAlone o with shed := x, dispatch := d, seq := q, record := r } := by
  rw [sendsAlone_eq, sendsAlone_eq]
  cases o.target <;> rfl

/-- R62, R128: the feeder is owned by SHED and its TRIP is out. -/
def deficitSent (j : Fin 32) (s : State) : State :=
  ((s.modFeeder j fun x => { x with owner := .shed, shedLoad := some (loadOf s j) }).queuesAlone (deficitTrip j s)).sendsAlone
    (deficitTrip j s)

theorem deficitSent_frame : (deficitSent j s).handovers = s.handovers ∧ (deficitSent j s).bank = s.bank ∧
    (deficitSent j s).activeBank = s.activeBank ∧ (deficitSent j s).settings = s.settings ∧
    (deficitSent j s).partTime = s.partTime ∧ (deficitSent j s).orders.queue = [] := by
  rw [deficitSent, sendsAlone_eq]
  exact ⟨rfl, rfl, rfl, rfl, rfl, rfl⟩

theorem suspendedBy_congr {t : State} {c : SuspendCause} (hseq : t.seq = s.seq) (hbank : t.activeBank = s.activeBank) :
    t.suspendedBy c = s.suspendedBy c := by
  unfold State.suspendedBy State.inRun
  rw [hseq, hbank]

theorem suspendEvents_congr {t : State} {c : SuspendCause} (hseq : t.seq = s.seq) : t.suspendEvents c = s.suspendEvents c := by
  unfold State.suspendEvents State.inRun
  rw [hseq]

theorem deficitOwned_sent : ((deficitOwned k j s).queuesAlone (deficitTrip j s)).sendsAlone (deficitTrip j s) =
    { deficitSent j s with
      shed := (deficitOwned k j s).shed, dispatch := (deficitOwned k j s).dispatch, seq := s.seq, record := s.record } :=
  sendsAlone_apart (s := s.modFeeder j fun x => { x with owner := .shed, shedLoad := some (loadOf s j) })

/-- R134, R139: what the shed of one feeder leaves of a sample below the restore frequency. -/
theorem deficitShed_eq : deficitShed k j amount (permissionWithdrawn s) =
    { deficitSent j s with
      shed := (deficitOwned k j s).shed, dispatch := { s.dispatch with restoreWait := none }, seq := s.seq
      record := s.recordWith [(.deficitShed, none, amount, 1), (.feederShed, some ⟨.feeder, j.val⟩, loadOf s j, 2)] } := by
  have sent := sendsAlone_apart (s := s.modFeeder j fun x => { x with owner := .shed, shedLoad := some (loadOf s j) })
    (o := deficitTrip j s) (x := (shedOwned j (deficitLatched amount (permissionWithdrawn s))).shed)
    (d := { s.dispatch with restoreWait := none }) (q := s.seq) (r := s.recordWith [(.deficitShed, none, amount, 1)])
  unfold deficitShed
  rw [show ((shedOwned j (deficitLatched amount (permissionWithdrawn s))).queuesAlone (deficitTrip j (permissionWithdrawn s))).sendsAlone
    (deficitTrip j (permissionWithdrawn s)) = _ from sent]
  rfl

/-- R134, R161: a sample below the arming frequency whose RoCoF has fallen to the trigger, with one feeder to shed. -/
theorem settle_deficit {n : Nat} {r : Int} (hn : 5 ≤ n) (hq : s.handovers = []) (h : StagesQuiet s freq) (hf : freq < s.bank.restoreFreq)
    (harm : freq < s.bank.deficitArming) (hr : s.sheet.rocof = some r) (hfall : r ≤ -(s.bank.deficitTrigger : Int))
    (hlatch : s.shed.deficitLatch = false) (hroom : s.inRun = false ∨ s.seq.stack.length < 4)
    (hpos : 0 < amountToShed s s.bank.inertia) (honly : OnlyDeficit s k j) (ht : TripsAlone s j) :
    ∃ (y : State) (l : List Handover), shedSample freq s = y.post l ∧ y.handovers = [] ∧
      settleLoop n (l ++ [.sampleJobs freq]) y = { ((deficitOwned k j s).queuesAlone (deficitTrip j s)).sendsAlone (deficitTrip j s) with
        seq := s.suspendedBy .protection
        record := s.recordWith ([(.deficitShed, none, amountToShed s s.bank.inertia, 1),
          (.feederShed, some ⟨.feeder, j.val⟩, loadOf s j, 2)] ++ s.suspendEvents .protection) } := by
  have only : OnlyDeficit (permissionWithdrawn s) k j :=
    ⟨honly.named, honly.deficit, honly.plain, honly.only, honly.eligible, honly.free⟩
  have found : shedSample freq s = (deficitShed k j (amountToShed s s.bank.inertia) (permissionWithdrawn s)).post
      (pushHandovers s ++ [.shedTaken]) := by
    rw [shedSample_below h hf, deficitTest_found (s := permissionWithdrawn s) (b := s.bank) hr hfall harm hlatch hpos]
    rw [show amountToShed (permissionWithdrawn s) s.bank.inertia = amountToShed s s.bank.inertia from rfl,
      deficitWalk_single only ht hpos, post_post]
    rfl
  obtain ⟨-, still, calm, -⟩ := h
  obtain ⟨quiet, bank, active, settings, time, empty⟩ := deficitSent_frame (s := s) (j := j)
  refine ⟨_, _, found, by rw [deficitShed_eq]; exact quiet.trans hq, ?_⟩
  rw [deficitShed_eq]
  generalize hy : ({ deficitSent j s with
    shed := (deficitOwned k j s).shed, dispatch := { s.dispatch with restoreWait := none }, seq := s.seq
    record := s.recordWith [(.deficitShed, none, amountToShed s s.bank.inertia, 1),
      (.feederShed, some ⟨.feeder, j.val⟩, loadOf s j, 2)] } : State) = y
  have seq : y.seq = s.seq := by rw [← hy]
  have same : y.bank = s.bank := by rw [← hy]; exact bank
  have shed : y.shed = (deficitOwned k j s).shed := by rw [← hy]
  have dispatch : y.dispatch = { s.dispatch with restoreWait := none } := by rw [← hy]
  have events := recordWith_recordWith (s := s) (t := y) (m := s.suspendEvents .protection) (by rw [← hy]) (by rw [← hy]; exact settings)
    (by rw [← hy]; exact time)
  have settled := settleLoop_shed (s := y) (freq := freq) (c := s.shed.stack = []) hn (by rw [← hy]; exact quiet.trans hq)
    (by rw [shed]; exact List.append_ne_nil_of_right_ne_nil _ (List.cons_ne_nil _ _)) (by rw [shed]; rfl) (by rw [dispatch])
    (by rw [State.inRun, seq]; exact hroom) (by rwa [seq]) (by rw [same]; exact calm)
    (by rw [← hy]; exact empty)
  refine settled.trans ?_
  rw [suspendedBy_congr seq (by rw [← hy]; exact active), suspendEvents_congr seq, events, dispatch, deficitOwned_sent, ← hy]
  rfl

end Sys2Proof.Machine
end

section
/-!
SUPPORT. The TRIP of a shed feeder that fails, and its make-up walk (R135, R136). Settles O34.
-/

namespace Sys2Proof.Machine

variable {s : State} {k : Fin 32} {x : Slot} {e top : StackEntry} {w : WalkProgress}

theorem modFeeder_modFeeder {f g : FeederRec → FeederRec} : (s.modFeeder k f).modFeeder k g = s.modFeeder k fun r => g (f r) := by
  simp only [State.modFeeder, modifyAt, Fin.getElem_fin, Vector.getElem_set_self, Vector.set_set]

/-! ## The order ends (R69, R74) -/

theorem deadlineExpires_timedOut {tag : Octet} (hx : s.orders.tracker.find? (fun y => y.tag = tag) = some x) (hd : x.deadline = 0)
    (hi : x.inhibit = none) (hseen : x.seen = false) : deadlineExpires tag s = endSlot x .timedOut s := by
  unfold deadlineExpires
  rw [hx]
  simp [hd, hi, hseen]

/-- R74: the end of a feeder's TRIP for a deficit is told to Shedding, and a send test follows. -/
theorem endSlot_deficitTrip (ht : x.order.target = .feeder k) (hk : x.order.kind = .trip) (hc : x.order.cause = .deficitShed) :
    endSlot x .timedOut s =
      (s.slotEnds x .timedOut { s.orders.counters with timedOut := s.orders.counters.timedOut + 1 }).post
        [.orderEnd x.order .timedOut false, .sendTest] := by
  have told : endHandovers x.order .timedOut false true = [.orderEnd x.order .timedOut false] := by
    simp [endHandovers, hk, ht, hc]
  have held : ∀ y : State, startHoldOff x.order .timedOut y = y.setHoldOff x.order.target (startTimer (timeMs (y.profileOf x.order).holdOff)) :=
    fun y => if_neg (by simp [hk])
  unfold endSlot
  simp only [told, held]
  rfl

theorem setHoldOff_frame {a : Target} {b : Timer} :
    let y := s.setHoldOff a b
    y.handovers = s.handovers ∧ y.shed = s.shed ∧ y.orders.queue = s.orders.queue ∧ y.settings = s.settings ∧ y.partTime = s.partTime ∧
      y.record = s.record := by
  cases a <;> exact ⟨rfl, rfl, rfl, rfl, rfl, rfl⟩

theorem slotEnds_frame {c : OrderCounters} :
    let y := s.slotEnds x .timedOut c
    y.handovers = s.handovers ∧ y.shed = s.shed ∧ y.orders.queue = s.orders.queue ∧ y.settings = s.settings ∧ y.partTime = s.partTime ∧
      y.record = s.recordWith [(.orderOutcome, targetSubject x.order.target, x.tag.toNat, 2)] := by
  have held := setHoldOff_frame (s := s.slotFreed x .timedOut c) (a := x.order.target)
    (b := startTimer (timeMs (s.profiles[x.order.profile]).holdOff))
  exact held

/-! ## The feeder leaves the stack (R123, R136) -/

/-- R127: an entry below the top leaves without a hand-over. -/
theorem removeEntry_below (htop : s.shed.stack.getLast? = some top) (hne : top.feeder ≠ k) (hu : s.shed.underRestore ≠ some k) :
    removeEntry k s = { s.modFeeder k (fun r => { r with owner := .free, shedLoad := none }) with
      shed := { s.shed with stack := s.shed.stack.filter fun y => y.feeder ≠ k } } := by
  obtain ⟨below, stack⟩ := List.getLast?_eq_some_iff.mp htop
  have kept : (s.shed.stack.filter fun y => decide (y.feeder ≠ k)) = (below.filter fun y => decide (y.feeder ≠ k)) ++ [top] := by
    rw [stack, List.filter_append]
    simp [hne]
  have full : s.shed.stack.isEmpty = false := by rw [stack]; simp
  have none_told : setStack (s.shed.stack.filter fun y => decide (y.feeder ≠ k))
      (s.modFeeder k fun r => { r with owner := .free, shedLoad := none }) =
      { s.modFeeder k (fun r => { r with owner := .free, shedLoad := none }) with
        shed := { s.shed with stack := s.shed.stack.filter fun y => y.feeder ≠ k } } := by
    unfold setStack
    simp only [show (s.modFeeder k fun r => { r with owner := .free, shedLoad := none }).shed = s.shed from rfl]
    rw [full, htop, kept]
    simp [State.modShed, State.modFeeder]
  rw [removeEntry, if_neg hu, none_told]

/-- R135: a make-up walk with no deficit entry left only leaves its progress. -/
theorem deficitWalk_none {start : Nat} {target : Int}
    (h : ∀ l : Fin 32, start ≤ l.val → (s.shed.table[l]).feeder = none ∨ (s.shed.table[l]).deficit = false) :
    deficitWalk start [] target s = s.modShed fun y => { y with progress := some ⟨start, [], .deficit⟩ } := by
  have walk := deficitOver_unused (target := target) (l := (List.finRange 32).filter fun i => decide (start ≤ i.val))
    (w := ⟨s, 0, start, []⟩) rfl fun i hi => h i (by simpa using (List.mem_filter.mp hi).2)
  unfold deficitOver at walk
  unfold deficitWalk
  simp only [walk]

theorem makeUpWalk_none {load : Nat} (hlatch : s.shed.deficitLatch = true) (hw : s.shed.progress = some w) (hm : w.marks = [])
    (hleft : ∀ l : Fin 32, w.next ≤ l.val → (s.shed.table[l]).feeder = none ∨ (s.shed.table[l]).deficit = false) :
    makeUpWalk load s = { s with
      shed := { s.shed with progress := some { w with cause := .deficit } }
      record := s.recordWith [(.deficitShed, none, load, 2)] } := by
  have walk := deficitWalk_none (s := s.log .deficitShed none load detailMakeUp) (start := w.next) (target := load) hleft
  obtain ⟨next, marks, cause⟩ := w
  obtain rfl : marks = [] := hm
  unfold makeUpWalk
  rw [hlatch, hw]
  exact walk

/-- R136: the feeder has FAILED and left the stack. -/
def tripFailed (k : Fin 32) (e : StackEntry) (s : State) : State :=
  { s.modFeeder k (fun r => { r with owner := .free, shedLoad := none, failed := true }) with
    shed := { s.shed with stack := s.shed.stack.filter fun y => y.feeder ≠ k }
    record := s.recordWith [(.feederFailed, some ⟨.feeder, k.val⟩, e.load, 1)] }

theorem removed_failed : ((({ s.modFeeder k (fun r => { r with owner := .free, shedLoad := none }) with
      shed := { s.shed with stack := s.shed.stack.filter fun y => y.feeder ≠ k } } : State).modFeeder k fun r =>
        { r with failed := true }).log .feederFailed (feederSubject k) e.load detailTripFailed) = tripFailed k e s := by
  have feeders := congrArg State.feeders (modFeeder_modFeeder (s := s) (k := k) (f := fun r => { r with owner := .free, shedLoad := none })
    (g := fun r => { r with failed := true }))
  exact congrArg (fun v : Vector FeederRec 32 => ({ s with
    feeders := v, shed := { s.shed with stack := s.shed.stack.filter fun y => y.feeder ≠ k }
    record := s.recordWith [(.feederFailed, some ⟨.feeder, k.val⟩, e.load, 1)] } : State)) feeders

theorem shedTripEnd_timedOut (he : s.shed.entryOf k = some e) (hdone : e.done = false) (hcause : e.cause = .deficit)
    (htop : s.shed.stack.getLast? = some top) (hne : top.feeder ≠ k) (hu : s.shed.underRestore ≠ some k)
    (hlatch : s.shed.deficitLatch = true) (hw : s.shed.progress = some w) (hm : w.marks = [])
    (hleft : ∀ l : Fin 32, w.next ≤ l.val → (s.shed.table[l]).feeder = none ∨ (s.shed.table[l]).deficit = false) :
    shedTripEnd k .timedOut s = { tripFailed k e s with
      shed := { s.shed with stack := s.shed.stack.filter (fun y => y.feeder ≠ k), progress := some { w with cause := .deficit } }
      record := s.recordWith [(.feederFailed, some ⟨.feeder, k.val⟩, e.load, 1), (.deficitShed, none, e.load, 2)] } := by
  have made := makeUpWalk_none (s := tripFailed k e s) (load := e.load) hlatch hw hm hleft
  unfold shedTripEnd
  simp only [he, hdone, hcause, removeEntry_below htop hne hu, reduceCtorEq, Bool.false_eq_true, if_false, if_true, removed_failed, made]
  rfl

theorem settleLoop_sendTest {n : Nat} (hs : s.handovers = []) (hq : s.orders.queue = []) : settleLoop (n + 1) [.sendTest] s = s := by
  rw [settleLoop_cons (h := .sendTest) (sendTest_empty hq) hs, settleLoop_nil]

/-- R69, R135, R136: the deadline of a deficit TRIP runs out, and the make-up walk finds nothing. -/
theorem deadline_of_deficitTrip {tag : Octet} (h : Quiet s) (hx : s.orders.tracker.find? (fun y => y.tag = tag) = some x)
    (ht : x.order.target = .feeder k) (hk : x.order.kind = .trip) (hc : x.order.cause = .deficitShed) (hd : x.deadline = 0)
    (hi : x.inhibit = none) (hseen : x.seen = false) (hq : s.orders.queue = []) (he : s.shed.entryOf k = some e)
    (hdone : e.done = false) (hcause : e.cause = .deficit) (htop : s.shed.stack.getLast? = some top) (hne : top.feeder ≠ k)
    (hu : s.shed.underRestore ≠ some k) (hlatch : s.shed.deficitLatch = true) (hw : s.shed.progress = some w) (hm : w.marks = [])
    (hleft : ∀ l : Fin 32, w.next ≤ l.val → (s.shed.table[l]).feeder = none ∨ (s.shed.table[l]).deficit = false) :
    let ended := s.slotEnds x .timedOut { s.orders.counters with timedOut := s.orders.counters.timedOut + 1 }
    exec (.deadlineExpiry tag) s = .next { tripFailed k e ended with
      shed := { ended.shed with stack := ended.shed.stack.filter (fun y => y.feeder ≠ k), progress := some { w with cause := .deficit } }
      record := ended.recordWith [(.feederFailed, some ⟨.feeder, k.val⟩, e.load, 1), (.deficitShed, none, e.load, 2)] } := by
  intro ended
  obtain ⟨quiet, shed, queue, -⟩ :=
    slotEnds_frame (s := s) (x := x) (c := { s.orders.counters with timedOut := s.orders.counters.timedOut + 1 })
  have told : handle (.orderEnd x.order .timedOut false) ended = shedTripEnd k .timedOut ended := by
    simp only [handle, ownerTold, hc, ht]
  have failed := shedTripEnd_timedOut (s := ended) (by rw [shed]; exact he) hdone hcause (by rw [shed]; exact htop) hne (by rwa [shed])
    (by rw [shed]; exact hlatch) (by rw [shed]; exact hw) hm (by rw [shed]; exact hleft)
  have event : exec (.deadlineExpiry tag) s = .next (settle (deadlineExpires tag s)) := runWhenUp_settle h
  have idle : ended.handovers = [] := quiet.trans h.2
  rw [event, deadlineExpires_timedOut hx hd hi hseen, endSlot_deficitTrip ht hk hc, settle_post idle, settleLoop_cons (told.trans failed) idle]
  exact congrArg _ (settleLoop_sendTest idle (queue.trans hq))

/-! ## Settled -/

theorem deficitWalk_shed {start : Nat} {m : List Nat} {target : Int} :
    let out := deficitOver target ((List.finRange 32).filter fun i => decide (start ≤ i.val)) ⟨s, 0, start, m⟩
    (deficitWalk start m target s).shed = { out.state.shed with progress := some ⟨out.next, out.marks, .deficit⟩ } := rfl

theorem sampleTaken_frame {p : Port} {f : Frame} {t : Telegram} {i : Fin 64} {v : Int} :
    let y := (passedOn p f t s).sampleTaken i t v
    y.handovers = s.handovers ∧ y.bank = s.bank ∧ y.shed = s.shed ∧ y.seq = s.seq ∧ y.activeBank = s.activeBank ∧
      y.dispatch = s.dispatch ∧ y.orders = s.orders ∧ y.settings = s.settings ∧ y.feeders = s.feeders ∧ y.fNom = s.fNom ∧
      y.sheet.cd = s.sheet.cd ∧ y.sheet.q = s.sheet.q ∧ ∀ l, y.recordWith l = s.recordWith l := by
  rw [passedOn_frame]
  exact ⟨rfl, rfl, rfl, rfl, rfl, rfl, rfl, rfl, rfl, rfl, rfl, rfl, fun _ => rfl⟩

theorem eligibleFeeder_same {t : State} {j : Fin 32} (hf : t.feeders = s.feeders) (hs : t.shed = s.shed) :
    eligibleFeeder t j = eligibleFeeder s j := by
  unfold eligibleFeeder
  rw [hf, hs]

theorem newerOrFirst_of {seq : TelSeq} {last : Option TelSeq} (h : last = none ∨ ∃ l, last = some l ∧ newer seq l = true) :
    newerOrFirst seq last = true := by
  rcases h with rfl | ⟨l, rfl, new⟩
  · rfl
  · exact new

/-- Settles O34: the walk by induction on its entries, the sample through Shedding's own work, the failed TRIP by its one hand-over. -/
theorem deficitShedsUntilCovered : Obligations.DeficitShedsUntilCovered := by
  refine ⟨fun s start target hu ht hd hp => ?_, ?_, ?_⟩
  · obtain ⟨taken, left, next, entries, before, after, -, covers, short, stack, ends, marks, own, other⟩ :=
      deficitWalk_ends (start := start) ht hu hd hp
    simp only [zero_add] at covers short
    refine ⟨taken, left, next, ?_, before, after, covers, short, ?_, own, other⟩
    · rw [← entries, List.filter_filter]
      refine List.filter_congr fun i _ => ?_
      rw [sheds, Bool.and_assoc, Bool.and_comm]
    · rw [deficitWalk_shed, stack, ends, marks]
      rfl
  · intro s p f t i v r hfreq hseq
    have event := fun {y : State} {l : List Handover} => exec_freqReport (y := y) (l := l) hfreq (newerOrFirst_of hseq)
    have frame := sampleTaken_frame (s := s) (p := p) (f := f) (t := t) (i := i) (v := v)
    have idle := hfreq.1.1.2
    generalize (passedOn p f t s).sampleTaken i t v = S at frame event ⊢
    obtain ⟨quiet, bank, shed, seq, active, dispatch, orders, settings, feeders, nominal, cd, q, record⟩ := frame
    intro freq sampled still below arming rocof falling latch room free pdef amount lost
    have calm : StagesQuiet S freq := by
      unfold StagesQuiet
      rw [bank, shed, seq, orders]
      exact still
    have low : freq < S.bank.restoreFreq := by rwa [bank]
    have due : amountToShed S S.bank.inertia = amount := by
      rw [amountToShed_falling rocof, bank, cd, q, nominal]
    refine ⟨fun nothing => ?_, fun k j pos named deficit plain only eligible inhibit tracker high offset => ?_⟩
    · have done : shedSample freq S = (permissionWithdrawn S).post [] := by
        rw [shedSample_below calm low, deficitTest_none (s := permissionWithdrawn S) (due.trans_le nothing), post_nil]
      rw [event done (quiet.trans idle), List.nil_append, settleLoop_sampleJobs (s := permissionWithdrawn S) (freq := clampedFreq v) (quiet.trans idle) calm.2.1
        calm.2.2.1 calm.2.2.2, permissionWithdrawn, shed, dispatch]
    · have single : OnlyDeficit S k j := by
        refine ⟨?_, ?_, ?_, ?_, ?_, ?_⟩
        · rw [shed]; exact named
        · rw [shed]; exact deficit
        · rw [shed]; exact plain
        · rw [shed]; exact only
        · rw [eligibleFeeder_same feeders shed]; exact eligible
        · rw [shed]; exact free
      have alone : TripsAlone S j := by
        unfold TripsAlone
        rw [orders, settings, feeders]
        exact ⟨still.2.2.2, tracker, high, offset, inhibit⟩
      obtain ⟨y, l, found, yq, settled⟩ := settle_deficit (n := 2 ^ 64 - 8 + 7) (freq := clampedFreq v) (by omega) (quiet.trans idle) calm low (by rwa [bank]) rocof
        (by rwa [bank]) (by rwa [shed]) (by rw [State.inRun, seq]; exact room) (by rwa [due]) single alone
      have load : loadOf S j = loadOf s j := by rw [loadOf, loadOf, feeders]
      have trip : deficitTrip j S = deficitTrip j s := by rw [deficitTrip, deficitTrip, feeders]
      rw [event found yq, settled, due, suspendedBy_congr seq active, suspendEvents_congr seq, record, trip, load, deficitOwned, load, shed,
        dispatch]
      rfl
  · intro s tag x k e top w quiet hx ht hk hc hd hi hseen hq he hdone hcause htop hne hu hlatch hw hm hleft ended
    have tagged : x.tag = tag := by simpa using List.find?_some hx
    have subject : targetSubject x.order.target = some ⟨.feeder, k.val⟩ := by rw [ht]; rfl
    obtain ⟨-, shed, -, settings, time, record⟩ :=
      slotEnds_frame (s := s) (x := x) (c := { s.orders.counters with timedOut := s.orders.counters.timedOut + 1 })
    rw [subject, tagged] at record
    rw [deadline_of_deficitTrip quiet hx ht hk hc hd hi hseen hq he hdone hcause htop hne hu hlatch hw hm hleft,
      recordWith_recordWith record settings time, shed]
    rfl

end Sys2Proof.Machine
end

section
/-!
SUPPORT. What an accepted Sample Report writes (R7 to R10): the records item by item, and the frame of all else.
-/

namespace Sys2Proof.Machine

variable {s : State} {p : Port} {f : Frame} {t : Telegram} {i : Fin 64} {l : List (Nat × Int)}

/-! ## Items (R7, R9) -/

/-- R7, R9: the first item of a quantity, clamped to its range, or the field as it was. -/
def itemOr (l : List (Nat × Int)) (kind : Nat) (lo hi : Int) (old : Option Int) : Option Int :=
  match l.find? fun x => x.1 = kind with
  | some x => some (max lo (min hi x.2))
  | none => old

/-- R7, R9: the same of a quantity that is never negative. -/
def countOr (l : List (Nat × Int)) (kind : Nat) (hi : Int) (old : Option Nat) : Option Nat :=
  (itemOr l kind 0 hi (old.map Int.ofNat)).map Int.toNat

theorem written_item {kind : Nat} {lo hi : Int} {old : Option Int} : written id old (clampedItem kind lo hi l) = itemOr l kind lo hi old := by
  unfold clampedItem firstItem itemOr
  cases l.find? fun x => x.1 = kind <;> rfl

theorem written_count {kind : Nat} {hi : Int} {old : Option Nat} :
    written Int.toNat old (clampedItem kind 0 hi l) = countOr l kind hi old := by
  unfold clampedItem firstItem countOr itemOr
  cases l.find? fun x => x.1 = kind <;> cases old <;> rfl

theorem writeSource_eq {e : SourceEntry} : writeSource l e = { e with
    f := if e.role = .reference then countOr l 2 99999 e.f else e.f
    u := if e.role = .reference then countOr l 3 2000 e.u else e.u
    press := if e.role = .air then countOr l 7 4000 e.press else e.press
    clamped := (writeSource l e).clamped } := by
  have freq : written Int.toNat e.f (freqItem l) = countOr l 2 99999 e.f := written_count
  have volt : written Int.toNat e.u (voltItem l) = countOr l 3 2000 e.u := written_count
  have press : written Int.toNat e.press (pressItem l) = countOr l 7 4000 e.press := written_count
  unfold writeSource
  split
  case h_1 role => simp only [freq, volt, role, if_true, if_false, reduceCtorEq]
  case h_2 role => simp only [press, role, if_true, if_false, reduceCtorEq]
  case h_3 reference air => rw [if_neg reference, if_neg reference, if_neg air]

theorem writeUnit_given {r : UnitRec} : (writeUnit l r).given = { r.given with
    p := if r.kind = .unused then r.p else itemOr l 1 (-65535) 65535 r.p
    f := if r.kind = .genset then countOr l 2 99999 r.f else r.f
    avail := if r.kind = .pv then itemOr l 4 (-65535) 65535 r.avail else r.avail
    dis := if r.kind = .store then itemOr l 5 (-65535) 65535 r.dis else r.dis
    chg := if r.kind = .store then itemOr l 6 (-65535) 65535 r.chg else r.chg
    clamped := (writeUnit l r).clamped } := by
  have power : ∀ kind (old : Option Int), written id old (powerItem kind l) = itemOr l kind (-65535) 65535 old := fun _ _ => written_item
  have freq : written Int.toNat r.f (freqItem l) = countOr l 2 99999 r.f := written_count
  unfold writeUnit
  split <;> rename_i kind <;>
    simp only [UnitRec.given, power, freq, kind, quantityP, quantityAvail, quantityDis, quantityChg, if_true, if_false, reduceCtorEq]

theorem writeFeeder_given {r : FeederRec} : (writeFeeder l r).given = { r.given with
    p := itemOr l 1 (-65535) 65535 r.p, clamped := (writeFeeder l r).clamped } := by
  have power : written id r.p (powerItem quantityP l) = itemOr l 1 (-65535) 65535 r.p := written_item
  simp only [writeFeeder, FeederRec.given, power]

/-! ## The records (R8) -/

theorem writeItems_sources (j : Fin 64) :
    (writeItems i l s).sources[j] = if i = j then writeSource l s.sources[j] else s.sources[j] := by
  have other : ∀ e : SourceEntry, e.role ≠ .reference → e.role ≠ .air → writeSource l e = e := fun e h1 h2 => by
    unfold writeSource
    split
    case h_1 role => exact absurd role h1
    case h_2 role => exact absurd role h2
    case h_3 => rfl
  have same : (s.sources[i]).role ≠ .reference → (s.sources[i]).role ≠ .air →
      s.sources[j] = if i = j then writeSource l s.sources[j] else s.sources[j] := fun h1 h2 => by
    split
    · rename_i e
      subst e
      exact (other _ h1 h2).symm
    · rfl
  unfold writeItems
  simp only
  cases role : (s.sources[i]).role
  case unit =>
    cases index? 16 (s.sources[i]).target <;> exact same (by rw [role]; nofun) (by rw [role]; nofun)
  case feeder =>
    cases index? 32 (s.sources[i]).target <;> exact same (by rw [role]; nofun) (by rw [role]; nofun)
  case gateway => exact same (by rw [role]; nofun) (by rw [role]; nofun)
  all_goals simp only [modSource_sources, Fin.getElem_fin, modifyAt_get, Fin.ext_iff]

theorem writeItems_units (u : Fin 16) : (writeItems i l s).units[u] =
    if (s.sources[i]).role = .unit ∧ (s.sources[i]).target = u.val then writeUnit l s.units[u] else s.units[u] := by
  unfold writeItems
  simp only
  cases role : (s.sources[i]).role <;> simp only [reduceCtorEq, false_and, if_false, true_and]
  case unit =>
    cases named : index? 16 (s.sources[i]).target with
    | none =>
      refine (if_neg fun e => ?_).symm
      rw [e, index?_val] at named
      cases named
    | some v =>
      rw [index?_eq_some.mp named]
      simp only [modUnit_units, Fin.getElem_fin, modifyAt_get, Fin.ext_iff]
  case feeder => split <;> rfl
  all_goals rfl

theorem writeItems_feeders (k : Fin 32) : (writeItems i l s).feeders[k] =
    if (s.sources[i]).role = .feeder ∧ (s.sources[i]).target = k.val then writeFeeder l s.feeders[k] else s.feeders[k] := by
  unfold writeItems
  simp only
  cases role : (s.sources[i]).role <;> simp only [reduceCtorEq, false_and, if_false, true_and]
  case feeder =>
    cases named : index? 32 (s.sources[i]).target with
    | none =>
      refine (if_neg fun e => ?_).symm
      rw [e, index?_val] at named
      cases named
    | some v =>
      rw [index?_eq_some.mp named]
      simp only [modFeeder_feeders, Fin.getElem_fin, modifyAt_get, Fin.ext_iff]
  case unit => split <;> rfl
  all_goals rfl

theorem writeItems_rest : writeItems i l s =
    { s with sources := (writeItems i l s).sources, units := (writeItems i l s).units, feeders := (writeItems i l s).feeders } := by
  unfold writeItems
  simp only
  split
  · split <;> rfl
  · split <;> rfl
  all_goals rfl

theorem makeFresh_rest {y : Timer} : makeFresh i y s =
    { s with sources := (makeFresh i y s).sources, record := (makeFresh i y s).record } := by
  unfold makeFresh
  simp only
  split <;> rfl

theorem makeFresh_feeders {y : Timer} : (makeFresh i y s).feeders = s.feeders := by rw [makeFresh_rest]

theorem sampleWritten_given {r : SampleReport} : (sampleWritten i r s).given = { s.given with
    sources := (sampleWritten i r s).sources, units := (sampleWritten i r s).given.units
    feeders := (sampleWritten i r s).given.feeders } := by
  have rest : sampleWritten i r s = { s with
      sources := (sampleWritten i r s).sources, units := (sampleWritten i r s).units, feeders := (sampleWritten i r s).feeders
      record := (sampleWritten i r s).record } := by
    rw [sampleWritten, makeFresh_rest, writeItems_rest]
  rw [rest]
  rfl

theorem takeSample_given {v : Option Nat} {time : BitVec 32} : (takeSample v time s).given = s.given := by cases v <;> rfl

theorem acceptSample_given {r : SampleReport} : (acceptSample i r s).given = (sampleWritten i r s).given := by
  have chosen : (sampleChosen i r s).given = (sampleWritten i r s).given := by
    unfold sampleChosen
    simp only
    split <;> simp
  have summed : (recomputeFor (s.sources[i]).role (sampleChosen i r s)).given = (sampleChosen i r s).given := by
    rw [recomputeFor_frame]
    rfl
  rw [acceptSample_eq]
  simp only
  rw [takeSample_given, post_given, summed, chosen]

end Sys2Proof.Machine
end

section
/-!
SUPPORT. R5, R7 to R10: the records after an accepted Sample Report.
-/

namespace Sys2Proof.Machine

variable {s : State} {p : Port} {f : Frame} {t : Telegram} {i : Fin 64}

/-! ## What was admitted (R5) -/

theorem admitted_feeders : (admitted i p f t s).feeders = s.feeders := by
  unfold admitted
  rw [passedOn_frame]
  rfl

theorem admitted_source_other {j : Fin 64} (h : j ≠ i) : (admitted i p f t s).sources[j] = s.sources[j] := by
  rw [admitted, modSource_sources, Fin.getElem_fin, modifyAt_get, if_neg h.symm, passedOn_sources]
  rfl

theorem admitted_given : (admitted i p f t s).given = { s.given with
    portA := (passedOn p f t s).portA.given, portB := (passedOn p f t s).portB.given, sources := (admitted i p f t s).sources } := by
  have above : (admitted i p f t s).given = { (passedOn p f t s).given with sources := (admitted i p f t s).sources } := rfl
  rw [above, passedOn_given]

/-! ## What its items wrote (R8, R10) -/

/-- R8: the state with an accepted report's sequence, arrival and items in their records. -/
def recorded (i : Fin 64) (p : Port) (f : Frame) (t : Telegram) (s : State) : State :=
  sampleWritten i (sampleOf t) (admitted i p f t s)

theorem recorded_source_other {j : Fin 64} (h : j ≠ i) : (recorded i p f t s).sources[j] = s.sources[j] := by
  rw [recorded, sampleWritten, makeFresh_sources, if_neg h.symm, writeItems_sources, if_neg h.symm, admitted_source_other h]

theorem recorded_source : let e := s.sources[i]
    let l := sampleItems t.body
    (recorded i p f t s).sources[i] = { e with
      lastSeq := some t.seq, lastArrival := some s.partTime, fresh := true, staleTimer := some (timeOrSecond e.staleLimit)
      f := if e.role = .reference then countOr l 2 99999 e.f else e.f
      u := if e.role = .reference then countOr l 3 2000 e.u else e.u
      press := if e.role = .air then countOr l 7 4000 e.press else e.press
      clamped := ((recorded i p f t s).sources[i]).clamped } := by
  intro e l
  have written : (recorded i p f t s).sources[i] =
      { writeSource l { e with lastSeq := some t.seq, lastArrival := some s.partTime } with
        fresh := true, staleTimer := some (timeOrSecond e.staleLimit) } := by
    rw [recorded, sampleWritten, makeFresh_sources, if_pos rfl, writeItems_sources, if_pos rfl, admitted_entry]
    rfl
  rw [written, writeSource_eq]

theorem recorded_unit (u : Fin 16) : (recorded i p f t s).units[u] =
    if (s.sources[i]).role = .unit ∧ (s.sources[i]).target = u.val then writeUnit (sampleItems t.body) s.units[u]
    else s.units[u] := by
  rw [recorded, sampleWritten, makeFresh_units, writeItems_units, admitted_units, admitted_entry]
  rfl

theorem recorded_feeder (k : Fin 32) : (recorded i p f t s).feeders[k] =
    if (s.sources[i]).role = .feeder ∧ (s.sources[i]).target = k.val then writeFeeder (sampleItems t.body) s.feeders[k]
    else s.feeders[k] := by
  rw [recorded, sampleWritten, makeFresh_feeders, writeItems_feeders, admitted_feeders, admitted_entry]
  rfl

theorem recorded_given : (recorded i p f t s).given = { s.given with
    portA := (passedOn p f t s).portA.given, portB := (passedOn p f t s).portB.given, sources := (recorded i p f t s).sources
    units := (recorded i p f t s).given.units, feeders := (recorded i p f t s).given.feeders } := by
  have above : (recorded i p f t s).given = { (admitted i p f t s).given with
      sources := (recorded i p f t s).sources, units := (recorded i p f t s).given.units
      feeders := (recorded i p f t s).given.feeders } := sampleWritten_given
  rw [above, admitted_given]

/-! ## The accepted report -/

/-- R5, R10: what only commands change is, after an accepted report, what it recorded. -/
theorem exec_accepted_given (h : Arrives s p f t) (hk : t.kind = kindSampleReport)
    (hi : findIndex s.sources (fun e => e.used && e.publisher = t.sender) = some i) (hrole : (s.sources[i]).role ≠ .gateway)
    (hseq : (s.sources[i]).fresh = false ∨ newerOrFirst t.seq (s.sources[i]).lastSeq = true) (hvalid : read8 t.body 4 = 0) :
    ∃ t', exec (.sampleReport p f) s = .next t' ∧ t'.handovers = [] ∧ t'.given = (recorded i p f t s).given :=
  ⟨_, exec_accepted h hk hi hrole hseq hvalid, settle_handovers, settle_given.trans acceptSample_given⟩

/-- R5, R7 to R10: the first part of O11. -/
theorem accepted_writes (h : Arrives s p f t) (hk : t.kind = kindSampleReport)
    (hi : findIndex s.sources (fun e => e.used && e.publisher = t.sender) = some i) (hrole : (s.sources[i]).role ≠ .gateway)
    (hseq : (s.sources[i]).fresh = false ∨ newerOrFirst t.seq (s.sources[i]).lastSeq = true) (hvalid : read8 t.body 4 = 0) :
    let e := s.sources[i]
    let item := itemOr (sampleItems t.body)
    let count := countOr (sampleItems t.body)
    ∃ t', exec (.sampleReport p f) s = .next t' ∧ t'.handovers = [] ∧
      t'.given = { s.given with
        portA := (passedOn p f t s).portA.given, portB := (passedOn p f t s).portB.given, sources := t'.sources
        units := t'.given.units, feeders := t'.given.feeders } ∧
      (∀ j, j ≠ i → t'.sources[j] = s.sources[j]) ∧
      t'.sources[i] = { e with
        lastSeq := some t.seq, lastArrival := some s.partTime, fresh := true, staleTimer := some (timeOrSecond e.staleLimit)
        f := if e.role = .reference then count 2 99999 e.f else e.f
        u := if e.role = .reference then count 3 2000 e.u else e.u
        press := if e.role = .air then count 7 4000 e.press else e.press
        clamped := (t'.sources[i]).clamped } ∧
      (∀ u : Fin 16, e.role ≠ .unit ∨ e.target ≠ u.val → (t'.units[u]).given = (s.units[u]).given) ∧
      (∀ u : Fin 16, e.role = .unit → e.target = u.val →
        let r := s.units[u]
        (t'.units[u]).given = { r.given with
          p := if r.kind = .unused then r.p else item 1 (-65535) 65535 r.p
          f := if r.kind = .genset then count 2 99999 r.f else r.f
          avail := if r.kind = .pv then item 4 (-65535) 65535 r.avail else r.avail
          dis := if r.kind = .store then item 5 (-65535) 65535 r.dis else r.dis
          chg := if r.kind = .store then item 6 (-65535) 65535 r.chg else r.chg
          clamped := (t'.units[u]).clamped }) ∧
      (∀ k : Fin 32, e.role ≠ .feeder ∨ e.target ≠ k.val → (t'.feeders[k]).given = (s.feeders[k]).given) ∧
      (∀ k : Fin 32, e.role = .feeder → e.target = k.val →
        (t'.feeders[k]).given = { (s.feeders[k]).given with
          p := item 1 (-65535) 65535 (s.feeders[k]).p, clamped := (t'.feeders[k]).clamped }) := by
  intro e item count
  obtain ⟨t', out, settled, given⟩ := exec_accepted_given h hk hi hrole hseq hvalid
  have sources : t'.sources = (recorded i p f t s).sources := (congrArg Given.sources given :)
  have unit : ∀ u : Fin 16, (t'.units[u]).given = ((recorded i p f t s).units[u]).given := fun u => congrFun (congrArg Given.units given :) u
  have feeder : ∀ k : Fin 32, (t'.feeders[k]).given = ((recorded i p f t s).feeders[k]).given :=
    fun k => congrFun (congrArg Given.feeders given :) k
  refine ⟨t', out, settled, ?_, fun j hj => ?_, ?_, fun u hu => ?_, fun u hr hu => ?_, fun k hk => ?_, fun k hr hk => ?_⟩
  · rw [given, recorded_given, sources]
  · rw [sources, recorded_source_other hj]
  · rw [sources]
    exact recorded_source
  · rw [unit, recorded_unit, if_neg (by tauto)]
  · have wrote : (t'.units[u]).given = (writeUnit (sampleItems t.body) s.units[u]).given := by
      rw [unit, recorded_unit, if_pos ⟨hr, hu⟩]
    have clamped : (t'.units[u]).clamped = (writeUnit (sampleItems t.body) s.units[u]).clamped := (congrArg UnitRec.clamped wrote :)
    rw [wrote, clamped]
    exact writeUnit_given
  · rw [feeder, recorded_feeder, if_neg (by tauto)]
  · have wrote : (t'.feeders[k]).given = (writeFeeder (sampleItems t.body) s.feeders[k]).given := by
      rw [feeder, recorded_feeder, if_pos ⟨hr, hk⟩]
    have clamped : (t'.feeders[k]).clamped = (writeFeeder (sampleItems t.body) s.feeders[k]).clamped :=
      (congrArg FeederRec.clamped wrote :)
    rw [wrote, clamped]
    exact writeFeeder_given

end Sys2Proof.Machine
end

section
/-!
SUPPORT. R131, R132: the eight stages at a frequency sample, where a stage that trips has no entry in the Shed Table.
-/

namespace Sys2Proof.Machine

variable {s : State} {b : Bank} {freq : Nat} {k : Fin 8}

/-! ## One stage (R131) -/

/-- R131: the timer of the stage starts. -/
def stageStarts (b : Bank) (freq : Nat) (s : State) (k : Fin 8) : Bool :=
  decide (freq < b.threshold[k] ∧ s.shed.latches[k] = false ∧ s.shed.stageTimers[k] = none)

/-- R131, R132: a delay of 0 trips the stage at once. -/
def stageTrips (b : Bank) (freq : Nat) (s : State) (k : Fin 8) : Bool :=
  stageStarts b freq s k && decide (timeMs b.delay[k] = 0)

theorem stageTrips_congr {t : State} (hl : t.shed.latches = s.shed.latches) (ht : t.shed.stageTimers = s.shed.stageTimers) :
    stageTrips b freq t = stageTrips b freq s := by
  funext k
  rw [stageTrips, stageStarts, hl, ht]
  rfl

/-- R131: the timer of the stage after the sample. -/
def stageTimerAfter (b : Bank) (freq : Nat) (s : State) (k : Fin 8) : Timer :=
  if stageStarts b freq s k = true then startTimer (timeMs b.delay[k])
  else if s.shed.latches[k] = true ∨ freq < b.threshold[k] + b.hysteresis ∨ b.threshold[k] = 0 then s.shed.stageTimers[k]
  else none

/-- R132: the latch of the stage after the sample. -/
def stageLatchAfter (b : Bank) (freq : Nat) (s : State) (k : Fin 8) : Bool := s.shed.latches[k] || stageTrips b freq s k

/-- A table changed at some of the stages. It stays folded, so that two states are compared without forming it. -/
@[irreducible] def stageTable {α : Type} (l : List (Fin 8)) (f : Fin 8 → α) (v : Vector α 8) : Vector α 8 :=
  Vector.ofFn fun k => if k ∈ l then f k else v[k]

theorem stageTable_get {α : Type} {l : List (Fin 8)} {f : Fin 8 → α} {v : Vector α 8} :
    (stageTable l f v)[k] = if k ∈ l then f k else v[k] := by
  unfold stageTable
  simp only [Fin.getElem_fin, Vector.getElem_ofFn, Fin.eta]

theorem table_ext {α : Type} {v w : Vector α 8} (h : ∀ k : Fin 8, v[k] = w[k]) : v = w := Vector.ext fun m hm => h ⟨m, hm⟩

/-- R131, R132: timers, latches and log after the sample at some of the stages. -/
def stagesAfter (b : Bank) (freq : Nat) (l : List (Fin 8)) (s : State) : State :=
  { s with
    shed := { s.shed with
      stageTimers := stageTable l (stageTimerAfter b freq s) s.shed.stageTimers
      latches := stageTable l (stageLatchAfter b freq s) s.shed.latches }
    record := s.recordWith ((l.filter (stageTrips b freq s)).map fun k => (EventKind.stageTrip, none, (freq : Int), k.val + 1)) }

theorem stagesAfter_post {l : List (Fin 8)} {m : List Handover} : stagesAfter b freq l (s.post m) = (stagesAfter b freq l s).post m := rfl

/-- R132: no entry of the Shed Table has the stage. -/
def StageEmpty (s : State) (k : Fin 8) : Prop := ∀ j : Fin 32, (s.shed.table[j]).feeder = none ∨ (s.shed.table[j]).stage ≠ k

theorem StageEmpty.congr {t : State} (h : StageEmpty s k) (ht : t.shed.table = s.shed.table) : StageEmpty t k := fun j => by
  rw [ht]
  exact h j

theorem stageWalk_empty {w : Walk} (h : StageEmpty w.state k) (hm : w.marks = []) :
    ∀ l, walkOver .stage (fun e => decide (e.stage = k)) none l w = w
  | [] => rfl
  | i :: rest => by
    have unused : walkEntry .stage (fun e => decide (e.stage = k)) i w = w := by
      unfold walkEntry
      simp only [hm]
      split
      · rfl
      · rename_i named
        have other : (w.state.shed.table[i]).stage ≠ k := (h i).resolve_left fun none => nomatch named.symm.trans none
        rw [if_neg List.not_mem_nil, decide_eq_false other]
        rfl
    rw [walkOver, unused]
    exact stageWalk_empty h hm rest

/-- R132: a stage without entries trips: its timer stops, it is latched and logged. -/
theorem stageTrip_empty (h : StageEmpty s k) (hf : s.sheet.freq = some freq) :
    stageTrip k s = ({ s with
      shed := { s.shed with stageTimers := s.shed.stageTimers.set k none, latches := s.shed.latches.set k true }
      record := s.recordWith [(.stageTrip, none, (freq : Int), k.val + 1)] } : State).post [.shedTaken] := by
  have logged : (((s.setStageTimer k none).modShed fun x => { x with latches := x.latches.set k true }).log .stageTrip none
      ((((s.setStageTimer k none).modShed fun x => { x with latches := x.latches.set k true }).sheet.freq.getD 0 : Nat) : Int) (k.val + 1)) =
      { s with
        shed := { s.shed with stageTimers := s.shed.stageTimers.set k none, latches := s.shed.latches.set k true }
        record := s.recordWith [(.stageTrip, none, (freq : Int), k.val + 1)] } := by
    rw [show ((s.setStageTimer k none).modShed fun x => { x with latches := x.latches.set k true }).sheet.freq = some freq from hf]
    rfl
  unfold stageTrip
  simp only [logged]
  rw [stageWalk_empty (by exact h) rfl]

theorem set_same {α : Type} {n : Nat} {v : Vector α n} {i : Fin n} : v.set i v[i] = v := Vector.set_getElem_self i.isLt

theorem stagesAfter_single : stagesAfter b freq [k] s = { s with
    shed := { s.shed with
      stageTimers := s.shed.stageTimers.set k (stageTimerAfter b freq s k), latches := s.shed.latches.set k (stageLatchAfter b freq s k) }
    record := s.recordWith (if stageTrips b freq s k = true then [(.stageTrip, none, (freq : Int), k.val + 1)] else []) } := by
  have set : ∀ {α : Type} (v : Vector α 8) (f : Fin 8 → α), stageTable [k] f v = v.set k (f k) := fun v f => table_ext fun m => by
    rw [stageTable_get, Fin.getElem_fin, Fin.getElem_fin, Vector.getElem_set]
    by_cases e : k = m
    · rw [if_pos (List.mem_singleton.mpr e.symm), if_pos (congrArg Fin.val e), e]
    · rw [if_neg fun mem => e (List.mem_singleton.mp mem).symm, if_neg fun val => e (Fin.ext val)]
  rw [stagesAfter, set, set]
  cases trips : stageTrips b freq s k <;> simp [trips]

/-- R131: what the sample does to a stage that does not trip. -/
theorem stagesAfter_quiet (h : stageTrips b freq s k = false) :
    (stagesAfter b freq [k] s).post (if stageTrips b freq s k = true then [.shedTaken] else []) =
      s.setStageTimer k (stageTimerAfter b freq s k) := by
  have latch : stageLatchAfter b freq s k = s.shed.latches[k] := by rw [stageLatchAfter, h, Bool.or_false]
  rw [stagesAfter_single, latch, set_same, h]
  exact post_nil

theorem setStageTimer_same : s.setStageTimer k s.shed.stageTimers[k] = s :=
  congrArg (fun v : Vector Timer 8 => s.modShed fun x => { x with stageTimers := v }) set_same

/-- R131, R132: one stage at a frequency sample. -/
theorem stageSample_eq (hf : s.sheet.freq = some freq) (h : stageTrips b freq s k = true → StageEmpty s k) :
    stageSample b freq k s = (stagesAfter b freq [k] s).post (if stageTrips b freq s k = true then [.shedTaken] else []) := by
  have still : stageSample b freq k s = s → stageTimerAfter b freq s k = s.shed.stageTimers[k] → stageTrips b freq s k = false →
      stageSample b freq k s = (stagesAfter b freq [k] s).post (if stageTrips b freq s k = true then [.shedTaken] else []) := by
    intro same timer trips
    rw [same, stagesAfter_quiet trips, timer, setStageTimer_same]
  by_cases off : b.threshold[k] = 0 ∨ s.shed.latches[k] = true
  · have starts : stageStarts b freq s k = false := by
      refine decide_eq_false fun ⟨below, latch, _⟩ => off.elim (fun zero => ?_) fun latched => ?_
      · rw [zero] at below
        exact Nat.not_lt_zero _ below
      · rw [latch] at latched
        cases latched
    refine still (if_pos (by simpa using off)) ?_ (by rw [stageTrips, starts, Bool.false_and])
    rw [stageTimerAfter, starts, if_neg (by nofun), if_pos (by tauto)]
  · obtain ⟨on, latch⟩ := not_or.mp off
    rw [Bool.not_eq_true] at latch
    have examined : stageSample b freq k s = match s.shed.stageTimers[k] with
        | none => if freq < b.threshold[k] then
            if timeMs b.delay[k] = 0 then stageTrip k s else s.setStageTimer k (some (timeMs b.delay[k]))
          else s
        | some _ => if b.threshold[k] + b.hysteresis ≤ freq then s.setStageTimer k none else s :=
      if_neg (by simpa using off)
    cases timer : s.shed.stageTimers[k] with
    | none =>
      rw [timer] at examined
      simp only at examined
      by_cases below : freq < b.threshold[k]
      · have starts : stageStarts b freq s k = true := decide_eq_true ⟨below, latch, timer⟩
        rw [if_pos below] at examined
        by_cases atOnce : timeMs b.delay[k] = 0
        · have trips : stageTrips b freq s k = true := by rw [stageTrips, starts, decide_eq_true atOnce]; rfl
          rw [examined, if_pos atOnce, stageTrip_empty (h trips) hf, stagesAfter_single, stageTimerAfter, stageLatchAfter, if_pos starts, trips,
            atOnce, Bool.or_true]
          rfl
        · have trips : stageTrips b freq s k = false := by rw [stageTrips, decide_eq_false atOnce, Bool.and_false]
          rw [examined, if_neg atOnce, stagesAfter_quiet trips, stageTimerAfter, if_pos starts, startTimer, if_neg atOnce]
      · have starts : stageStarts b freq s k = false := decide_eq_false fun h => below h.1
        rw [if_neg below] at examined
        refine still examined ?_ (by rw [stageTrips, starts, Bool.false_and])
        rw [stageTimerAfter, starts, timer, ite_self]
        rfl
    | some ms =>
      rw [timer] at examined
      simp only at examined
      have starts : stageStarts b freq s k = false := decide_eq_false fun h => nomatch timer.symm.trans h.2.2
      have trips : stageTrips b freq s k = false := by rw [stageTrips, starts, Bool.false_and]
      by_cases above : b.threshold[k] + b.hysteresis ≤ freq
      · have stopped : ¬ (s.shed.latches[k] = true ∨ freq < b.threshold[k] + b.hysteresis ∨ b.threshold[k] = 0) := by
          rw [latch]
          exact fun h => h.elim nofun fun h => h.elim (Nat.not_lt.mpr above) on
        rw [examined, if_pos above, stagesAfter_quiet trips, stageTimerAfter, starts, if_neg (by nofun), if_neg stopped]
      · rw [if_neg above] at examined
        refine still examined ?_ trips
        rw [stageTimerAfter, starts, if_neg (by nofun), if_pos (.inr (.inl (Nat.not_le.mp above)))]

/-! ## All stages -/

theorem stagesAfter_timer {m : Fin 8} : (stagesAfter b freq [k] s).shed.stageTimers[m] =
    if m = k then stageTimerAfter b freq s m else s.shed.stageTimers[m] := by
  simp only [stagesAfter, stageTable_get, List.mem_singleton]

theorem stagesAfter_latch {m : Fin 8} : (stagesAfter b freq [k] s).shed.latches[m] =
    if m = k then stageLatchAfter b freq s m else s.shed.latches[m] := by
  simp only [stagesAfter, stageTable_get, List.mem_singleton]

theorem stageStarts_apart {m : Fin 8} (h : m ≠ k) : stageStarts b freq (stagesAfter b freq [k] s) m = stageStarts b freq s m := by
  rw [stageStarts, stagesAfter_timer, stagesAfter_latch, if_neg h, if_neg h, stageStarts]

theorem stageTrips_apart {m : Fin 8} (h : m ≠ k) : stageTrips b freq (stagesAfter b freq [k] s) m = stageTrips b freq s m := by
  rw [stageTrips, stageStarts_apart h, stageTrips]

theorem stagesAfter_cons {l : List (Fin 8)} (h : k ∉ l) :
    stagesAfter b freq l (stagesAfter b freq [k] s) = stagesAfter b freq (k :: l) s := by
  have apart : ∀ m ∈ l, m ≠ k := fun m hm e => h (e ▸ hm)
  have starts : ∀ m ∈ l, stageStarts b freq (stagesAfter b freq [k] s) m = stageStarts b freq s m :=
    fun m hm => stageStarts_apart (apart m hm)
  have trips : ∀ m ∈ l, stageTrips b freq (stagesAfter b freq [k] s) m = stageTrips b freq s m :=
    fun m hm => stageTrips_apart (apart m hm)
  have timers : ∀ m ∈ l, stageTimerAfter b freq (stagesAfter b freq [k] s) m = stageTimerAfter b freq s m := fun m hm => by
    rw [stageTimerAfter, starts m hm, stagesAfter_timer, stagesAfter_latch, if_neg (apart m hm), if_neg (apart m hm), stageTimerAfter]
  have latches : ∀ m ∈ l, stageLatchAfter b freq (stagesAfter b freq [k] s) m = stageLatchAfter b freq s m := fun m hm => by
    rw [stageLatchAfter, trips m hm, stagesAfter_latch, if_neg (apart m hm), stageLatchAfter]
  have timerTable : stageTable l (stageTimerAfter b freq (stagesAfter b freq [k] s)) (stagesAfter b freq [k] s).shed.stageTimers =
      stageTable (k :: l) (stageTimerAfter b freq s) s.shed.stageTimers := table_ext fun m => by
    rw [stageTable_get, stageTable_get]
    by_cases hm : m ∈ l
    · rw [if_pos hm, if_pos (List.mem_cons_of_mem k hm), timers m hm]
    · rw [if_neg hm, stagesAfter_timer]
      exact ite_congr (by rw [List.mem_cons, or_iff_left hm]) (fun _ => rfl) fun _ => rfl
  have latchTable : stageTable l (stageLatchAfter b freq (stagesAfter b freq [k] s)) (stagesAfter b freq [k] s).shed.latches =
      stageTable (k :: l) (stageLatchAfter b freq s) s.shed.latches := table_ext fun m => by
    rw [stageTable_get, stageTable_get]
    by_cases hm : m ∈ l
    · rw [if_pos hm, if_pos (List.mem_cons_of_mem k hm), latches m hm]
    · rw [if_neg hm, stagesAfter_latch]
      exact ite_congr (by rw [List.mem_cons, or_iff_left hm]) (fun _ => rfl) fun _ => rfl
  have events : (stagesAfter b freq [k] s).recordWith ((l.filter (stageTrips b freq (stagesAfter b freq [k] s))).map fun k =>
        (EventKind.stageTrip, none, (freq : Int), k.val + 1)) =
      s.recordWith (((k :: l).filter (stageTrips b freq s)).map fun k => (EventKind.stageTrip, none, (freq : Int), k.val + 1)) := by
    rw [List.filter_congr trips, recordWith_recordWith (s := s) (t := stagesAfter b freq [k] s)
      (l := (([k] : List (Fin 8)).filter (stageTrips b freq s)).map fun k => (EventKind.stageTrip, none, (freq : Int), k.val + 1))
      rfl rfl rfl, ← List.map_append, ← List.filter_append, List.singleton_append]
  unfold stagesAfter at timerTable latchTable events ⊢
  rw [timerTable, latchTable, events]

/-- R131, R132: the sample at each of the stages in turn. -/
theorem stages_run {l : List (Fin 8)} (hl : l.Nodup) (hf : s.sheet.freq = some freq)
    (h : ∀ k ∈ l, stageTrips b freq s k = true → StageEmpty s k) :
    l.foldl (fun t k => stageSample b freq k t) s =
      (stagesAfter b freq l s).post ((l.filter (stageTrips b freq s)).map fun _ => .shedTaken) := by
  induction l generalizing s with
  | nil =>
    have none_moved : ∀ {α : Type} (v : Vector α 8) (f : Fin 8 → α), stageTable [] f v = v := fun v f => table_ext fun m => by
      rw [stageTable_get, if_neg List.not_mem_nil]
    rw [stagesAfter, none_moved, none_moved]
    exact post_nil.symm
  | cons k l ih =>
    obtain ⟨fresh, rest⟩ := List.nodup_cons.mp hl
    have one := stageSample_eq hf (h k (List.mem_cons_self ..))
    have trips : ∀ m ∈ l, stageTrips b freq (stagesAfter b freq [k] s) m = stageTrips b freq s m := fun m hm =>
      stageTrips_apart fun e => fresh (e ▸ hm)
    have others := ih (s := (stagesAfter b freq [k] s).post (if stageTrips b freq s k = true then [.shedTaken] else [])) rest hf
      fun m hm trip => h m (List.mem_cons_of_mem k hm) ((trips m hm).symm.trans trip)
    rw [List.foldl_cons, one, others]
    have joined := stagesAfter_cons (s := s) (b := b) (freq := freq) fresh
    have told : ((stagesAfter b freq l (stagesAfter b freq [k] s)).post (if stageTrips b freq s k = true then [.shedTaken] else [])).post
        ((l.filter (stageTrips b freq (stagesAfter b freq [k] s))).map fun _ => .shedTaken) =
        (stagesAfter b freq (k :: l) s).post (((k :: l).filter (stageTrips b freq s)).map fun _ => .shedTaken) := by
      rw [joined, post_post, List.filter_congr trips, List.filter_cons]
      cases stageTrips b freq s k <;> rfl
    exact told

end Sys2Proof.Machine
end

section
/-!
SUPPORT. R130, R131, R139: a frequency sample at Shedding, with no deficit to shed and no feeder to restore; its whole event.
-/

namespace Sys2Proof.Machine

variable {s : State} {b : Bank} {freq : Nat} {k : Fin 8}

/-! ## Latches (R130) -/

/-- R130: the latch of a stage once those that have recovered are clear. -/
def latchKept (b : Bank) (freq : Nat) (s : State) (k : Fin 8) : Bool :=
  s.shed.latches[k] && decide (b.threshold[k] ≠ 0 ∧ freq < b.threshold[k] + b.hysteresis)

/-- R130: the latches after the sample. -/
def latchesKept (b : Bank) (freq : Nat) (s : State) : State :=
  { s with shed := { s.shed with
      latches := stageTable (List.finRange 8) (latchKept b freq s) s.shed.latches
      deficitLatch := s.shed.deficitLatch && !decide (b.restoreFreq ≤ freq)
      progress := if decide (b.restoreFreq ≤ freq) = true then none else s.shed.progress } }

theorem latchesKept_latch : (latchesKept b freq s).shed.latches[k] = latchKept b freq s k := by
  simp only [latchesKept, stageTable_get, List.mem_finRange, if_true]

theorem clearLatches_eq : clearLatches b freq s = latchesKept b freq s := by
  have table : mapIndexed (fun i l => l && !(decide (b.threshold[i] = 0) || decide (b.threshold[i] + b.hysteresis ≤ freq))) s.shed.latches =
      stageTable (List.finRange 8) (latchKept b freq s) s.shed.latches := table_ext fun m => by
    have kept := mapIndexed_get (fun i l => l && !(decide (b.threshold[i] = 0) || decide (b.threshold[i] + b.hysteresis ≤ freq)))
      s.shed.latches m
    rw [stageTable_get, if_pos (List.mem_finRange m), Fin.getElem_fin, kept, latchKept]
    congr 1
    exact Bool.eq_iff_iff.mpr (by simp)
  unfold clearLatches
  simp only [State.modShed, table, latchesKept]
  by_cases recovered : b.restoreFreq ≤ freq
  · rw [if_pos recovered, decide_eq_true recovered, Bool.not_true, Bool.and_false]
    rfl
  · rw [if_neg recovered, decide_eq_false recovered, Bool.not_false, Bool.and_true]
    rfl

/-! ## The restore delay (R139) -/

/-- R139: a count of 0 grants permission at once. -/
def grantsAtOnce (b : Bank) (freq : Nat) (s : State) : Bool :=
  decide (b.restoreFreq ≤ freq) && !s.shed.permission && decide (s.shed.restoreDelay = none ∧ timeMs b.restoreDelay = 0)

/-- R139: delay and permission after the sample. -/
def delayAfter (b : Bank) (freq : Nat) (s : State) : State :=
  { s with
    shed := { s.shed with
      restoreDelay := if decide (b.restoreFreq ≤ freq) = false then none
        else if s.shed.permission = true ∨ s.shed.restoreDelay ≠ none then s.shed.restoreDelay else startTimer (timeMs b.restoreDelay)
      permission := decide (b.restoreFreq ≤ freq) &&
        (s.shed.permission || decide (s.shed.restoreDelay = none ∧ timeMs b.restoreDelay = 0)) }
    dispatch := { s.dispatch with restoreWait := if b.restoreFreq ≤ freq then s.dispatch.restoreWait else none } }

theorem delayAfter_withheld (hp : s.shed.permission = false) (hd : timeMs b.restoreDelay ≠ 0) :
    (delayAfter b freq s).shed.permission = false := by
  simp only [delayAfter, hp, hd, and_false, decide_false, Bool.or_false, Bool.and_false]

/-- R139: what a grant of permission hands on. -/
def grantHandovers (b : Bank) (freq : Nat) (s : State) : List Handover :=
  if grantsAtOnce b freq s = true then [.permissionGrant, .restoreTest] else []

theorem restoreDelaySample_eq (hq : s.orders.queue = []) :
    restoreDelaySample b freq s = (delayAfter b freq s).post (grantHandovers b freq s) := by
  by_cases recovered : b.restoreFreq ≤ freq
  · have above : restoreDelaySample b freq s = if s.shed.permission || s.shed.restoreDelay.isSome then s
        else if timeMs b.restoreDelay = 0 then grantPermission s
        else s.modShed fun x => { x with restoreDelay := some (timeMs b.restoreDelay) } := if_neg (Nat.not_lt.mpr recovered)
    simp only [above, delayAfter, grantHandovers, grantsAtOnce, decide_eq_true recovered, if_pos recovered, Bool.true_and]
    cases permission : s.shed.permission with
    | true =>
      simp only [Bool.true_or, if_true, Bool.not_true, Bool.false_and, Bool.false_eq_true, if_false, true_or, post_nil, reduceCtorEq]
      rw [← permission]
    | false =>
      cases delay : s.shed.restoreDelay with
      | some ms =>
        simp only [Option.isSome_some, Bool.false_or, if_true, Bool.not_false, Bool.true_and, reduceCtorEq, false_and, decide_false,
          Bool.false_eq_true, if_false, ne_eq, not_false_eq_true, or_true, post_nil]
        rw [← permission, ← delay]
      | none =>
        by_cases atOnce : timeMs b.restoreDelay = 0
        · simp [atOnce, startTimer, grantPermission, State.modShed]
        · simp [atOnce, startTimer, State.modShed, permission]
  · have below : restoreDelaySample b freq s = permissionWithdrawn s := restoreDelaySample_below (Nat.not_le.mp recovered) hq
    simp only [below, delayAfter, grantHandovers, grantsAtOnce, decide_eq_false recovered, if_neg recovered, Bool.false_and, if_true,
      Bool.false_eq_true, if_false, post_nil]
    rfl

/-! ## The sample (R130) -/

theorem deficitTest_calm (h : b.deficitArming ≤ freq ∨ ∀ r, s.sheet.rocof = some r → -(b.deficitTrigger : Int) < r) :
    deficitTest b freq s = s := by
  refine if_neg ?_
  rcases h with high | rises
  · simp [Nat.not_lt.mpr high]
  · cases rocof : s.sheet.rocof with
    | none => simp
    | some r => simp [Int.not_le.mpr (rises r rocof)]

/-- R130, R139, R140: Shedding after the sample. -/
def shedSampled (freq : Nat) (s : State) : State :=
  let staged := stagesAfter s.bank freq (List.finRange 8) (delayAfter s.bank freq (latchesKept s.bank freq s))
  { staged with dispatch := { staged.dispatch with
      restoreWait := if s.inRun = true ∧ decide (s.bank.restoreFreq ≤ freq) = true then s.dispatch.restoreWait else none } }

/-- R132, R139: what Shedding hands on at the sample. -/
def shedSampledHandovers (freq : Nat) (s : State) : List Handover :=
  let cleared := latchesKept s.bank freq s
  grantHandovers s.bank freq cleared ++
    (((List.finRange 8).filter (stageTrips s.bank freq cleared)).map fun _ => .shedTaken)

/-- R131, R139: Shedding once the stages have been examined. -/
def shedStaged (freq : Nat) (s : State) : State :=
  (stagesAfter s.bank freq (List.finRange 8) (delayAfter s.bank freq (latchesKept s.bank freq s))).post (shedSampledHandovers freq s)

theorem stagesAfter_frame {l : List (Fin 8)} {m : List Handover} : ((stagesAfter b freq l s).post m).inRun = s.inRun ∧
    ((stagesAfter b freq l s).post m).shed.stack = s.shed.stack ∧
    ((stagesAfter b freq l s).post m).dispatch.restoreWait = s.dispatch.restoreWait ∧
    ((stagesAfter b freq l s).post m).shed.permission = s.shed.permission := ⟨rfl, rfl, rfl, rfl⟩

theorem shedStaged_frame : (shedStaged freq s).inRun = s.inRun ∧ (shedStaged freq s).shed.stack = s.shed.stack ∧
    (shedStaged freq s).dispatch.restoreWait = (if s.bank.restoreFreq ≤ freq then s.dispatch.restoreWait else none) ∧
    (shedStaged freq s).shed.permission = (delayAfter s.bank freq (latchesKept s.bank freq s)).shed.permission :=
  stagesAfter_frame

theorem shedSample_calm (hq : s.orders.queue = []) (hf : s.sheet.freq = some freq)
    (htrips : ∀ k, stageTrips s.bank freq (latchesKept s.bank freq s) k = true → StageEmpty s k)
    (hrestore : s.bank.restoreFreq ≤ freq → s.shed.stack = [] ∨ (s.shed.permission = false ∧ timeMs s.bank.restoreDelay ≠ 0))
    (hdeficit : s.bank.deficitArming ≤ freq ∨ ∀ r, s.sheet.rocof = some r → -(s.bank.deficitTrigger : Int) < r) :
    shedSample freq s = (shedSampled freq s).post (shedSampledHandovers freq s) := by
  have trips : stageTrips s.bank freq
      ((delayAfter s.bank freq (latchesKept s.bank freq s)).post (grantHandovers s.bank freq (latchesKept s.bank freq s))) =
        stageTrips s.bank freq (latchesKept s.bank freq s) := stageTrips_congr rfl rfl
  have staged := stages_run
    (s := (delayAfter s.bank freq (latchesKept s.bank freq s)).post (grantHandovers s.bank freq (latchesKept s.bank freq s)))
    (b := s.bank) (freq := freq) (List.nodup_finRange 8) hf fun k _ trip => (htrips k (by rwa [trips] at trip)).congr rfl
  rw [trips, stagesAfter_post, post_post] at staged
  have calm := deficitTest_calm (freq := freq) (b := s.bank)
    (s := shedStaged freq s) hdeficit
  have sampled : shedSample freq s = if s.bank.restoreFreq ≤ freq
      then restoreTest (shedStaged freq s)
      else shedStaged freq s := by
    unfold shedSample
    simp only [clearLatches_eq]
    rw [restoreDelaySample_eq (s := latchesKept s.bank freq s) hq, staged]
    exact ite_congr rfl (fun _ => congrArg restoreTest calm) fun _ => calm
  have wait : ∀ w, w = (if s.inRun = true ∧ decide (s.bank.restoreFreq ≤ freq) = true then s.dispatch.restoreWait else none) →
      postRestoreWait w (shedStaged freq s) = (shedSampled freq s).post (shedSampledHandovers freq s) := fun w hw => by
    subst hw
    rfl
  have frame := shedStaged_frame (freq := freq) (s := s)
  rw [sampled]
  generalize shedStaged freq s = y at wait frame ⊢
  obtain ⟨run, stack, waited, permission⟩ := frame
  by_cases recovered : s.bank.restoreFreq ≤ freq
  · have quiet : y.shed.permission = false ∨ y.shed.stack = [] := by
      rw [permission, stack]
      exact (hrestore recovered).symm.imp_left fun ⟨withheld, delay⟩ => delayAfter_withheld (s := latchesKept s.bank freq s) withheld delay
    rw [if_pos recovered, restoreTest_quiet quiet]
    refine wait _ ?_
    rw [run, waited, if_pos recovered, decide_eq_true recovered]
    simp only [and_true]
  · rw [if_neg recovered]
    refine Eq.trans ?_ (wait none (by rw [decide_eq_false recovered, if_neg fun h => nomatch h.2]))
    rw [if_neg recovered] at waited
    rw [postRestoreWait, ← waited]

end Sys2Proof.Machine
end

section
/-!
SUPPORT. R130 to R132, R139: the event of a frequency sample with no deficit to shed and no feeder to restore.
-/

namespace Sys2Proof.Machine

variable {s : State} {freq : Nat} {k : Fin 8}

/-! ## What the sample leaves -/

theorem delayed_trips : stageTrips s.bank freq (delayAfter s.bank freq (latchesKept s.bank freq s)) =
    stageTrips s.bank freq (latchesKept s.bank freq s) := stageTrips_congr rfl rfl

theorem shedSampled_eq : shedSampled freq s = { s with
    shed := { s.shed with
      stageTimers := (shedSampled freq s).shed.stageTimers, latches := (shedSampled freq s).shed.latches
      deficitLatch := s.shed.deficitLatch && !decide (s.bank.restoreFreq ≤ freq)
      progress := if decide (s.bank.restoreFreq ≤ freq) = true then none else s.shed.progress
      restoreDelay := if decide (s.bank.restoreFreq ≤ freq) = false then none
        else if s.shed.permission = true ∨ s.shed.restoreDelay ≠ none then s.shed.restoreDelay
        else startTimer (timeMs s.bank.restoreDelay)
      permission := decide (s.bank.restoreFreq ≤ freq) &&
        (s.shed.permission || decide (s.shed.restoreDelay = none ∧ timeMs s.bank.restoreDelay = 0)) }
    dispatch := { s.dispatch with
      restoreWait := if s.inRun = true ∧ decide (s.bank.restoreFreq ≤ freq) = true then s.dispatch.restoreWait else none }
    record := s.recordWith (((List.finRange 8).filter (stageTrips s.bank freq (latchesKept s.bank freq s))).map fun k =>
      (EventKind.stageTrip, none, (freq : Int), k.val + 1)) } := by
  rw [← delayed_trips]
  rfl

theorem shedSampled_timer : (shedSampled freq s).shed.stageTimers[k] =
    if stageStarts s.bank freq (latchesKept s.bank freq s) k = true then startTimer (timeMs s.bank.delay[k])
    else if latchKept s.bank freq s k = true ∨ freq < s.bank.threshold[k] + s.bank.hysteresis ∨ s.bank.threshold[k] = 0
    then s.shed.stageTimers[k] else none := by
  have after : (shedSampled freq s).shed.stageTimers[k] =
      stageTimerAfter s.bank freq (delayAfter s.bank freq (latchesKept s.bank freq s)) k := by
    simp only [shedSampled, stagesAfter, stageTable_get, List.mem_finRange, if_true]
  rw [after, ← latchesKept_latch]
  rfl

theorem shedSampled_latch : (shedSampled freq s).shed.latches[k] =
    (latchKept s.bank freq s k || stageTrips s.bank freq (latchesKept s.bank freq s) k) := by
  have after : (shedSampled freq s).shed.latches[k] =
      stageLatchAfter s.bank freq (delayAfter s.bank freq (latchesKept s.bank freq s)) k := by
    simp only [shedSampled, stagesAfter, stageTable_get, List.mem_finRange, if_true]
  rw [after, ← latchesKept_latch, ← delayed_trips]
  rfl

theorem shedSampled_frame : (shedSampled freq s).handovers = s.handovers ∧ (shedSampled freq s).seq = s.seq ∧
    (shedSampled freq s).orders = s.orders ∧ (shedSampled freq s).bank = s.bank ∧
    (shedSampled freq s).inRun = s.inRun ∧ (shedSampled freq s).shed.stack = s.shed.stack ∧ (shedSampled freq s).dispatch.restoreWait =
      if s.inRun = true ∧ decide (s.bank.restoreFreq ≤ freq) = true then s.dispatch.restoreWait else none := by
  simp only [State.bank, State.inRun, shedSampled, stagesAfter, delayAfter, latchesKept, and_self]

/-! ## Its cascade -/

theorem shedSampled_waits (h : s.bank.restoreFreq ≤ freq) : (shedSampled freq s).dispatch.restoreWait =
    if (shedSampled freq s).inRun then (shedSampled freq s).dispatch.restoreWait else none := by
  obtain ⟨-, -, -, -, run, -, wait⟩ := shedSampled_frame (freq := freq) (s := s)
  rw [wait, run, decide_eq_true h]
  cases s.inRun <;> rfl

/-- R139, R161: what Shedding hands on finds nothing to do. -/
theorem shedSampled_still (hrun : ∀ k, stageTrips s.bank freq (latchesKept s.bank freq s) k = true → s.inRun = false)
    (hstack : s.bank.restoreFreq ≤ freq → s.shed.stack = [] ∨ (s.shed.permission = false ∧ timeMs s.bank.restoreDelay ≠ 0))
    (hseq : timeMs s.bank.restoreDelay = 0 → s.seq.stack = []) :
    ∀ x ∈ shedSampledHandovers freq s, handle x (shedSampled freq s) = shedSampled freq s := by
  obtain ⟨-, seq, -, -, run, stack, -⟩ := shedSampled_frame (freq := freq) (s := s)
  intro x hx
  rcases List.mem_append.mp hx with granted | shed
  · have atOnce : grantsAtOnce s.bank freq (latchesKept s.bank freq s) = true := by
      by_contra h
      rw [grantHandovers, if_neg h] at granted
      cases granted
    obtain ⟨⟨recovered, -⟩, -, delay⟩ : (s.bank.restoreFreq ≤ freq ∧ s.shed.permission = false) ∧
        s.shed.restoreDelay = none ∧ timeMs s.bank.restoreDelay = 0 := by
      simpa [grantsAtOnce, latchesKept] using atOnce
    rw [grantHandovers, if_pos atOnce] at granted
    rcases List.mem_pair.mp granted with rfl | rfl
    · have none_suspended : (shedSampled freq s).seq.stack.getLast? = none := by
        rw [seq, hseq delay]
        rfl
      simp only [handle, popProtection, none_suspended]
    · have empty : (shedSampled freq s).shed.stack = [] :=
        stack.trans ((hstack recovered).resolve_right fun h => h.2 delay)
      refine (restoreTest_quiet (.inr empty)).trans ?_
      rw [← shedSampled_waits recovered]
  · obtain ⟨k, hk, rfl⟩ := List.mem_map.mp shed
    have idle : (shedSampled freq s).inRun = false := run.trans (hrun k (List.mem_filter.mp hk).2)
    simp only [handle, suspendRun, idle, Bool.false_eq_true, if_false]

theorem shedSampledHandovers_length : (shedSampledHandovers freq s).length ≤ 10 := by
  have granted : (grantHandovers s.bank freq (latchesKept s.bank freq s)).length ≤ 2 := by
    unfold grantHandovers
    split <;> simp
  have stages := List.length_filter_le (stageTrips s.bank freq (latchesKept s.bank freq s)) (List.finRange 8)
  rw [List.length_finRange] at stages
  rw [shedSampledHandovers, List.length_append, List.length_map]
  omega

/-- R130 to R132, R139: the cascade of the sample ends where Shedding left it. -/
theorem settle_shedSampled {n : Nat} (hn : 12 ≤ n) (hidle : s.handovers = []) (hq : s.orders.queue = []) (hw : s.seq.state ≠ .waiting)
    (hover : freq ≤ s.bank.fOfc) (hrun : ∀ k, stageTrips s.bank freq (latchesKept s.bank freq s) k = true → s.inRun = false)
    (hstack : s.bank.restoreFreq ≤ freq → s.shed.stack = [] ∨ (s.shed.permission = false ∧ timeMs s.bank.restoreDelay ≠ 0))
    (hseq : timeMs s.bank.restoreDelay = 0 → s.seq.stack = []) :
    settleLoop n (shedSampledHandovers freq s ++ [.sampleJobs freq]) (shedSampled freq s) = shedSampled freq s := by
  have short := shedSampledHandovers_length (freq := freq) (s := s)
  obtain ⟨m, rfl⟩ : ∃ m, n = m + 2 + (shedSampledHandovers freq s).length := ⟨n - 2 - (shedSampledHandovers freq s).length, by omega⟩
  obtain ⟨idle, seq, orders, bank, -⟩ := shedSampled_frame (freq := freq) (s := s)
  rw [settleLoop_still (idle.trans hidle) (shedSampled_still hrun hstack hseq)]
  exact settleLoop_sampleJobs (idle.trans hidle) (by rwa [seq]) (by rwa [bank]) (by rwa [orders])

/-! ## The second part of O11 -/

/-- R130 to R132, R139: the words of the statement about one stage are those of the model. -/
theorem stage_words {t : State} {b : Bank} (hb : t.bank = b) (hs : t.shed = s.shed) :
    let latch := fun (k : Fin 8) => s.shed.latches[k] && decide (b.threshold[k] ≠ 0 ∧ freq < b.threshold[k] + b.hysteresis)
    let starts := fun (k : Fin 8) => decide (freq < b.threshold[k] ∧ latch k = false ∧ s.shed.stageTimers[k] = none)
    latchKept t.bank freq t = latch ∧ stageStarts t.bank freq (latchesKept t.bank freq t) = starts ∧
      stageTrips t.bank freq (latchesKept t.bank freq t) = fun k => starts k && decide (timeMs b.delay[k] = 0) := by
  intro latch starts
  have kept : latchKept t.bank freq t = latch := by
    funext k
    rw [latchKept, hb, hs]
  have start : stageStarts t.bank freq (latchesKept t.bank freq t) = starts := by
    funext k
    rw [stageStarts, latchesKept_latch, kept, show (latchesKept t.bank freq t).shed.stageTimers = t.shed.stageTimers from rfl, hb, hs]
  refine ⟨kept, start, ?_⟩
  funext k
  rw [stageTrips, start, hb]

/-- R130 to R132, R139: the second part of O11. -/
theorem sample_sheds {p : Port} {f : Frame} {t : Telegram} {i : Fin 64} {v : Int} (h : FreqReport s p f t i v)
    (hnew : (s.sources[i]).lastSeq = none ∨ ∃ l, (s.sources[i]).lastSeq = some l ∧ newer t.seq l = true) :
    let freq := clampedFreq v
    let sampled := (passedOn p f t s).sampleTaken i t v
    let bank := s.bank
    let recovered := decide (bank.restoreFreq ≤ freq)
    let delay := timeMs bank.restoreDelay
    let latch := fun (k : Fin 8) =>
      s.shed.latches[k] && decide (bank.threshold[k] ≠ 0 ∧ freq < bank.threshold[k] + bank.hysteresis)
    let starts := fun (k : Fin 8) => decide (freq < bank.threshold[k] ∧ latch k = false ∧ s.shed.stageTimers[k] = none)
    let trips := fun (k : Fin 8) => starts k && decide (timeMs bank.delay[k] = 0)
    s.orders.queue = [] → s.seq.state ≠ .waiting → freq ≤ bank.fOfc →
    (∀ k : Fin 8, trips k = true → s.inRun = false ∧
      ∀ j : Fin 32, (s.shed.table[j]).feeder = none ∨ (s.shed.table[j]).stage ≠ k) →
    (recovered = true → s.shed.stack = [] ∨ (s.shed.permission = false ∧ delay ≠ 0)) → (delay = 0 → s.seq.stack = []) →
    bank.deficitArming ≤ freq ∨ (∀ r, sampled.sheet.rocof = some r → -(bank.deficitTrigger : Int) < r) →
    ∃ t', exec (.sampleReport p f) s = .next t' ∧
      t' = { sampled with
        shed := { s.shed with
          stageTimers := t'.shed.stageTimers, latches := t'.shed.latches
          deficitLatch := s.shed.deficitLatch && !recovered
          progress := if recovered = true then none else s.shed.progress
          restoreDelay := if recovered = false then none
            else if s.shed.permission = true ∨ s.shed.restoreDelay ≠ none then s.shed.restoreDelay else startTimer delay
          permission := recovered && (s.shed.permission || decide (s.shed.restoreDelay = none ∧ delay = 0)) }
        dispatch := { s.dispatch with
          restoreWait := if s.inRun = true ∧ recovered = true then s.dispatch.restoreWait else none }
        record := s.recordWith (((List.finRange 8).filter trips).map fun k =>
          (EventKind.stageTrip, (none : Option Subject), (freq : Int), k.val + 1)) } ∧
      (∀ k : Fin 8, t'.shed.latches[k] = (latch k || trips k)) ∧
      (∀ k : Fin 8, t'.shed.stageTimers[k] =
        if starts k = true then startTimer (timeMs bank.delay[k])
        else if latch k = true ∨ freq < bank.threshold[k] + bank.hysteresis ∨ bank.threshold[k] = 0 then s.shed.stageTimers[k]
        else none) := by
  have event := fun {y : State} {l : List Handover} => exec_freqReport (y := y) (l := l) h (newerOrFirst_of hnew)
  have frame := sampleTaken_frame (s := s) (p := p) (f := f) (t := t) (i := i) (v := v)
  have idle := h.1.1.2
  have taken : ((passedOn p f t s).sampleTaken i t v).sheet.freq = some (clampedFreq v) := rfl
  generalize (passedOn p f t s).sampleTaken i t v = S at frame event taken ⊢
  obtain ⟨quiet, bank, shed, seq, -, dispatch, orders, -, -, -, -, -, record⟩ := frame
  intro freq sampled b recovered delay latch starts trips queue wait cap alone restore suspended deficit
  obtain ⟨latches, start, trip⟩ := stage_words (s := s) (t := S) (freq := freq) bank shed
  have run : S.inRun = s.inRun := by rw [State.inRun, State.inRun, seq]
  have tripping : ∀ k, stageTrips S.bank freq (latchesKept S.bank freq S) k = true → trips k = true := fun k hk => by
    rw [trip] at hk
    exact hk
  have empty : ∀ k, stageTrips S.bank freq (latchesKept S.bank freq S) k = true → StageEmpty S k := fun k hk => by
    rw [StageEmpty, shed]
    exact (alone k (tripping k hk)).2
  have waits : S.orders.queue = [] := by rw [orders]; exact queue
  have unrestored : S.bank.restoreFreq ≤ freq → S.shed.stack = [] ∨ (S.shed.permission = false ∧ timeMs S.bank.restoreDelay ≠ 0) := by
    rw [bank, shed]
    exact fun above => restore (decide_eq_true above)
  have done := shedSample_calm (s := S) waits taken empty unrestored (by rw [bank]; exact deficit)
  have settled := settle_shedSampled (s := S) (freq := freq) (n := 2 ^ 64 - 8 + 7) (by omega) (quiet.trans idle) waits (by rw [seq]; exact wait)
    (by rw [bank]; exact cap) (fun k hk => run.trans (alone k (tripping k hk)).1) unrestored (by rw [bank, seq]; exact suspended)
  have ran : exec (.sampleReport p f) s = .next (shedSampled freq S) := by
    rw [event done (shedSampled_frame.1.trans (quiet.trans idle)), settled]
  refine ⟨shedSampled freq S, ran, ?_, fun k => ?_, fun k => ?_⟩
  · refine shedSampled_eq.trans ?_
    rw [trip, record, run, bank, shed, dispatch]
  · rw [shedSampled_latch, latches, trip]
  · rw [shedSampled_timer, start, latches, bank, shed]

end Sys2Proof.Machine
end

section
/-!
SUPPORT. R102, R103: a PRESS of an AIR entry that ends the air hold-off early, and the crank it grants (R92).
-/

namespace Sys2Proof.Machine

variable {s : State} {u : Fin 16} {i : Fin 64} {v : Int}

/-! ## The measurement (R7 to R10) -/

/-- R9: a reported PRESS, clamped to its range. -/
def clampedPress (v : Int) : Nat := (max 0 (min 4000 v)).toNat

theorem pressItem_of_press {l : List (Nat × Int)} (h : l.find? (fun x => x.1 = 7) = some (7, v)) :
    pressItem l = some (max 0 (min 4000 v), max 0 (min 4000 v) != v) := by
  have first : firstItem quantityPress l = some v := congrArg (Option.map Prod.snd) h
  rw [pressItem, clampedItem, first]
  rfl

/-- R8 to R10: an AIR entry after a report with a PRESS. -/
def withPress (v : Int) (e : SourceEntry) : SourceEntry :=
  { timerFull e with press := some (clampedPress v), clamped := decide ((clampedPress v : Int) ≠ v) }

/-- R10: a report with a PRESS of a FRESH AIR entry hands it to the Crank Arbiter. -/
theorem acceptSample_press {r : SampleReport} (hrole : (s.sources[i]).role = .air) (hfresh : (s.sources[i]).fresh = true)
    (hp : r.items.find? (fun x => x.1 = 7) = some (7, v)) :
    acceptSample i r s = (s.modSource i (withPress v)).post [.pressure (clampedPress v)] := by
  have entry : writeSource r.items s.sources[i] = { s.sources[i] with
      press := some (clampedPress v), clamped := decide ((clampedPress v : Int) ≠ v) } := by
    have clamped : (max 0 (min 4000 v) != v) = decide ((clampedPress v : Int) ≠ v) := by
      rw [clampedPress, Int.toNat_of_nonneg (le_max_left 0 _)]
      exact Bool.eq_iff_iff.mpr (by simp)
    simp only [writeSource, hrole, pressItem_of_press hp, written, clamped, clampedAfter, List.all_cons, Option.isNone_some,
      Bool.false_and, Bool.false_eq_true, if_false, List.any_cons, Option.any_some, List.any_nil, Bool.or_false]
    rfl
  have wrote : writeItems i r.items s = s.modSource i (writeSource r.items) := by
    simp only [writeItems, hrole]
  have stays : ((s.modSource i (writeSource r.items)).sources[i]).fresh = true := by
    rw [modSource_entry, entry]
    exact hfresh
  have recorded : sampleWritten i r s = s.modSource i (withPress v) := by
    simp only [sampleWritten, makeFresh, wrote, if_pos stays, modSource_modSource]
    exact modSource_congr (by rw [entry]; rfl)
  have role : ((s.modSource i (withPress v)).sources[i]).role = .air := by rw [modSource_entry]; exact hrole
  have chosen : sampleChosen i r s = s.modSource i (withPress v) := by
    have before : entryFreq s i = none := by simp only [entryFreq, hrole]
    have after : entryFreq (s.modSource i (withPress v)) i = none := by simp only [entryFreq, role]
    unfold sampleChosen
    simp only [recorded, before, after, hfresh]
    rfl
  have none : sampleFreq (s.modSource i (withPress v)) i r.items = none := by
    simp only [sampleFreq, role]
    rfl
  have told : sampleHandovers (s.modSource i (withPress v)) i (s.sources[i]).fresh r.items = [.pressure (clampedPress v)] := by
    simp only [sampleHandovers, role, pressItem_of_press hp]
    rfl
  rw [acceptSample_eq]
  simp only [hrole, chosen, recomputeFor, none, takeSample, told]

/-! ## The end of the hold-off (R103) -/

theorem nextCrank_free (hb : s.arbiter.batch = []) (hw : s.arbiter.waiting = []) : nextCrank s = { s with arbiter := {} } := by
  have left : nextCrank s = s.modArbiter fun a => { a with state := .free, grant := none, holdOff := none } := by
    unfold nextCrank
    rw [hb, hw]
    rfl
  rw [left]
  unfold State.modArbiter
  simp only [hb, hw]

theorem nextCrank_batch {r : CrankRequest} {rest : List CrankRequest} (hb : s.arbiter.batch = r :: rest) (hr : r.cls ≠ .operator) :
    nextCrank s = (s.grantsNext r rest s.arbiter.waiting).post [.grant r.unit] := by
  unfold nextCrank grantTo
  simp only [hb, if_neg hr, State.grantsNext]
  rfl

/-! ## The crank (R85, R91, R92, R97) -/

/-- R85, R92: the genset is in CRANKING and its attempt is counted. -/
def crankingOf (u : Fin 16) (s : State) : State :=
  s.modGenset u fun g => { g with state := .cranking, attempts := g.attempts + 1, timer := none }

theorem crankingOf_entry : (crankingOf u s).units[u] = { s.units[u] with
    genset := { (s.units[u]).genset with
      state := .cranking, attempts := (s.units[u]).genset.attempts + 1, timer := none } } := modGenset_entry

theorem moved_cranking : moved u .cranking (s.modGenset u fun g => { g with attempts := g.attempts + 1 }) = crankingOf u s := by
  rw [moved, modGenset_modGenset, crankingOf]
  exact modGenset_congr (by simp)

/-- R25, R29: START_QUEUED and CRANKING are both of the starting set. -/
theorem computeSheet_cranking (hu : s.inState u .startQueued = true) : computeSheet (crankingOf u s) = computeSheet s := by
  obtain ⟨-, state⟩ := inState_iff.mp hu
  rw [State.genset, Fin.getElem_fin] at state
  exact computeSheet_modGenset u _ (by simp [UnitRec.inOnlineSet, state]) (by simp [UnitRec.inStartingSet, state])

theorem changeState_cranking (hu : s.inState u .startQueued = true) (hs : SheetKept s) :
    changeState u .cranking (s.modGenset u fun g => { g with attempts := g.attempts + 1 }) = (crankingOf u s).post [.stopTest] := by
  obtain ⟨-, state⟩ := inState_iff.mp hu
  have before : ((s.modGenset u fun g => { g with attempts := g.attempts + 1 }).genset u).state = .startQueued := by
    rw [genset_modGenset]
    exact state
  have told : ∀ want, stateHandovers u .startQueued .cranking want = [.stopTest] := fun want => by simp [stateHandovers]
  rw [changeState_still, before, told, moved_cranking]
  · rw [moved_cranking, computeSheet_cranking hu]
    exact hs.symm
  · rw [before]
    exact fun h => h.elim nofun nofun

/-- R57, R92: the CRANK of the genset. -/
def crankOrder (u : Fin 16) (s : State) : Order :=
  { target := .unit u, device := (s.units[u]).device, kind := .crank, cls := .routine
    value := ((s.profiles[(s.units[u]).startProfile]).pulse.toNat : Int), cause := .dispatch, profile := (s.units[u]).startProfile }

theorem submitDispatch_cranking (h : TakesAlone s (.unit u)) : submitDispatch .crank u ((crankingOf u s).post [.stopTest]) =
    (((crankingOf u s).submitsAlone (crankOrder u s)).modGenset u fun g => { g with outstanding := some .crank, owed := none }).post
      [.stopTest] := by
  have entry : ((crankingOf u s).post [.stopTest]).units[u] = { s.units[u] with genset := { (s.units[u]).genset with
      state := .cranking, attempts := (s.units[u]).genset.attempts + 1, timer := none } } := crankingOf_entry
  have takes : TakesAlone ((crankingOf u s).post [.stopTest]) (.unit u) := by
    obtain ⟨queue, high, offset, free⟩ := h
    refine ⟨queue, high, offset, ?_⟩
    simp only [State.cycleOf, State.holdOffOf, State.targetInhibit, entry]
    exact free
  have order : { dispatchOrder ((crankingOf u s).post [.stopTest]) u .crank with
      device := (((crankingOf u s).post [.stopTest]).units[u]).device } = crankOrder u s := by
    simp only [dispatchOrder, entry]
    rfl
  rw [submitDispatch_alone takes, order]
  exact congrArg (State.modGenset · u _) submitsAlone_post

/-- R92: the grant of a crank to a genset in START_QUEUED. -/
theorem takeGrant_cranks (hu : s.inState u .startQueued = true) (hs : SheetKept s) (h : TakesAlone s (.unit u)) : takeGrant u s =
    (((crankingOf u s).submitsAlone (crankOrder u s)).modGenset u fun g => { g with outstanding := some .crank, owed := none }).post
      [.stopTest] := by
  rw [takeGrant, if_pos hu, changeState_cranking hu hs, submitDispatch_cranking h]

/-- R97: the stop test that the crank hands on finds a genset starting. -/
theorem stopTest_cranks (hu : s.inState u .startQueued = true) :
    stopTest (((crankingOf u s).submitsAlone (crankOrder u s)).modGenset u fun g => { g with outstanding := some .crank, owed := none }) =
      s.cranksAlone u := by
  obtain ⟨kind, -⟩ := inState_iff.mp hu
  obtain ⟨c, record⟩ := submitsAlone_unit (s := crankingOf u s) (o := crankOrder u s) u
  have starting : (((((crankingOf u s).submitsAlone (crankOrder u s)).modGenset u fun g =>
      { g with outstanding := some .crank, owed := none }).units[u])).inStartingSet = true := by
    rw [modGenset_entry, record, crankingOf_entry]
    simp only [UnitRec.inStartingSet, kind, decide_true, Bool.and_self]
  have dispatch : ((crankingOf u s).submitsAlone (crankOrder u s)).dispatch = s.dispatch := submitsAlone_dispatch
  rw [stopTest_none (stopWanted_none_of_busy u (.inl starting)), State.setStopTimer,
    show (((crankingOf u s).submitsAlone (crankOrder u s)).modGenset u fun g =>
      { g with outstanding := some .crank, owed := none }).dispatch = s.dispatch from dispatch]
  rfl

end Sys2Proof.Machine
end

section
/-!
SUPPORT. R102, R103: the event of a PRESS that ends the air hold-off early.
-/

namespace Sys2Proof.Machine

variable {s : State} {p : Port} {f : Frame} {t : Telegram} {i : Fin 64} {k : Fin 32} {v : Int}

/-! ## The event of a PRESS -/

/-- R5, R10: what an admitted report of a FRESH entry changes in it, its items apart. -/
def sequenced (t : Telegram) (now : PartTime) (e : SourceEntry) : SourceEntry :=
  { e with lastSeq := some t.seq, lastArrival := some now, staleTimer := some (timeOrSecond e.staleLimit) }

/-- R5 to R10: the state with a PRESS in its entry. -/
def pressTaken (i : Fin 64) (p : Port) (f : Frame) (t : Telegram) (v : Int) (s : State) : State :=
  (passedOn p f t s).modSource i fun e =>
    { sequenced t s.partTime e with press := some (clampedPress v), clamped := decide ((clampedPress v : Int) ≠ v) }

theorem pressTaken_frame : (pressTaken i p f t v s).handovers = s.handovers ∧ (pressTaken i p f t v s).arbiter = s.arbiter ∧
    (pressTaken i p f t v s).settings = s.settings ∧ (pressTaken i p f t v s).units = s.units ∧
    (pressTaken i p f t v s).orders = s.orders := by
  rw [pressTaken, passedOn_frame]
  exact ⟨rfl, rfl, rfl, rfl, rfl⟩

theorem pressTaken_sheetKept (h : SheetKept s) : SheetKept (pressTaken i p f t v s) := by
  unfold pressTaken
  rw [passedOn_frame]
  exact h

theorem inState_same {y : State} {u : Fin 16} {g : GensetState} (hu : y.units = s.units) : y.inState u g = s.inState u g := by
  unfold State.inState State.isGenset State.genset
  rw [hu]

theorem takesAlone_same {y : State} {u : Fin 16} (ho : y.orders = s.orders) (hs : y.settings = s.settings) (hu : y.units = s.units)
    (h : TakesAlone s (.unit u)) : TakesAlone y (.unit u) := by
  unfold TakesAlone State.cycleOf State.holdOffOf State.targetInhibit at h ⊢
  rw [ho, hs, hu]
  exact h

theorem exec_press (h : Arrives s p f t) (hk : t.kind = kindSampleReport)
    (hi : findIndex s.sources (fun e => e.used && e.publisher = t.sender) = some i) (hfresh : (s.sources[i]).fresh = true)
    (hseq : newerOrFirst t.seq (s.sources[i]).lastSeq = true) (hvalid : read8 t.body 4 = 0) (hrole : (s.sources[i]).role = .air)
    (hp : (sampleItems t.body).find? (fun x => x.1 = 7) = some (7, v)) {y : State} {l : List Handover}
    (hy : pressureReady (clampedPress v) (pressTaken i p f t v s) = y.post l) (hidle : y.handovers = []) :
    exec (.sampleReport p f) s = .next (settleLoop (2 ^ 64 - 8 + 7) l y) := by
  have entry := admitted_entry (s := s) (i := i) (p := p) (f := f) (t := t)
  have taken : (admitted i p f t s).modSource i (withPress v) = pressTaken i p f t v s := by
    rw [admitted, modSource_modSource]
    exact modSource_congr (by
      rw [passedOn_sources, withPress, timerFull, sequenced]
      simp only [hfresh])
  have handed : handle (.pressure (clampedPress v)) (pressTaken i p f t v s) = y.post l := hy
  rw [exec_accepted h hk hi (by rw [hrole]; nofun) (.inr hseq) hvalid,
    acceptSample_press (v := v) (by rw [entry]; exact hrole) (by rw [entry]; exact hfresh) hp, taken,
    settle_post (pressTaken_frame.1.trans h.1.2), settleLoop_handed handed hidle, List.append_nil]

/-- R102, R103: the air hold-off ends early, and the next crank is granted or the arbiter is FREE. -/
theorem press_ends_holdOff (h : Arrives s p f t) (hk : t.kind = kindSampleReport)
    (hi : findIndex s.sources (fun e => e.used && e.publisher = t.sender) = some i) (hfresh : (s.sources[i]).fresh = true)
    (hseq : newerOrFirst t.seq (s.sources[i]).lastSeq = true) (hvalid : read8 t.body 4 = 0) (hrole : (s.sources[i]).role = .air)
    (hp : (sampleItems t.body).find? (fun x => x.1 = 7) = some (7, v)) :
    let s0 := pressTaken i p f t v s
    let ready := s.arbiter.state = .holdoff ∧ s.settings.airReady ≠ 0 ∧ s.settings.airReady ≤ clampedPress v
    (¬ ready → exec (.sampleReport p f) s = .next s0) ∧
    (ready → s.arbiter.batch = [] → s.arbiter.waiting = [] → exec (.sampleReport p f) s = .next { s0 with arbiter := {} }) ∧
    (∀ r rest, ready → s.arbiter.batch = r :: rest → r.cls ≠ .operator →
      let granted := s0.grantsNext r rest s.arbiter.waiting
      (s.inState r.unit .startQueued = false → exec (.sampleReport p f) s = .next granted) ∧
      (s.inState r.unit .startQueued = true → SheetKept s → TakesAlone s (.unit r.unit) →
        exec (.sampleReport p f) s = .next (granted.cranksAlone r.unit))) := by
  have event := fun {y : State} {l : List Handover} => exec_press (y := y) (l := l) h hk hi hfresh hseq hvalid hrole hp
  obtain ⟨handovers, arbiter, settings, units, orders⟩ := pressTaken_frame (i := i) (p := p) (f := f) (t := t) (v := v) (s := s)
  have sheet := pressTaken_sheetKept (i := i) (p := p) (f := f) (t := t) (v := v) (s := s)
  generalize pressTaken i p f t v s = S at event handovers arbiter settings units orders sheet ⊢
  intro s0 ready
  have idle : S.handovers = [] := handovers.trans h.1.2
  have ends : ready → pressureReady (clampedPress v) S = nextCrank S := fun ⟨holdoff, on, above⟩ =>
    if_pos (by simp only [arbiter, settings, holdoff, decide_true, Bool.true_and, Bool.and_eq_true, decide_eq_true_eq]; exact ⟨on, above⟩)
  refine ⟨fun early => ?_, fun now batch waiting => ?_, fun r rest now batch cls => ?_⟩
  · have stays : pressureReady (clampedPress v) S = S.post [] := by
      rw [post_nil]
      refine if_neg fun on => early ?_
      simpa only [arbiter, settings, Bool.and_eq_true, decide_eq_true_eq, and_assoc] using on
    rw [event stays idle, settleLoop_nil]
  · have free : pressureReady (clampedPress v) S = ({ S with arbiter := {} } : State).post [] := by
      rw [ends now, nextCrank_free (by rw [arbiter]; exact batch) (by rw [arbiter]; exact waiting), post_nil]
    rw [event free idle, settleLoop_nil]
  · have grants : pressureReady (clampedPress v) S = (S.grantsNext r rest s.arbiter.waiting).post [.grant r.unit] := by
      rw [ends now, nextCrank_batch (by rw [arbiter]; exact batch) cls, arbiter]
    intro granted
    have state : ∀ g, granted.inState r.unit g = s.inState r.unit g := fun g => by
      have same : granted.inState r.unit g = S.inState r.unit g := rfl
      rw [same, inState_same units]
    refine ⟨fun elsewhere => ?_, fun queued kept alone => ?_⟩
    · have left : handle (.grant r.unit) granted = granted := if_neg (by rw [state, elsewhere]; nofun)
      rw [event grants idle, settleLoop_cons left idle, settleLoop_nil]
    · have takes : TakesAlone granted (.unit r.unit) := takesAlone_same (s := s) orders settings units alone
      have cranks : handle (.grant r.unit) granted =
          (((crankingOf r.unit granted).submitsAlone (crankOrder r.unit granted)).modGenset r.unit fun g =>
            { g with outstanding := some .crank, owed := none }).post [.stopTest] :=
        takeGrant_cranks ((state _).trans queued) (sheet kept) takes
      have quiet : (((crankingOf r.unit granted).submitsAlone (crankOrder r.unit granted)).modGenset r.unit fun g =>
            { g with outstanding := some .crank, owed := none }).handovers = [] := submitsAlone_handovers.trans idle
      have tested := stopTest_cranks (s := granted) ((state _).trans queued)
      have done : (granted.cranksAlone r.unit).handovers = [] := quiet
      rw [event grants idle, settleLoop_handed cranks quiet, List.append_nil, settleLoop_cons (h := .stopTest) tested done, settleLoop_nil]

end Sys2Proof.Machine
end

section
/-!
SUPPORT. R143: a report of the feeder that the freshness barrier counts. Settles O11.
-/

namespace Sys2Proof.Machine

variable {s : State} {p : Port} {f : Frame} {t : Telegram} {i : Fin 64} {k : Fin 32} {v : Int}

/-! ## The measurement of a feeder (R8 to R10) -/

/-- R30: the reserve is a sum over the gensets, plants and stores alone. -/
theorem reserve_of_units {y : State} (hbank : y.bank = s.bank) (hu : y.units = s.units) :
    (computeSheet y).reserveDiffers (computeSheet s) = false := by
  unfold Sheet.reserveDiffers computeSheet
  simp only [hbank, hu, bne_self_eq_false, Bool.or_self]

/-- R29, R30: a feeder's measurement forms the sheet and leaves the reserve. -/
theorem recompute_feeder {g : FeederRec → FeederRec} (h : SheetKept s) : recompute (s.modFeeder k g) = formed (s.modFeeder k g) := by
  have kept : reserveHandovers (s.modFeeder k g) = [] := by
    have sheet : (s.modFeeder k g).sheet = computeSheet s := h
    rw [reserveHandovers, sheet, reserve_of_units (y := s) (s := s.modFeeder k g) rfl rfl]
    rfl
  rw [recompute_eq, kept, post_nil]

theorem acceptSample_feeder {r : SampleReport} (hs : SheetKept s) (hrole : (s.sources[i]).role = .feeder)
    (htarget : (s.sources[i]).target = k.val) (hfresh : (s.sources[i]).fresh = true) : acceptSample i r s =
      (formed ((s.modSource i timerFull).modFeeder k (writeFeeder r.items))).post [.feederReport k] := by
  have wrote : sampleWritten i r s = (s.modSource i timerFull).modFeeder k (writeFeeder r.items) := by
    have items : writeItems i r.items s = s.modFeeder k (writeFeeder r.items) := by
      simp only [writeItems, hrole, htarget, index?_val]
    have stays : ((s.modFeeder k (writeFeeder r.items)).sources[i]).fresh = true := hfresh
    rw [sampleWritten, items, makeFresh, if_pos stays]
    exact modSource_congr (s := s.modFeeder k (writeFeeder r.items)) rfl
  have entry : ((s.modSource i timerFull).modFeeder k (writeFeeder r.items)).sources[i] = timerFull s.sources[i] := modSource_entry
  have role : (((s.modSource i timerFull).modFeeder k (writeFeeder r.items)).sources[i]).role = .feeder := by rw [entry]; exact hrole
  have target : (((s.modSource i timerFull).modFeeder k (writeFeeder r.items)).sources[i]).target = k.val := by rw [entry]; exact htarget
  have chosen : sampleChosen i r s = (s.modSource i timerFull).modFeeder k (writeFeeder r.items) := by
    have before : entryFreq s i = none := by simp only [entryFreq, hrole]
    have after : entryFreq ((s.modSource i timerFull).modFeeder k (writeFeeder r.items)) i = none := by simp only [entryFreq, role]
    unfold sampleChosen
    simp only [wrote, before, after, hfresh]
    rfl
  have summed : recompute ((s.modSource i timerFull).modFeeder k (writeFeeder r.items)) =
      formed ((s.modSource i timerFull).modFeeder k (writeFeeder r.items)) := recompute_feeder (hs.modSource _ _)
  have apart : sampleFreq (formed ((s.modSource i timerFull).modFeeder k (writeFeeder r.items))) i r.items = none := by
    have same : (formed ((s.modSource i timerFull).modFeeder k (writeFeeder r.items))).sources[i] =
        ((s.modSource i timerFull).modFeeder k (writeFeeder r.items)).sources[i] := rfl
    simp only [sampleFreq, same, role]
    rfl
  have told : sampleHandovers (formed ((s.modSource i timerFull).modFeeder k (writeFeeder r.items))) i (s.sources[i]).fresh r.items =
      [.feederReport k] := by
    have same : (formed ((s.modSource i timerFull).modFeeder k (writeFeeder r.items))).sources[i] =
        ((s.modSource i timerFull).modFeeder k (writeFeeder r.items)).sources[i] := rfl
    simp only [sampleHandovers, same, role, target, index?_val]
    rfl
  rw [acceptSample_eq]
  simp only [hrole, chosen, recomputeFor, summed, apart, takeSample, told]

/-! ## The freshness barrier (R143) -/

/-- R143: the barrier after a report of a feeder. -/
def barrierAfter (k : Fin 32) (s : State) : Barrier :=
  match s.shed.barrier with
  | .counting g owner n =>
    if g = k ∧ (s.feeders[k]).used = true then
      if n = 0 then .counting k owner 1 else .stepping k owner (timeMs s.bank.stepInterval)
    else .counting g owner n
  | b => b

theorem barrierAfter_still (h : (s.feeders[k]).used = false ∨ ∀ owner n, s.shed.barrier ≠ .counting k owner n) :
    barrierAfter k s = s.shed.barrier := by
  unfold barrierAfter
  cases barrier : s.shed.barrier with
  | counting g owner n =>
    refine if_neg fun ⟨same, used⟩ => h.elim (fun unused => ?_) fun other => other owner n (same ▸ barrier)
    rw [used] at unused
    cases unused
  | _ => rfl

theorem barrierAfter_counts {owner : BarrierOwner} {n : Nat} (h : s.shed.barrier = .counting k owner n) (hu : (s.feeders[k]).used = true) :
    barrierAfter k s = if n = 0 then .counting k owner 1 else .stepping k owner (timeMs s.bank.stepInterval) := by
  unfold barrierAfter
  rw [h]
  exact if_pos ⟨rfl, hu⟩

theorem feederReport_eq (h : timeMs s.bank.stepInterval ≠ 0) :
    feederReport k s = { s with shed := { s.shed with barrier := barrierAfter k s } } := by
  have still : barrierAfter k s = s.shed.barrier → s = { s with shed := { s.shed with barrier := barrierAfter k s } } := fun same => by
    rw [same]
  unfold feederReport
  cases barrier : s.shed.barrier with
  | counting g owner n =>
    by_cases counted : g = k ∧ (s.feeders[k]).used = true
    · obtain ⟨rfl, used⟩ := counted
      rw [barrierAfter_counts barrier used]
      have counts : ¬ (decide (g ≠ g) || !(s.feeders[g]).used) = true := by rw [used]; simp
      simp only [if_neg counts, State.modShed, startStepInterval, if_neg h]
      by_cases first : n = 0
      · rw [if_pos first, if_pos first]
      · rw [if_neg first, if_neg first]
    · have other : (s.feeders[k]).used = false ∨ g ≠ k := by
        rw [← Bool.not_eq_true]
        tauto
      simp only [if_pos (show (decide (g ≠ k) || !(s.feeders[k]).used) = true by rcases other with unused | e <;> simp_all)]
      exact still (barrierAfter_still (other.imp_right fun e _ _ same => e (by rw [barrier] at same; cases same; rfl)))
  | _ => exact still (barrierAfter_still (.inr fun _ _ => by rw [barrier]; nofun))

/-- R5, R8 to R10, R29: the state with a feeder's measurement in its record and the sheet formed. -/
def feederTaken (i : Fin 64) (p : Port) (f : Frame) (t : Telegram) (k : Fin 32) (s : State) : State :=
  formed (((passedOn p f t s).modSource i (sequenced t s.partTime)).modFeeder k (writeFeeder (sampleItems t.body)))

theorem feederTaken_frame : (feederTaken i p f t k s).handovers = s.handovers ∧ (feederTaken i p f t k s).shed = s.shed ∧
    (feederTaken i p f t k s).bank = s.bank := by
  rw [feederTaken, passedOn_frame]
  exact ⟨rfl, rfl, rfl⟩

theorem feederTaken_used : ((feederTaken i p f t k s).feeders[k]).used = (s.feeders[k]).used := by
  have records : (feederTaken i p f t k s).feeders = modifyAt s.feeders k (writeFeeder (sampleItems t.body)) := by
    rw [feederTaken, passedOn_frame]
    rfl
  have record : (feederTaken i p f t k s).feeders[k] = writeFeeder (sampleItems t.body) s.feeders[k] := by
    rw [records, Fin.getElem_fin, modifyAt_get, if_pos rfl]
    rfl
  rw [record]
  rfl

/-- R143: the report, event by event. -/
theorem feeder_counts (h : Arrives s p f t) (hk : t.kind = kindSampleReport)
    (hi : findIndex s.sources (fun e => e.used && e.publisher = t.sender) = some i) (hfresh : (s.sources[i]).fresh = true)
    (hseq : newerOrFirst t.seq (s.sources[i]).lastSeq = true) (hvalid : read8 t.body 4 = 0) (hrole : (s.sources[i]).role = .feeder)
    (htarget : (s.sources[i]).target = k.val) (hs : SheetKept s) (hstep : timeMs s.bank.stepInterval ≠ 0) :
    ∃ t', exec (.sampleReport p f) s = .next t' ∧
      t' = { (passedOn p f t s).modSource i (sequenced t s.partTime) with feeders := t'.feeders, sheet := t'.sheet, shed := t'.shed } ∧
      ((s.feeders[k]).used = false ∨ (∀ owner n, s.shed.barrier ≠ .counting k owner n) → t'.shed = s.shed) ∧
      (∀ owner n, (s.feeders[k]).used = true → s.shed.barrier = .counting k owner n →
        (n = 0 → t'.shed = { s.shed with barrier := .counting k owner 1 }) ∧
        (n ≠ 0 → t'.shed = { s.shed with barrier := .stepping k owner (timeMs s.bank.stepInterval) })) := by
  have entry := admitted_entry (s := s) (i := i) (p := p) (f := f) (t := t)
  have taken : formed (((admitted i p f t s).modSource i timerFull).modFeeder k (writeFeeder (sampleItems t.body))) =
      feederTaken i p f t k s := by
    rw [feederTaken, admitted, modSource_modSource]
    refine congrArg (fun y => formed (State.modFeeder y k _)) (modSource_congr ?_)
    rw [passedOn_sources, timerFull, sequenced]
    simp only [hfresh]
  obtain ⟨handovers, shed, bank⟩ := feederTaken_frame (s := s) (i := i) (p := p) (f := f) (t := t) (k := k)
  have idle := handovers.trans h.1.2
  have used := feederTaken_used (s := s) (i := i) (p := p) (f := f) (t := t) (k := k)
  have counted := feederReport_eq (s := feederTaken i p f t k s) (k := k) (by rw [bank]; exact hstep)
  have after : barrierAfter k (feederTaken i p f t k s) = barrierAfter k s := by
    unfold barrierAfter
    rw [shed, used, bank]
  rw [after, shed] at counted
  refine ⟨{ feederTaken i p f t k s with shed := { s.shed with barrier := barrierAfter k s } }, ?_, ?_, fun still => ?_,
    fun owner n on barrier => ⟨fun first => ?_, fun later => ?_⟩⟩
  · rw [exec_accepted h hk hi (by rw [hrole]; nofun) (.inr hseq) hvalid, acceptSample_feeder (admitted_sheetKept hs)
      (by rw [entry]; exact hrole) (by rw [entry]; exact htarget) (by rw [entry]; exact hfresh)]
    exact congrArg _ ((congrArg (fun y : State => settle (y.post [.feederReport k])) taken).trans (settle_post_one idle counted idle))
  · rfl
  · rw [barrierAfter_still still]
  · rw [barrierAfter_counts barrier on, if_pos first]
  · rw [barrierAfter_counts barrier on, if_neg later]

/-! ## Settled -/

/-- Settles O11: what the report writes, record by record; the frequency sample through Shedding's own work; the PRESS and the feeder's
report through the one hand-over of each. -/
theorem acceptedSampleWritesItsRecord : Obligations.AcceptedSampleWritesItsRecord :=
  ⟨fun _ _ _ _ _ h hk hi hrole hseq hvalid => accepted_writes h hk hi hrole hseq hvalid,
    fun _ _ _ _ _ _ h hnew => sample_sheds h hnew,
    fun _ _ _ _ _ h hk hi hfresh hseq hvalid =>
      ⟨fun _ hrole hp => press_ends_holdOff h hk hi hfresh hseq hvalid hrole hp,
        fun _ hrole htarget hs hstep => feeder_counts h hk hi hfresh hseq hvalid hrole htarget hs hstep⟩⟩

end Sys2Proof.Machine
end

section
/-!
SUPPORT. The thresholds of a written bank (R45). Settles O17.
-/

namespace Sys2Proof.Machine

theorem descending_iff_pairwise (l : List Nat) : descending l = true ↔ l.Pairwise fun x y => y < x := by
  induction l with
  | nil => simp [descending]
  | cons x rest ih => simp [descending, ih]

theorem pairwise_toList {α : Type} {n : Nat} {R : α → α → Prop} (v : Vector α n) :
    v.toList.Pairwise R ↔ ∀ i j : Fin n, i < j → R v[i] v[j] := by
  simp only [List.pairwise_iff_getElem, Vector.getElem_toList, Vector.length_toList]
  exact ⟨fun h i j hij => h i.val j.val i.isLt j.isLt hij, fun h i j hi hj hij => h ⟨i, hi⟩ ⟨j, hj⟩ hij⟩

/-- R45: of the enabled stages each lies strictly below every one of lower number. -/
theorem descending_iff (b : Bank) : descending (b.threshold.toList.filter fun x => x ≠ 0) = true ↔
    ∀ i j : Fin 8, i < j → b.threshold[i] ≠ 0 → b.threshold[j] ≠ 0 → b.threshold[j] < b.threshold[i] := by
  rw [descending_iff_pairwise, List.pairwise_filter, pairwise_toList]
  simp only [decide_eq_true_eq]

theorem descending_of_valid {b : Bank} (h : b.valid = true) : descending (b.threshold.toList.filter fun x => x ≠ 0) = true := by
  simp only [Bank.valid, Bool.and_eq_true] at h
  tauto

/-- R44: a bank out of its ranges is not taken. -/
theorem writeBankEntry_invalid {s : State} {k : Fin 4} {o : Octets} {manager : StationId} (hk : k ≠ s.activeBank)
    (h : (bankFrom o).valid = false) : writeBankEntry k.val o manager s = (s, .badContent) := by
  simp [writeBankEntry, index?_val, taken, firstFailure, hk, h]

/-- Settles O17: the recursive test is the pairwise order of the enabled thresholds, and a bank that fails it is not valid. -/
theorem stageThresholdsDescend : Obligations.StageThresholdsDescend := by
  refine ⟨descending_iff, fun s k o manager i j hk hij hi hj hle => writeBankEntry_invalid hk ?_⟩
  rw [Bool.eq_false_iff]
  intro valid
  have below := (descending_iff _).mp (descending_of_valid valid) i j hij hi hj
  omega

end Sys2Proof.Machine
end

section
/-!
SUPPORT. A bank switch (R47, R48, R50): the timers of the jobs that run start again with the new bank's durations. Settles O18.
-/

namespace Sys2Proof.Machine

variable {s s1 : State} {p : Port} {f : Frame} {t : Telegram} {b : Fin 4}

/-! ## Timers that start again (R50) -/

/-- R50: a stage timer after a switch to this bank. -/
def stageRestarted (bank : Bank) (i : Fin 8) (x : Timer) : Timer :=
  if bank.threshold[i] = 0 then none else x.map fun _ => timeMs bank.delay[i]

/-- R50: the freshness barrier after a switch to this bank. -/
def barrierRestarted (bank : Bank) : Barrier → Barrier
  | .stepping k owner _ => .stepping k owner (timeMs bank.stepInterval)
  | other => other

/-- R50: Shedding after a switch to this bank. -/
def shedRestarted (bank : Bank) (x : Shedding) : Shedding :=
  { x with
    stageTimers := stageTable (List.finRange 8) (fun i => stageRestarted bank i x.stageTimers[i]) x.stageTimers
    restoreDelay := x.restoreDelay.map fun _ => timeMs bank.restoreDelay
    barrier := barrierRestarted bank x.barrier }

/-- R50: the jobs after a switch to the bank that is now active. -/
def jobsRestarted (s : State) : State :=
  { s with
    dispatch := { s.dispatch with
      timer := timeOrSecond s.bank.dispatchInterval
      stopTimer := s.dispatch.stopTimer.map fun x => { x with left := timeMs s.bank.stopDelay } }
    curtailTimer := timeOrSecond s.bank.curtailInterval
    shed := shedRestarted s.bank s.shed
    seq := { s.seq with deadBusTimer := s.seq.deadBusTimer.map fun _ => timeMs s.bank.deadBusTime } }

/-- R50: no timer of the jobs that runs has a duration of 0 under this bank, so none ends within the switch. -/
structure RestartsRun (bank : Bank) (s : State) : Prop where
  stages : ∀ i : Fin 8, s.shed.stageTimers[i] = none ∨ bank.threshold[i] = 0 ∨ timeMs bank.delay[i] ≠ 0
  restoreDelay : s.shed.restoreDelay = none ∨ timeMs bank.restoreDelay ≠ 0
  stepInterval : s.shed.barrier = .idle ∨ timeMs bank.stepInterval ≠ 0
  stopTimer : s.dispatch.stopTimer = none ∨ timeMs bank.stopDelay ≠ 0
  deadBusTimer : s.seq.deadBusTimer = none ∨ timeMs bank.deadBusTime ≠ 0

/-! ## The blocks (R50) -/

theorem restartStage_eq {bank : Bank} {i : Fin 8}
    (h : s.shed.stageTimers[i] = none ∨ bank.threshold[i] = 0 ∨ timeMs bank.delay[i] ≠ 0) :
    restartStage bank i s = s.setStageTimer i (stageRestarted bank i s.shed.stageTimers[i]) := by
  unfold restartStage stageRestarted
  cases timer : s.shed.stageTimers[i] with
  | none =>
    simp only [Option.map_none, ite_self]
    rw [← timer, setStageTimer_same]
  | some ms =>
    simp only [Option.map_some]
    split_ifs with off zero
    · rfl
    · exact absurd zero ((h.resolve_left (by rw [timer]; nofun)).resolve_left off)
    · rfl

/-- R50: the stage timers of these stages start again, each on its own. -/
theorem restartStages_eq {bank : Bank} {l : List (Fin 8)} (hl : l.Nodup)
    (h : ∀ i ∈ l, s.shed.stageTimers[i] = none ∨ bank.threshold[i] = 0 ∨ timeMs bank.delay[i] ≠ 0) :
    l.foldl (fun t i => restartStage bank i t) s = s.modShed fun x =>
      { x with stageTimers := stageTable l (fun i => stageRestarted bank i x.stageTimers[i]) x.stageTimers } := by
  induction l generalizing s with
  | nil =>
    have same : stageTable [] (fun i => stageRestarted bank i s.shed.stageTimers[i]) s.shed.stageTimers = s.shed.stageTimers :=
      table_ext fun m => by rw [stageTable_get, if_neg List.not_mem_nil]
    simp only [List.foldl_nil, State.modShed, same]
  | cons k l ih =>
    obtain ⟨fresh, rest⟩ := List.nodup_cons.mp hl
    let x := stageRestarted bank k s.shed.stageTimers[k]
    have moved : ∀ m : Fin 8, (s.setStageTimer k x).shed.stageTimers[m] = if m = k then x else s.shed.stageTimers[m] := fun m => by
      simp only [State.setStageTimer, State.modShed, Fin.getElem_fin, Vector.getElem_set, Fin.val_inj, eq_comm]
    have apart : ∀ m ∈ l, (s.setStageTimer k x).shed.stageTimers[m] = s.shed.stageTimers[m] := fun m hm => by
      rw [moved]
      exact if_neg fun e : m = k => fresh (e ▸ hm)
    have table : stageTable l (fun i => stageRestarted bank i (s.setStageTimer k x).shed.stageTimers[i])
        (s.setStageTimer k x).shed.stageTimers =
        stageTable (k :: l) (fun i => stageRestarted bank i s.shed.stageTimers[i]) s.shed.stageTimers := table_ext fun m => by
      rw [stageTable_get, stageTable_get]
      by_cases hm : m ∈ l
      · rw [if_pos hm, if_pos (List.mem_cons_of_mem k hm), apart m hm]
      · rw [if_neg hm, moved]
        refine ite_congr (by rw [List.mem_cons, or_iff_left hm]) (fun e => ?_) fun _ => rfl
        rw [(List.mem_cons.mp e).resolve_right hm]
    rw [List.foldl_cons, restartStage_eq (h k (List.mem_cons_self ..)),
      ih rest fun m hm => by rw [apart m hm]; exact h m (List.mem_cons_of_mem k hm)]
    exact congrArg (fun v : Vector Timer 8 => s.modShed fun y => { y with stageTimers := v }) table

theorem restartRestoreDelay_eq {bank : Bank} (h : s.shed.restoreDelay = none ∨ timeMs bank.restoreDelay ≠ 0) :
    restartRestoreDelay bank s =
      s.modShed fun x => { x with restoreDelay := x.restoreDelay.map fun _ => timeMs bank.restoreDelay } := by
  unfold restartRestoreDelay
  cases timer : s.shed.restoreDelay with
  | none =>
    simp only [State.modShed, timer, Option.map_none]
    rw [← timer]
  | some ms =>
    have runs : timeMs bank.restoreDelay ≠ 0 := by simpa [timer] using h
    simp only [if_neg runs, State.modShed, timer, Option.map_some]

theorem shedBankSwitch_eq (h : RestartsRun s.bank s) : shedBankSwitch s = { s with shed := shedRestarted s.bank s.shed } := by
  unfold shedBankSwitch
  simp only
  rw [restartStages_eq (List.nodup_finRange 8) fun i _ => h.stages i, restartRestoreDelay_eq (by exact h.restoreDelay)]
  simp only [State.modShed, shedRestarted]
  cases barrier : s.shed.barrier with
  | stepping k owner left =>
    have runs : timeMs s.bank.stepInterval ≠ 0 := by simpa [barrier] using h.stepInterval
    simp only [startStepInterval, if_neg runs, State.modShed, barrierRestarted]
  | _ => simp only [barrierRestarted]

theorem dispatchBankSwitch_eq (h : s.dispatch.stopTimer = none ∨ timeMs s.bank.stopDelay ≠ 0) : dispatchBankSwitch s =
    { s with dispatch := { s.dispatch with
        timer := timeOrSecond s.bank.dispatchInterval
        stopTimer := s.dispatch.stopTimer.map fun x => { x with left := timeMs s.bank.stopDelay } } } := by
  unfold dispatchBankSwitch
  cases timer : s.dispatch.stopTimer with
  | none => simp only [timer, dispatchInterval, Option.map_none]
  | some x =>
    have runs : timeMs s.bank.stopDelay ≠ 0 := by simpa [timer] using h
    simp only [timer]
    exact if_neg runs

theorem deadBusBankSwitch_eq (h : s.seq.deadBusTimer = none ∨ timeMs s.bank.deadBusTime ≠ 0) : deadBusBankSwitch s =
    { s with seq := { s.seq with deadBusTimer := s.seq.deadBusTimer.map fun _ => timeMs s.bank.deadBusTime } } := by
  unfold deadBusBankSwitch
  cases timer : s.seq.deadBusTimer with
  | none =>
    simp only [Option.map_none]
    rw [← timer]
  | some x =>
    have runs : timeMs s.bank.deadBusTime ≠ 0 := by simpa [timer] using h
    exact if_neg runs

/-- R50: a bank switch with no order waiting recomputes the sheet, and every timer that runs starts again. -/
theorem bankSwitched_eq (hq : s.orders.queue = []) (h : RestartsRun s.bank s) :
    bankSwitched s = (jobsRestarted (formed s)).post (reserveHandovers s) := by
  unfold bankSwitched
  rw [recompute_eq, shedBankSwitch_eq (s := (formed s).post (reserveHandovers s)) ⟨h.1, h.2, h.3, h.4, h.5⟩,
    dispatchBankSwitch_eq (by exact h.stopTimer), deadBusBankSwitch_eq (by exact h.deadBusTimer), sendTest_empty (by exact hq)]
  rfl

/-! ## SELECT_BANK (R47, R48) -/

/-- The state with the request's sequence recorded differs in the Manager List and the open record alone. -/
theorem requested_eq {k : RequestKind} (h : Requested s p f t k s1) :
    ∃ m r, s1 = { s with managers := m, openRecord := r } := by
  obtain ⟨-, -, -, admits, -⟩ := h
  exact ⟨s1.managers, s1.openRecord, admitRequest_frame admits⟩

/-- R47: the other bank is active and the switch is logged; the blocks have not taken it. -/
def bankSelected (b : Fin 4) (s : State) : State :=
  { s with activeBank := b }.log .bankSwitch (bankSubject b) s.activeBank.val SwitchCause.request.detail

theorem selectBank_other (hb : b ≠ s.activeBank) : selectBank b .request s = bankSwitched (bankSelected b s) := if_neg hb

/-- R48: an index above 3 is refused. -/
theorem exec_selectBank_beyond (h : Requested s p f t .selectBank s1) (hi : 3 < (requestOf t).index) :
    exec (.selectBank p f) s = .next (answered t .badIndex [] s1) := by
  have none : index? 4 (requestOf t).index = none := dif_neg (by omega)
  rw [exec_arrival (p := p) (f := f) rfl]
  exact run_request_plain h (by simp only [serveBy, serveSelectBank, none]; rfl) rfl

/-- R48: the selection of a bank is answered OK once its effects have settled. -/
theorem exec_selectBank (h : Requested s p f t .selectBank s1) (hi : (requestOf t).index = b.val) {s2 : State}
    (hs : settle (selectBank b .request s1) = s2) : exec (.selectBank p f) s = .next (answered t .ok [] s2) := by
  rw [exec_arrival (p := p) (f := f) rfl]
  exact run_request_next (a := accept (selectBank b .request s1)) h
    (by simp only [serveBy, serveSelectBank, hi, index?_val]) rfl hs

/-- R30: a reserve that the switch leaves as it was hands nothing on. -/
theorem reserveHandovers_same (h : (computeSheet s).res = s.sheet.res ∧ (computeSheet s).req = s.sheet.req ∧
    (computeSheet s).margin = s.sheet.margin ∧ (computeSheet s).exp = s.sheet.exp) : reserveHandovers s = [] :=
  if_neg fun differs => reserveDiffers_iff.mp differs h

/-- R50: Dispatch and Curtailment start their evaluation timers with the intervals of the active bank. -/
def evaluationsStarted (s : State) : State :=
  { s with
    dispatch := { s.dispatch with timer := timeOrSecond s.bank.dispatchInterval }
    curtailTimer := timeOrSecond s.bank.curtailInterval }

/-- R50: at rest no other timer of the jobs starts again. -/
theorem jobsRestarted_atRest (h : AtRest s) : jobsRestarted s = evaluationsStarted s := by
  obtain ⟨-, -, -, barrier, delay, stages, stop, -, dead, -⟩ := h
  have table : stageTable (List.finRange 8) (fun i => stageRestarted s.bank i s.shed.stageTimers[i]) s.shed.stageTimers =
      s.shed.stageTimers := table_ext fun m => by
    rw [stageTable_get, if_pos (List.mem_finRange m), stages m, stageRestarted, Option.map_none, ite_self]
  have shed : shedRestarted s.bank s.shed = s.shed := by
    have idle : barrierRestarted s.bank s.shed.barrier = s.shed.barrier := by rw [barrier]; rfl
    rw [shedRestarted, table, idle, delay, Option.map_none, ← delay]
  simp only [jobsRestarted, evaluationsStarted, shed, stop, dead, Option.map_none]
  rw [← stop, ← dead]

theorem restartsRun_atRest {bank : Bank} (h : AtRest s) : RestartsRun bank s := by
  obtain ⟨-, -, -, barrier, delay, stages, stop, -, dead, -⟩ := h
  exact ⟨fun i => .inl (stages i), .inl delay, .inl barrier, .inl stop, .inl dead⟩

/-- R97, R140: at rest neither test that a changed reserve hands on finds anything to do. -/
theorem reserveTests_atRest (h : AtRest s) {x : Handover} (hx : x = .stopTest ∨ x = .restoreTest) : handle x s = s := by
  obtain ⟨-, -, stack, -, -, -, stop, wait, -, -, offline⟩ := h
  rcases hx with rfl | rfl
  · exact stopTest_idle (stopWanted_none_of_offline offline) stop
  · exact restoreTest_empty stack wait

/-- Hand-overs that find nothing to do leave the event's own state. -/
theorem settle_post_still {l : List Handover} (hq : s.handovers = []) (hn : l.length ≤ 8) (hl : ∀ x ∈ l, handle x s = s) :
    settle (s.post l) = s := by
  have enough : 2 ^ 64 - 8 + 8 = 2 ^ 64 - l.length + l.length := by omega
  have taken := settleLoop_still (rest := []) hq hl (2 ^ 64 - l.length)
  rw [List.append_nil, settleLoop_nil] at taken
  rw [settle_post hq, enough, taken]

/-- R47, R50: a switch at rest makes the bank active, forms the sheet and starts the evaluation timers. -/
theorem settle_bankSwitched_atRest (hq : s.handovers = []) (h : AtRest s) : settle (bankSwitched s) = evaluationsStarted (formed s) := by
  rw [bankSwitched_eq h.1 (restartsRun_atRest h), jobsRestarted_atRest (s := formed s) h]
  exact settle_post_still hq (reserveHandovers_length.trans (by decide)) fun x hx =>
    reserveTests_atRest (s := evaluationsStarted (formed s)) h (reserveHandovers_mem hx)

/-- R47, R50: a switch that leaves the reserve as it was, with no order waiting and no timer that ends at once. -/
theorem settle_bankSwitched (hq : s.handovers = []) (hw : s.orders.queue = []) (h : RestartsRun s.bank s)
    (hr : (computeSheet s).res = s.sheet.res ∧ (computeSheet s).req = s.sheet.req ∧
      (computeSheet s).margin = s.sheet.margin ∧ (computeSheet s).exp = s.sheet.exp) :
    settle (bankSwitched s) = jobsRestarted (formed s) := by
  rw [bankSwitched_eq hw h, reserveHandovers_same hr, post_nil, settle_nil]
  exact hq

theorem shedRestarted_stageTimer {bank : Bank} {x : Shedding} (i : Fin 8) : (shedRestarted bank x).stageTimers[i] =
    if bank.threshold[i] = 0 then none else x.stageTimers[i].map fun _ => timeMs bank.delay[i] := by
  simp only [shedRestarted, stageTable_get, List.mem_finRange, if_true, stageRestarted]

/-- Settles O18: the blocks take the switch one after the other, each starting its running timers again; at rest the tests that a
changed reserve hands on find nothing to do. -/
theorem selectBankSwitches : Obligations.SelectBankSwitches := by
  intro s p f t s1 h
  refine ⟨exec_selectBank_beyond h, fun b hi => ⟨?active, ?rest, ?running⟩⟩
  all_goals
    have quiet : s1.handovers = [] := requested_handovers h
    have answers := fun s2 => exec_selectBank (s2 := s2) h hi
    obtain ⟨m, r, rfl⟩ := requested_eq h
  case active =>
    rintro rfl
    exact answers _ ((congrArg settle (if_pos rfl)).trans (settle_nil quiet))
  case rest =>
    intro other rest
    refine answers _ ?_
    rw [selectBank_other (by exact other)]
    exact settle_bankSwitched_atRest (s := bankSelected b _) quiet rest
  case running =>
    intro other waiting bank sheet again reserve stages delay stop dead step
    let switched := jobsRestarted (formed (bankSelected b { s with managers := m, openRecord := r }))
    refine ⟨switched, answers _ ?_, ?_, ?_⟩
    · rw [selectBank_other (by exact other)]
      exact settle_bankSwitched (s := bankSelected b _) quiet waiting ⟨stages, delay, .inr step, stop, dead⟩ reserve
    · have barrier : barrierRestarted bank s.shed.barrier = match s.shed.barrier with
          | .stepping k owner _ => .stepping k owner (timeMs bank.stepInterval)
          | other => other := by cases s.shed.barrier <;> rfl
      exact congrArg (fun x : Barrier => switched.modShed fun y => { y with barrier := x }) barrier
    · exact shedRestarted_stageTimer

end Sys2Proof.Machine
end

section
/-!
SUPPORT. WRITE_ENTRY of the tables that are no records (R54, R125, R148, R183, R184, R186): the checks each write passes and what a taken
one leaves.
-/

namespace Sys2Proof.Machine

variable {s s1 : State} {p : Port} {f : Frame} {t : Telegram} {o : Octets} {b : StationId}

theorem any_toList {α : Type} {n : Nat} (v : Vector α n) (q : α → Bool) :
    v.toList.any q = true ↔ ∃ i : Fin n, q v[i] = true := by
  simp [toList_eq_finRange]

/-! ## How a write is answered (R185, R186) -/

theorem tableOf_code (table : TableId) : ofCodeFromOne tableIdsFromOne table.code = some table := by cases table <;> rfl

/-- R186: content of the wrong length is refused. -/
theorem exec_write_badLength {c : Instr} {table : TableId} (h : Requested s p f t .writeEntry s1) (hc : c.arrival = some (p, f))
    (ht : (requestOf t).table = table.code) (hl : (requestOf t).content.length ≠ entryLength table) :
    exec c s = .next (answered t .badContent [] s1) := by
  rw [exec_arrival hc]
  refine run_request_plain h ?_ rfl
  simp only [serveBy, serveWriteEntry, ht, tableOf_code, if_pos hl]
  rfl

/-- R186: a write that passes and hands nothing on is answered OK. -/
theorem exec_write {c : Instr} {table : TableId} {x : State} (h : Requested s p f t .writeEntry s1) (hc : c.arrival = some (p, f))
    (ht : (requestOf t).table = table.code) (hsettings : table ≠ .settings)
    (hl : (requestOf t).content.length = entryLength table)
    (hw : writeEntry table (requestOf t).index (requestOf t).content (requestOf t).sender s1 = (x, .ok))
    (hx : x.handovers = s1.handovers) : exec c s = .next (answered t .ok [] x) := by
  rw [exec_arrival hc, run_write h (by rw [ht]; exact tableOf_code table) hsettings hl hw,
    settle_nil (hx.trans (requested_handovers h))]

/-! ## PROFILE, SHED, PROGRAM and BANK (R44, R54, R125, R148) -/

theorem writeProfileEntry_ok {k : Fin 16} (ho : 1 ≤ read8 o 4 ∧ read8 o 4 ≤ 6 ∧ read8 o 6 < 4)
    (hfree : ∀ x ∈ s.orders.tracker, x.order.profile ≠ k) : writeProfileEntry k.val o b s =
      (logWrite .profile k.val b { s with profiles := s.profiles.set k (profileFrom o) }, .ok) := by
  simp only [writeProfileEntry, index?_val]
  refine taken_ok ((firstFailure_cons (by decide)).mpr ⟨?_, (firstFailure_cons (by decide)).mpr ⟨?_, rfl⟩⟩)
  · simpa [and_assoc] using ho
  · simpa using hfree

theorem writeShedEntry_ok {k : Fin 32}
    (ho : read8 o 0 = 0xFF ∨ (read8 o 0 < 32 ∧ 1 ≤ read8 o 1 ∧ read8 o 1 ≤ 8 ∧ read8 o 3 < 3 ∧
      ∀ j : Fin 32, j ≠ k → (s.shed.table[j]).feeder ≠ some (Fin.ofNat 32 (read8 o 0))))
    (hidle : ∀ i : Fin 8, s.shed.stageTimers[i] = none) (hsent : shedTripSent s = false) : writeShedEntry k.val o b s =
      (logWrite .shed k.val b (s.modShed fun x => { x with table := x.table.set k (shedFrom o), progress := none }), .ok) := by
  simp only [writeShedEntry, index?_val]
  refine taken_ok ((firstFailure_cons (by decide)).mpr ⟨?range, (firstFailure_cons (by decide)).mpr ⟨?single,
    (firstFailure_cons (by decide)).mpr ⟨?free, rfl⟩⟩⟩)
  case range =>
    rcases ho with clears | ⟨feeder, low, high, condition, -⟩
    · simp [clears]
    · simp [feeder, low, high, condition]
  case single =>
    by_cases clears : read8 o 0 = 0xFF
    · simp [clears]
    · obtain ⟨-, -, -, -, others⟩ := ho.resolve_left clears
      simpa [clears, shedFrom] using fun j hj _ => others j hj
  case free =>
    have idle : s.shed.stageTimers.toList.any Option.isSome = false := by
      rw [Bool.eq_false_iff, ne_eq, any_toList]
      rintro ⟨i, running⟩
      rw [hidle i] at running
      cases running
    simp [idle, hsent]

theorem writeProgramEntry_ok {k : Fin 48} {kind : StepKind} {onFail : OnFail} (hk : ofCode stepKindsByCode (read8 o 0) = some kind)
    (hf : ofCode onFailsByCode (read8 o 1) = some onFail) (ho : operandOk kind (read16 o 2) = true) (hr : s.inRun = false) :
    writeProgramEntry k.val o b s = (logWrite .program k.val b (s.modSeq fun q =>
      { q with program := q.program.set k ⟨kind, read16 o 2, octet o 4, onFail⟩ }), .ok) := by
  simp only [writeProgramEntry, index?_val, hk, hf]
  exact taken_ok (by simp [firstFailure, ho, hr])

theorem writeBankEntry_ok {k : Fin 4} (hk : k ≠ s.activeBank) (ho : (bankFrom o).valid = true) : writeBankEntry k.val o b s =
    (logWrite .bank k.val b { s with banks := s.banks.set k (bankFrom o) }, .ok) := by
  simp only [writeBankEntry, index?_val]
  exact taken_ok (by simp [firstFailure, hk, ho])

/-! ## MANAGERS (R184) -/

/-- R184: admission leaves the station IDs of the Manager List. -/
theorem admitRequest_ids {r : Request} (h : admitRequest r s = some s1) (j : Fin 4) : (s1.managers[j]).id = (s.managers[j]).id := by
  unfold admitRequest at h
  split_ifs at h
  · cases h
    rfl
  · split at h
    · cases h
    · split_ifs at h
      cases h
      simp only [Fin.getElem_fin, modifyAt_get]
      split <;> rfl

/-- R184: what a taken MANAGERS write leaves: the open record is unused once the list has a used entry. -/
theorem replaceManager_eq (k : Fin 4) (id by_ : StationId) (s : State) : replaceManager k id by_ s =
    logWrite .managers k.val by_ { s with
      managers := s.managers.set k { id := id }
      openRecord := if ∃ j : Fin 4, ((s.managers.set k { id := id })[j]).id ≠ 0 then none else s.openRecord } := by
  have used : (s.managers.set k { id := id }).toList.any (fun m => decide (m.id ≠ 0)) = true ↔
      ∃ j : Fin 4, ((s.managers.set k { id := id })[j]).id ≠ 0 := by
    rw [any_toList]
    simp only [decide_eq_true_eq]
  unfold replaceManager
  simp only [logWrite, log_managers, used]
  split_ifs <;> rfl

theorem writeManagersEntry_ok {k : Fin 4} {id : StationId} (hid : id = BitVec.ofNat 16 (read16 o 0)) (hu : id ≠ 0xFFFF)
    (hs : id = 0 ∨ ∀ j : Fin 4, j ≠ k → (s.managers[j]).id ≠ id) :
    writeManagersEntry k.val o b s = (replaceManager k id b s, .ok) := by
  simp only [writeManagersEntry, index?_val, ← hid]
  refine taken_ok ((firstFailure_cons (by decide)).mpr ⟨by simpa using hu, (firstFailure_cons (by decide)).mpr ⟨?_, rfl⟩⟩)
  simpa using hs

end Sys2Proof.Machine
end

section
/-!
SUPPORT. WRITE_ENTRY of Station Settings (R60, R176, R183, R190), and the identity that takes effect after the response (R180). Settles O44.
-/

namespace Sys2Proof.Machine

variable {s s1 : State} {p : Port} {f : Frame} {t : Telegram} {o : Octets} {b : StationId} {x : Settings}

/-! ## The level flags tested again (R60, R176) -/

/-- R60: what a test of QUEUE_HIGH sets, and what it logs when the flag becomes set. -/
theorem testQueueHigh_eq (s : State) : testQueueHigh s = { s with
    orders := { s.orders with queueHigh := queueHighAt s.settings.queueOffset s.orders.queue.length }
    record := s.recordWith (if queueHighAt s.settings.queueOffset s.orders.queue.length = true ∧ s.orders.queueHigh = false
      then [(.queueHigh, none, (s.orders.queue.length : Int), 0)] else []) } := by
  unfold testQueueHigh
  simp only [Bool.and_eq_true, Bool.not_eq_true']
  split_ifs <;> rfl

/-- R176: a test of RECORD_HIGH where the flag already stands at the unread count. -/
theorem testRecordHigh_same (h : s.record.recordHigh = recordHighAt s.settings.eventOffset s.record.unread) :
    s.testRecordHigh = s := by
  simp only [State.testRecordHigh, ← h]

/-- R171, R176: every entry that is logged tests RECORD_HIGH. -/
theorem recordWith_recordHigh {l : List Logged} (h : l ≠ []) :
    (s.recordWith l).recordHigh = recordHighAt s.settings.eventOffset (s.recordWith l).unread := by
  obtain ⟨earlier, last, rfl⟩ := (List.eq_nil_or_concat l).resolve_left h
  rw [State.recordWith, List.concat_eq_append, List.foldl_append]
  rfl

/-! ## A taken SETTINGS write (R183) -/

/-- R183: the new settings but for the identity, QUEUE_HIGH and the beacon timer as the changed fields have them. -/
def settingsHandedOn (x : Settings) (s : State) : State :=
  { s with
    settings := { x with ownId := s.settings.ownId, etherType := s.settings.etherType }
    orders := if x.queueOffset = s.settings.queueOffset then s.orders
      else { s.orders with queueHigh := decide (32 - x.queueOffset ≤ s.orders.queue.length) }
    beaconTimer := if x.beacon = s.settings.beacon then s.beaconTimer else timeOrSecond x.beacon }

/-- R60, R183: what a taken SETTINGS write of this sender logs. -/
def settingsEvents (x : Settings) (b : StationId) (s : State) : List Logged :=
  (.tableWrite, some ⟨.settings, 0⟩, (b.toNat : Int), 0) ::
    if x.queueOffset ≠ s.settings.queueOffset ∧ decide (32 - x.queueOffset ≤ s.orders.queue.length) = true ∧
      s.orders.queueHigh = false
    then [(.queueHigh, none, (s.orders.queue.length : Int), 0)] else []

/-- R60, R176, R183, R190: RECORD_HIGH, tested by every entry that is logged, needs no test of its own. -/
theorem replaceSettings_eq (x : Settings) (b : StationId) (s : State) : replaceSettings x b s =
    { settingsHandedOn x s with record := (settingsHandedOn x s).recordWith (settingsEvents x b s) } := by
  let kept : Settings := { x with ownId := s.settings.ownId, etherType := s.settings.etherType }
  let logged := logWrite .settings 0 b { s with settings := kept }
  let queued : State := { s with
    settings := kept, orders := (settingsHandedOn x s).orders
    record := (settingsHandedOn x s).recordWith (settingsEvents x b s) }
  have queue : (if x.queueOffset ≠ s.settings.queueOffset then testQueueHigh logged else logged) = queued := by
    by_cases same : x.queueOffset = s.settings.queueOffset
    · rw [if_neg (not_not.mpr same)]
      simp only [queued, settingsHandedOn, settingsEvents, same, if_true, ne_eq, not_true_eq_false, false_and, if_false]
      rfl
    · rw [if_pos same, testQueueHigh_eq]
      simp only [queued, settingsHandedOn, settingsEvents, ne_eq, same, not_false_eq_true, true_and]
      rfl
  have events : (if x.eventOffset ≠ s.settings.eventOffset then queued.testRecordHigh else queued) = queued := by
    rw [testRecordHigh_same (recordWith_recordHigh (s := settingsHandedOn x s) (List.cons_ne_nil _ _)), ite_self]
  unfold replaceSettings
  simp only
  rw [queue, events]
  rw [ite_not]
  split_ifs with same
  · exact congrArg (fun n : Nat => { queued with beaconTimer := n }) (if_pos same).symm
  · exact congrArg (fun n : Nat => { queued with beaconTimer := n }) (if_neg same).symm

theorem writeSettingsEntry_ok (hx : settingsFrom o = x) (hv : x.valid = true) :
    writeSettingsEntry 0 o b s = (replaceSettings x b s, .ok) := by
  rw [writeSettingsEntry, if_neg (not_not.mpr rfl), hx]
  exact taken_ok ((firstFailure_cons (by decide)).mpr ⟨hv, rfl⟩)

/-- R180: the identity in force from now on, and the one it retires. -/
theorem changeIdentity_eq (id : StationId) (type : BitVec 16) (s : State) : changeIdentity id type s = { s with
    settings := { s.settings with ownId := id, etherType := type }
    retired := if ({ s with settings := { s.settings with ownId := id, etherType := type } } : State).ownId = s.ownId ∧
        type = s.settings.etherType then s.retired else some ⟨s.ownId, s.settings.etherType, 1000⟩ } := by
  unfold changeIdentity
  simp only
  split_ifs <;> rfl

/-- R183, R185: a SETTINGS write that passes is answered OK, and its identity takes effect after the response. -/
theorem exec_writeSettings (h : Requested s p f t .writeEntry s1) (ht : (requestOf t).table = 8)
    (hl : (requestOf t).content.length = 16) (hi : (requestOf t).index = 0) (hx : settingsFrom (requestOf t).content = x)
    (hv : x.valid = true) : exec (.writeEntrySettings p f) s =
      .next (changeIdentity x.ownId x.etherType (answered t .ok [] (replaceSettings x (requestOf t).sender s1))) := by
  have wrote : writeEntry .settings (requestOf t).index (requestOf t).content (requestOf t).sender s1 =
      (replaceSettings x (requestOf t).sender s1, .ok) := by
    rw [hi]
    exact writeSettingsEntry_ok hx hv
  have served : serveBy .writeEntry (requestOf t) s1 =
      { state := replaceSettings x (requestOf t).sender s1, status := .ok, after := .identity x.ownId x.etherType } := by
    have table : ofCodeFromOne tableIdsFromOne (requestOf t).table = some .settings := by rw [ht]; rfl
    have length : ¬ (requestOf t).content.length ≠ entryLength .settings := by rw [hl]; decide
    rw [serveBy, serveWriteEntry, table]
    simp only [if_neg length, wrote, afterWrite, hx]
    rfl
  have quiet : (replaceSettings x (requestOf t).sender s1).handovers = [] := by
    rw [replaceSettings_eq]
    exact (requested_handovers h : s1.handovers = [])
  rw [exec_arrival (p := p) (f := f) rfl, run_request h, served]
  simp only [takeAfter]
  rw [settle_nil quiet, settle_nil]
  rw [changeIdentity_eq]
  exact quiet

/-- Settles O44: each write passes its table's checks in their order, and what it leaves hands nothing on. -/
theorem configurationWritesReplaceTheEntry : Obligations.ConfigurationWritesReplaceTheEntry := by
  intro s p f t s1 h
  refine ⟨fun c table hc ht hl => exec_write_badLength h hc ht hl, ?profile, ?shed, ?program, ?bank, ?settings, ?managers⟩
  all_goals
    obtain ⟨-, -, -, admits, -⟩ := id h
    have ids := admitRequest_ids admits
    obtain ⟨m, q, rfl⟩ := requested_eq h
  case profile =>
    intro ht hl k hk ho hfree
    refine exec_write (table := .profile) h rfl ht nofun hl ?_ rfl
    rw [hk]
    exact writeProfileEntry_ok ho hfree
  case shed =>
    intro ht hl k hk ho hidle hsent
    refine exec_write (table := .shed) h rfl ht nofun hl ?_ rfl
    rw [hk]
    exact writeShedEntry_ok ho hidle hsent
  case program =>
    intro ht hl k kind onFail hk hkind hfail ho hr
    refine exec_write (table := .program) h rfl ht nofun hl ?_ rfl
    rw [hk]
    exact writeProgramEntry_ok hkind hfail ho hr
  case bank =>
    intro ht hl k hk hother ho
    refine exec_write (table := .bank) h rfl ht nofun hl ?_ rfl
    rw [hk]
    exact writeBankEntry_ok hother ho
  case settings =>
    intro ht hl hi x hx hv
    rw [exec_writeSettings h ht hl hi hx hv, changeIdentity_eq, replaceSettings_eq]
    rfl
  case managers =>
    intro ht hl k id hk hid hu hs
    refine exec_write (table := .managers) h rfl ht nofun hl ?_ rfl
    rw [hk]
    exact (writeManagersEntry_ok hid hu (hs.imp_right fun others j hj e => others j hj (ids j ▸ e))).trans
      (by rw [replaceManager_eq]; rfl)

end Sys2Proof.Machine
end

section
/-!
SUPPORT. The Setting Banks, Station Settings and the Order Profile Table through a step (R42, R44, R45, R53, R54, R183): only a taken
write and a cold reset change them, and each leaves them within their ranges. Settles O52.
-/

namespace Sys2Proof.Machine

variable {s t : State}

/-! ## What leaves the three tables alone -/

/-- The Setting Banks, Station Settings and the Order Profile Table, of which no hand-over changes anything. -/
def Given.tables (g : Given) : Vector Bank 4 × Settings × Vector Profile 16 := (g.banks, g.settings, g.profiles)

/-- R42, R53, R183: the three tables lie within their ranges. -/
abbrev TablesKept (s : State) : Prop := BanksKept s ∧ SettingsKept s ∧ ProfilesKept s

theorem TablesKept.congr (h : TablesKept s) (e : t.given.tables = s.given.tables) : TablesKept t := by
  obtain ⟨hb, hs, hp⟩ : t.banks = s.banks ∧ t.settings = s.settings ∧ t.profiles = s.profiles := by
    simpa [Given.tables, State.given] using e
  simpa only [TablesKept, BanksKept, SettingsKept, ProfilesKept, hb, hs, hp] using h

@[simp] theorem modPort_tables (p : Port) (f : PortState → PortState) : (s.modPort p f).given.tables = s.given.tables := by
  cases p <;> rfl

@[simp] theorem modUnit_tables (u : Fin 16) (f : UnitRec → UnitRec) : (s.modUnit u f).given.tables = s.given.tables := rfl

@[simp] theorem modFeeder_tables (k : Fin 32) (f : FeederRec → FeederRec) : (s.modFeeder k f).given.tables = s.given.tables := rfl

@[simp] theorem readLink_tables (p : Port) (up : Bool) : (readLink p up s).given.tables = s.given.tables := by
  unfold readLink
  split_ifs <;> simp

theorem testRecordHigh_given : s.testRecordHigh.given = s.given := rfl

theorem withSheet_tables (b : Sheet) : ({ s with sheet := b } : State).given.tables = s.given.tables := rfl

theorem warmValues_tables : (warmValues s).given.tables = s.given.tables := rfl

/-- R192: a warm reset keeps the three tables. -/
@[simp] theorem warmReset_tables (d : Nat) (m : StationId) : (warmReset d m s).given.tables = s.given.tables := by
  unfold warmReset
  simp only
  rw [testRecordHigh_given, recompute_given, withSheet_tables, chooseSource_given, warmValues_tables, log_given]

theorem ite_tables {c : Prop} [Decidable c] {x y : State} (hx : x.given.tables = s.given.tables)
    (hy : y.given.tables = s.given.tables) : (if c then x else y).given.tables = s.given.tables := by
  split <;> assumption

theorem tick_tables : (tick s).given.tables = s.given.tables := by
  unfold tick
  split <;> rfl

/-- No update of a record, of a queue or of the frequency source touches the three tables. -/
theorem tablesAre_freely (x : Vector Bank 4 × Settings × Vector Profile 16) : KeptFreely fun t => t.given.tables = x where
  handovers hs := hs
  overrun hs := hs
  log hs := hs
  orders hs := hs
  formTelegram hs := hs
  arbiter hs := hs
  dispatch hs := hs
  curtailTimer hs := hs
  shed hs := hs
  seq hs := hs
  feeders hs := hs
  activeBank hs := hs
  sheet _ hs := hs
  modUnit _ hs := hs
  units hs := hs
  sources hs := hs
  chooseSource hs := by rw [chooseSource_given, hs]
  takeSample hs := by rw [takeSample_given, hs]

@[simp] theorem staleExpires_tables (i : Fin 64) : (staleExpires i s).given.tables = s.given.tables :=
  (tablesAre_freely _).staleExpires_kept rfl

@[simp] theorem takeSampleReport_tables (r : SampleReport) : (takeSampleReport r s).given.tables = s.given.tables :=
  (tablesAre_freely _).takeSampleReport_kept rfl

@[simp] theorem takeSetpoint_tables (x : Telegram) : (takeSetpoint x s).given.tables = s.given.tables :=
  (tablesAre_freely _).takeSetpoint_kept rfl

@[simp] theorem takePositionReport_tables (r : PositionReport) : (takePositionReport r s).given.tables = s.given.tables := by
  unfold takePositionReport
  split
  · rfl
  · split_ifs <;> simp [acceptUnitReport_given]
  · split_ifs <;> simp [acceptFeederReport_given]

/-! ## Requests that write no table (R185) -/

/-- An identity that takes effect after a response lies within the ranges of Station Settings. -/
def AfterEffect.InRange : AfterEffect → Prop
  | .identity id type => id ≠ 0xFFFF ∧ 0x0600 ≤ type.toNat
  | .nothing | .warmReset => True

/-- The answer leaves the three tables as they are, and what follows it gives no identity out of range. -/
def Answer.WritesNone (a : Answer) (s : State) : Prop := a.state.given.tables = s.given.tables ∧ a.after.InRange

theorem refuse_writesNone {status : Status} : (refuse s status).WritesNone s := ⟨rfl, trivial⟩

theorem accept_writesNone (h : t.given.tables = s.given.tables) : (accept t).WritesNone s := ⟨h, trivial⟩

theorem setUnitMode_tables (u : Fin 16) (m : Mode) : (setUnitMode u m s).given.tables = s.given.tables := by
  unfold setUnitMode
  simp only
  split
  · split_ifs <;> simp [withdrawOperator_given]
  · simp [withdrawOperator_given]
  · simp [withdrawOperator_given]

theorem setFeederMode_tables (f : Fin 32) (m : Mode) : (setFeederMode f m s).given.tables = s.given.tables := by
  simp [setFeederMode, withdrawOperator_given]

theorem operateRecord_writesNone (x : Target) (k : Option OrderKind) (v : Int) : (operateRecord x k v s).WritesNone s := by
  have submits : ∀ k, (operateSubmit x k v s).WritesNone s := by
    intro k
    unfold operateSubmit
    simp only
    split <;> rename_i e
    · exact refuse_writesNone
    · exact accept_writesNone (congrArg Given.tables (submitRoutine_out_given e))
  unfold operateRecord
  split_ifs
  · exact refuse_writesNone
  · split
    · exact refuse_writesNone
    · split_ifs
      · exact refuse_writesNone
      · exact refuse_writesNone
      · split
        · unfold operateCrank
          split_ifs <;> [exact refuse_writesNone; exact refuse_writesNone; exact accept_writesNone rfl]
        · exact submits _

/-- R185: of the request kinds WRITE_ENTRY alone changes the three tables. -/
theorem serveBy_writesNone {k : RequestKind} {r : Request} (hk : k ≠ .writeEntry) : (serveBy k r s).WritesNone s := by
  cases k with
  | writeEntry => contradiction
  | readSheet | readEvents | rewindEvents | warmReset => exact ⟨rfl, trivial⟩
  | readEntry =>
    simp only [serveBy, serveReadEntry]
    split <;> [exact refuse_writesNone; split <;> [exact refuse_writesNone; exact ⟨rfl, trivial⟩]]
  | selectBank =>
    simp only [serveBy, serveSelectBank]
    split <;> [exact refuse_writesNone; exact accept_writesNone (by simp)]
  | setMode =>
    simp only [serveBy, serveSetMode]
    split
    · exact refuse_writesNone
    · split_ifs
      · exact refuse_writesNone
      · split <;> exact refuse_writesNone
      · split
        · exact refuse_writesNone
        · split <;> [exact accept_writesNone (setUnitMode_tables ..); exact accept_writesNone (setFeederMode_tables ..)]
  | operate =>
    simp only [serveBy, serveOperate]
    split
    · exact refuse_writesNone
    · split_ifs <;> [exact refuse_writesNone; exact operateRecord_writesNone ..]
  | clearLockout =>
    simp only [serveBy, serveClearLockout]
    split <;> [exact refuse_writesNone; (split_ifs <;> [exact accept_writesNone (by simp); exact refuse_writesNone])]
  | arm | disarm =>
    simp only [serveBy, serveArm]
    split_ifs <;> [exact refuse_writesNone; exact accept_writesNone rfl]
  | beginRestore =>
    simp only [serveBy, serveBeginRestore]
    split_ifs <;> [exact refuse_writesNone; exact accept_writesNone (by simp)]
  | hold =>
    simp only [serveBy, serveHold]
    split_ifs <;> [exact accept_writesNone (by simp); exact refuse_writesNone]
  | resume =>
    simp only [serveBy, serveResume]
    split_ifs
    · exact refuse_writesNone
    · split <;> [(split_ifs <;> [exact accept_writesNone (by simp); exact refuse_writesNone]); exact refuse_writesNone]

/-! ## WRITE_ENTRY (R44, R45, R54, R183) -/

/-- A write either passes its checks and acts, or leaves the state. -/
theorem taken_cases (checks : List (Bool × Status)) (act : State → State) (s : State) :
    (firstFailure checks = .ok ∧ taken checks act s = (act s, .ok)) ∨
      ((taken checks act s).1 = s ∧ (taken checks act s).2 ≠ .ok) := by
  unfold taken
  split
  · exact .inl ⟨‹_›, rfl⟩
  · exact .inr ⟨rfl, ‹_›⟩

theorem taken_keeps {P : State → Prop} {checks : List (Bool × Status)} {act : State → State}
    (ha : firstFailure checks = .ok → P (act s)) (hs : P s) : P (taken checks act s).1 := by
  obtain ⟨ok, acts⟩ | ⟨stays, -⟩ := taken_cases checks act s
  · rw [acts]
    exact ha ok
  · rwa [stays]

theorem Settings.valid_iff (x : Settings) : x.valid = true ↔ x.ownId ≠ 0xFFFF ∧ 0x0600 ≤ x.etherType.toNat ∧
    1 ≤ x.queueOffset ∧ x.queueOffset ≤ 31 ∧ 1 ≤ x.eventOffset ∧ x.eventOffset ≤ 255 ∧ x.airReady ≤ 4000 := by
  simp [Settings.valid, and_assoc]

/-- R183: Station Settings with the identity of others within their ranges. -/
theorem Settings.valid_withIdentity {x : Settings} {id : StationId} {type : BitVec 16} (hx : x.valid = true) (hid : id ≠ 0xFFFF)
    (ht : 0x0600 ≤ type.toNat) : ({ x with ownId := id, etherType := type } : Settings).valid = true := by
  rw [valid_iff] at hx ⊢
  obtain ⟨-, -, others⟩ := hx
  exact ⟨hid, ht, others⟩

/-- R183: a taken SETTINGS write replaces every field but the identity, and the other two tables stay. -/
theorem replaceSettings_tables (x : Settings) (b : StationId) : (replaceSettings x b s).given.tables =
    (s.banks, { x with ownId := s.settings.ownId, etherType := s.settings.etherType }, s.profiles) := by
  rw [replaceSettings_eq]
  rfl

theorem replaceManager_tables (k : Fin 4) (id b : StationId) : (replaceManager k id b s).given.tables = s.given.tables := by
  unfold replaceManager
  simp only
  split_ifs <;> rfl

/-- R54: the attempts of a taken PROFILE write lie in 1 to 6. -/
theorem writeProfileEntry_tablesKept {i : Nat} {o : Octets} {b : StationId} (h : TablesKept s) :
    TablesKept (writeProfileEntry i o b s).1 := by
  unfold writeProfileEntry
  split
  · exact h
  · rename_i k _
    obtain ⟨banks, settings, profiles⟩ := id h
    refine taken_keeps (fun ok => ⟨banks, settings, fun p => ?_⟩) h
    obtain ⟨⟨low, high⟩, -⟩ : (1 ≤ read8 o 4 ∧ read8 o 4 ≤ 6) ∧ read8 o 6 < 4 := by
      simpa using ((firstFailure_cons (by decide)).mp ok).1
    simp only [logWrite, log_profiles, Fin.getElem_fin, Vector.getElem_set]
    split
    · exact ⟨low, high⟩
    · exact profiles p

/-- R44, R45: a taken BANK write is of a bank within its ranges. -/
theorem writeBankEntry_tablesKept {i : Nat} {o : Octets} {b : StationId} (h : TablesKept s) :
    TablesKept (writeBankEntry i o b s).1 := by
  unfold writeBankEntry
  split
  · exact h
  · rename_i k _
    obtain ⟨banks, settings, profiles⟩ := id h
    refine taken_keeps (fun ok => ⟨fun c => ?_, settings, profiles⟩) h
    have valid := ((firstFailure_cons (by decide)).mp ((firstFailure_cons (by decide)).mp ok).2).1
    simp only [logWrite, log_banks, Fin.getElem_fin, Vector.getElem_set]
    split
    · exact valid
    · exact banks c

/-- R183: what a taken SETTINGS write leaves in force until the response keeps the old identity. -/
theorem replaceSettings_tablesKept {x : Settings} {b : StationId} (hx : x.valid = true) (h : TablesKept s) :
    TablesKept (replaceSettings x b s) := by
  obtain ⟨banks, settings, profiles⟩ := h
  obtain ⟨id, type, -⟩ := (Settings.valid_iff _).mp settings
  have kept : TablesKept { s with settings := { x with ownId := s.settings.ownId, etherType := s.settings.etherType } } :=
    ⟨banks, Settings.valid_withIdentity hx id type, profiles⟩
  exact kept.congr (replaceSettings_tables x b)

theorem writeSettingsEntry_tablesKept {i : Nat} {o : Octets} {b : StationId} (h : TablesKept s) :
    TablesKept (writeSettingsEntry i o b s).1 := by
  unfold writeSettingsEntry
  split
  · exact h
  · exact taken_keeps (fun ok => replaceSettings_tablesKept ((firstFailure_cons (by decide)).mp ok).1 h) h

theorem writeEntry_tablesKept {x : TableId} {i : Nat} {o : Octets} {b : StationId} (h : TablesKept s) :
    TablesKept (writeEntry x i o b s).1 := by
  cases x with
  | profile => exact writeProfileEntry_tablesKept h
  | bank => exact writeBankEntry_tablesKept h
  | settings => exact writeSettingsEntry_tablesKept h
  | source =>
    have replaced : ∀ k e, TablesKept (replaceSource k e b s) := fun k e => h.congr (by rw [replaceSource_given]; rfl)
    simp only [writeEntry, writeSourceEntry]
    split <;> [exact h; split <;> [exact replaced ..; split <;> [exact h; exact taken_keeps (fun _ => replaced ..) h]]]
  | unit =>
    have replaced : ∀ u k, TablesKept (replaceUnit u k o b s) := fun u k => h.congr (by rw [replaceUnit_given]; rfl)
    simp only [writeEntry, writeUnitEntry]
    split <;> [exact h; split <;> [exact h; exact taken_keeps (fun _ => replaced ..) h]]
  | feeder =>
    have replaced : ∀ k used, TablesKept (replaceFeeder k used o b s) := fun k used => h.congr (by rw [replaceFeeder_given]; rfl)
    simp only [writeEntry, writeFeederEntry]
    split <;> [exact h; exact taken_keeps (fun _ => replaced ..) h]
  | shed =>
    simp only [writeEntry, writeShedEntry]
    split <;> [exact h; exact taken_keeps (fun _ => h.congr rfl) h]
  | program =>
    simp only [writeEntry, writeProgramEntry]
    split <;> [exact h; split <;> [exact taken_keeps (fun _ => h.congr rfl) h; exact h]]
  | managers =>
    simp only [writeEntry, writeManagersEntry]
    split <;> [exact h; exact taken_keeps (fun _ => h.congr (replaceManager_tables ..)) h]

/-- R183: the identity of a SETTINGS write that was answered OK is that of settings within their ranges. -/
theorem afterWrite_inRange {x : TableId} {i : Nat} {o : Octets} {b : StationId} :
    (afterWrite x o (writeEntry x i o b s).2).InRange := by
  unfold afterWrite
  split_ifs with taken
  · obtain ⟨rfl, ok⟩ : x = .settings ∧ (writeEntry x i o b s).2 = .ok := by simpa using taken
    simp only [writeEntry, writeSettingsEntry] at ok
    split_ifs at ok
    obtain ⟨passed, -⟩ | ⟨-, refused⟩ := taken_cases [((settingsFrom o).valid, .badContent)] (replaceSettings (settingsFrom o) b) s
    · obtain ⟨id, type, -⟩ := (Settings.valid_iff _).mp ((firstFailure_cons (by decide)).mp passed).1
      exact ⟨id, type⟩
    · exact absurd ok refused
  · trivial

/-! ## The Management Agent (R184, R185) -/

/-- A request served leaves the three tables within their ranges, and so does the identity that follows its response. -/
theorem serve_tablesKept {r : Request} (h : TablesKept s) : TablesKept (serve r s).state ∧ (serve r s).after.InRange := by
  cases hk : ofCodeFromOne requestKindsFromOne r.kind with
  | none =>
    simp only [serve, hk]
    exact ⟨h, trivial⟩
  | some k =>
    rw [serve_kind hk]
    by_cases write : k = .writeEntry
    · subst write
      simp only [serveBy, serveWriteEntry]
      split
      · exact ⟨h, trivial⟩
      · split_ifs
        · exact ⟨h, trivial⟩
        · exact ⟨writeEntry_tablesKept h, afterWrite_inRange⟩
    · obtain ⟨tables, after⟩ := serveBy_writesNone (s := s) (r := r) write
      exact ⟨h.congr tables, after⟩

theorem takeAfter_tablesKept {a : AfterEffect} {m : StationId} (ha : a.InRange) (h : TablesKept s) : TablesKept (takeAfter a m s) := by
  cases a with
  | nothing => exact h
  | warmReset => exact h.congr (warmReset_tables ..)
  | identity id type =>
    obtain ⟨banks, settings, profiles⟩ := h
    rw [takeAfter, changeIdentity_eq]
    exact ⟨banks, Settings.valid_withIdentity settings ha.1 ha.2, profiles⟩

theorem takeRequest_tablesKept {r : Request} (h : TablesKept s) : TablesKept (takeRequest r s) := by
  unfold takeRequest
  split
  · exact h
  · rename_i admitted e
    have taken : TablesKept admitted := h.congr (by rw [admitRequest_frame e]; rfl)
    obtain ⟨served, after⟩ := serve_tablesKept (r := r) taken
    exact takeAfter_tablesKept after (served.congr (by simp))

/-! ## Commands and steps -/

theorem takeIn_tablesKept {x : Telegram} (h : TablesKept s) : TablesKept (takeIn x s) := by
  unfold takeIn
  split_ifs
  · exact h.congr (takeSampleReport_tables _)
  · exact h.congr (takePositionReport_tables _)
  · exact h.congr (takeSetpoint_tables _)
  · exact takeRequest_tablesKept h
  · exact h

theorem receive_tablesKept {p : Port} {f : Frame} (h : TablesKept s) : TablesKept (receive p f s) := by
  have passed : TablesKept (forward p f s) := h.congr (modPort_tables ..)
  unfold receive
  refine ite_kept (P := TablesKept) h (ite_kept (P := TablesKept) passed ?_)
  split
  · exact h.congr ((modPort_tables ..).trans (modPort_tables ..))
  · rename_i x _
    have reached := ite_kept (P := TablesKept) (c := x.dest = s.ownId) h passed
    exact ite_kept (P := TablesKept) (takeIn_tablesKept reached) reached

/-- A command keeps the three tables within their ranges where its own event does: no hand-over touches them. -/
theorem run_tablesKept {event : State → State} (he : ∀ x, TablesKept x → TablesKept (event x)) (e : run event s = .next t)
    (h : TablesKept s) : TablesKept t := by
  cases e
  exact TablesKept.congr (he { s with handovers := [] } h) (congrArg Given.tables settle_given)

theorem run_tablesAlone {event : State → State} (he : ∀ x, (event x).given.tables = x.given.tables) (e : run event s = .next t)
    (h : TablesKept s) : TablesKept t := run_tablesKept (fun x hx => hx.congr (he x)) e h

theorem runWhenUp_tablesAlone {event : State → State} (he : ∀ x, (event x).given.tables = x.given.tables)
    (e : runWhenUp event s = .next t) (h : TablesKept s) : TablesKept t :=
  run_tablesAlone (fun x => ite_tables (he x) rfl) e h

/-- Of all commands only the arrival of a frame and the release of a cold reset reach the three tables. -/
theorem exec_tablesKept {c : Instr} (e : exec c s = .next t) (h : TablesKept s) : TablesKept t := by
  cases ha : c.arrival with
  | some a =>
    rw [exec_arrival (p := a.1) (f := a.2) ha] at e
    exact run_tablesKept (fun _ => receive_tablesKept) e h
  | none =>
    cases c with
    | coldResetRelease fsel sid =>
      exact run_tablesKept (fun x hx => ite_kept (P := TablesKept)
        ⟨coldStart_banksKept, coldStart_settingsKept, coldStart_profilesKept⟩ hx) e h
    | coldResetAssert => exact run_tablesAlone (event := holdCold) (fun _ => rfl) e h
    | warmResetPinAssert => exact run_tablesAlone (fun x => ite_tables (x := { x with phase := .warmHeld }) rfl rfl) e h
    | warmResetPinRelease => exact run_tablesAlone (fun _ => ite_tables (warmReset_tables ..) rfl) e h
    | linkStatusRead upA upB =>
      exact run_tablesAlone (fun _ => ite_tables rfl ((readLink_tables ..).trans (readLink_tables ..))) e h
    | badFcsFrame p f => exact run_tablesAlone (fun _ => rfl) e h
    | frameTransmit p => exact run_tablesAlone (fun _ => ite_tables rfl (modPort_tables ..)) e h
    | beaconTimerExpiry => exact runWhenUp_tablesAlone (event := beaconExpires) (fun _ => ite_tables rfl rfl) e h
    | retiredIdentityExpiry =>
      exact run_tablesAlone (fun x => ite_tables rfl (ite_tables (x := { x with retired := none }) rfl rfl)) e h
    | dispatchTimerExpiry =>
      exact runWhenUp_tablesAlone (fun _ => (tablesAre_freely _).keptByHandovers.dispatchTimerExpires_kept rfl) e h
    | curtailTimerExpiry =>
      exact runWhenUp_tablesAlone (fun _ => (tablesAre_freely _).keptByHandovers.curtailTimerExpires_kept rfl) e h
    | staleTimerExpiry | deadlineExpiry | inhibitTimerExpiry | cycleTimerExpiry | holdOffExpiry | airHoldOffExpiry | crankRestExpiry
    | warmUpExpiry | stopTimerExpiry | cooldownExpiry | mirrorExpiry | stageTimerExpiry | restoreDelayExpiry | stepIntervalExpiry
    | deadBusTimerExpiry | waitTimeExpiry | stepTimeoutExpiry => exact runWhenUp_tablesAlone (by simp) e h
    | _ => cases ha

/-- Settles O52: no hand-over and no millisecond touches the three tables, a taken write is one within their ranges, and a cold reset
gives them their first contents. -/
theorem stepKeepsTablesInRange : Obligations.StepKeepsTablesInRange := by
  unfold Obligations.StepKeepsTablesInRange
  intro s t h e
  unfold step at e
  split at e
  · cases e
    exact TablesKept.congr h tick_tables
  · rename_i c rest _
    exact exec_tablesKept (s := { s with pending := rest }) e h

end Sys2Proof.Machine
end

section
/-!
SUPPORT. Tags (R63): the tags after the counter go round the 255 values, so the first free one is among the next held ones plus one.
Settles O19.
-/

namespace Sys2Proof.Machine

/-- R63: 255 is followed by 1, every other tag by the next number. -/
theorem tagAfter_toNat (t : Octet) : (tagAfter t).toNat = t.toNat % 255 + 1 := by
  unfold tagAfter
  split
  case isTrue h => subst h; rfl
  case isFalse h =>
    have below : t.toNat ≠ 255 := fun e => h (BitVec.eq_of_toNat_eq e)
    have one : (1 : Octet).toNat = 1 := rfl
    rw [BitVec.toNat_add, one]
    omega

/-- R63: the tags that follow the counter, by their place behind it. -/
theorem tagAfter_iterate_toNat (t : Octet) (j : Nat) : (tagAfter^[j + 1] t).toNat = (t.toNat + j) % 255 + 1 := by
  induction j with
  | zero => exact tagAfter_toNat t
  | succ j ih =>
    rw [Function.iterate_succ_apply', tagAfter_toNat, ih]
    omega

theorem tagAfter_ne_zero (t : Octet) : tagAfter t ≠ 0 := by
  intro h
  have value := tagAfter_toNat t
  rw [h] at value
  simp at value

/-- Within one round no tag comes twice. -/
theorem tagAfter_iterate_injOn (t : Octet) {i j : Nat} (hi : i < 255) (hj : j < 255)
    (h : tagAfter^[i + 1] t = tagAfter^[j + 1] t) : i = j := by
  have value := congrArg BitVec.toNat h
  rw [tagAfter_iterate_toNat, tagAfter_iterate_toNat] at value
  omega

/-- R63: the search steps over held tags alone, and stops at a free one unless its bound ends it. -/
theorem nextFreeTag_spec (held : List Octet) (n : Nat) (t : Octet) :
    ∃ k ≤ n, nextFreeTag held n t = tagAfter^[k + 1] t ∧ (∀ j < k, tagAfter^[j + 1] t ∈ held) ∧
      (k < n → nextFreeTag held n t ∉ held) := by
  induction n generalizing t with
  | zero => exact ⟨0, le_rfl, rfl, by simp, by simp⟩
  | succ n ih =>
    unfold nextFreeTag
    split
    case isFalse free => exact ⟨0, by omega, rfl, by simp, fun _ => free⟩
    case isTrue taken =>
      obtain ⟨k, hk, tag, passed, free⟩ := ih (tagAfter t)
      refine ⟨k + 1, by omega, tag, fun j hj => ?_, fun h => free (by omega)⟩
      cases j with
      | zero => exact taken
      | succ j => exact passed j (by omega)

/-- Fewer than 255 held tags do not cover as many places behind the counter as they are, and one more. -/
theorem exists_tag_not_held (held : List Octet) (t : Octet) (h : held.length < 255) :
    ∃ j ≤ held.length, tagAfter^[j + 1] t ∉ held := by
  by_contra all
  simp only [not_exists, not_and, not_not] at all
  have distinct : ((List.range (held.length + 1)).map fun j => tagAfter^[j + 1] t).Nodup :=
    List.nodup_range.map_on fun i hi j hj => by
      simp only [List.mem_range] at hi hj
      exact tagAfter_iterate_injOn t (by omega) (by omega)
  have within : ((List.range (held.length + 1)).map fun j => tagAfter^[j + 1] t) ⊆ held := fun x hx => by
    obtain ⟨j, hj, rfl⟩ := List.mem_map.mp hx
    exact all j (Nat.lt_succ_iff.mp (List.mem_range.mp hj))
  have short := (distinct.subperm within).length_le
  simp at short

/-- R63: a tag found with as many steps as tags are held is free. -/
theorem nextFreeTag_notMem (held : List Octet) (t : Octet) (h : held.length < 255) :
    nextFreeTag held held.length t ∉ held := by
  obtain ⟨k, hk, tag, passed, free⟩ := nextFreeTag_spec held held.length t
  obtain ⟨j, hj, outside⟩ := exists_tag_not_held held t h
  rcases Nat.lt_or_ge k held.length with early | last
  · exact free early
  · have same : j = k := by
      by_contra ne
      exact outside (passed j (by omega))
    rwa [tag, ← same]

theorem nextFreeTag_ne_zero (held : List Octet) (n : Nat) (t : Octet) : nextFreeTag held n t ≠ 0 := by
  obtain ⟨k, -, tag, -⟩ := nextFreeTag_spec held n t
  rw [tag, Function.iterate_succ_apply']
  exact tagAfter_ne_zero _

/-- Settles O19: the search ends at a free tag, since the tags it could have stepped over are more than the held ones. -/
theorem nextTagIsFirstFree : Obligations.NextTagIsFirstFree := by
  intro held counter few
  obtain ⟨k, hk, tag, passed, -⟩ := nextFreeTag_spec held held.length counter
  exact ⟨nextFreeTag_notMem held counter (by omega), nextFreeTag_ne_zero held _ counter, k, hk, tag, passed⟩

end Sys2Proof.Machine
end

section
/-!
SUPPORT. The Action Queue, the Order Tracker and the order counters on their own (R56, R60, R63, R67, R75): what each change of them
keeps.
-/

namespace Sys2Proof.Machine

/-! ## The places of a queue (R56 to R58) -/

/-- What R56 to R58 compare of an order: its class, its target and its kind. -/
def Order.place (o : Order) : OrderClass × Target × OrderKind := (o.cls, o.target, o.kind)

theorem sameSlot_iff (a b : Order) : a.sameSlot b = true ↔ a.place = b.place := by
  simp [Order.sameSlot, Order.place, and_assoc]

theorem sameSlot_eq_false_iff (a b : Order) : a.sameSlot b = false ↔ a.place ≠ b.place := by
  rw [← Bool.not_eq_true, sameSlot_iff]

/-- R56, R58: `QueueKept`, said of the places of the queue. -/
structure PlacesKept (l : List (OrderClass × Target × OrderKind)) : Prop where
  size : l.length ≤ 32
  ordered : l.Pairwise fun a b => ¬ (a.1 = .routine ∧ b.1 = .protective)
  distinct : l.Nodup
  trips : ∀ x ∈ l, x.1 = .protective → x.2.2 = .trip ∧ ∃ f, x.2.1 = .feeder f

theorem queueKept_iff {s : State} : QueueKept s ↔ PlacesKept (s.orders.queue.map Order.place) := by
  have sorted : s.orders.queue.Pairwise (fun a b => a.sameSlot b = false) ↔ (s.orders.queue.map Order.place).Nodup := by
    simp only [sameSlot_eq_false_iff, List.Nodup, List.pairwise_map]
  constructor
  · rintro ⟨size, ordered, distinct, trips⟩
    refine ⟨by simpa using size, List.pairwise_map.mpr ordered, sorted.mp distinct, ?_⟩
    rintro _ hx
    obtain ⟨o, ho, rfl⟩ := List.mem_map.mp hx
    exact trips o ho
  · rintro ⟨size, ordered, distinct, trips⟩
    exact ⟨by simpa using size, List.pairwise_map.mp ordered, sorted.mpr distinct,
      fun o ho => trips o.place (List.mem_map_of_mem ho)⟩

theorem PlacesKept.sublist {l m : List (OrderClass × Target × OrderKind)} (h : PlacesKept l) (sub : m.Sublist l) :
    PlacesKept m where
  size := sub.length_le.trans h.size
  ordered := h.ordered.sublist sub
  distinct := h.distinct.sublist sub
  trips x hx := h.trips x (sub.subset hx)

/-- R57: a ROUTINE order joins behind the others. -/
theorem PlacesKept.append_routine {l : List (OrderClass × Target × OrderKind)} {x : OrderClass × Target × OrderKind}
    (h : PlacesKept l) (room : l.length < 32) (hx : x.1 = .routine) (new : x ∉ l) : PlacesKept (l ++ [x]) where
  size := by simpa using room
  ordered := List.pairwise_append.mpr ⟨h.ordered, List.pairwise_singleton _ _, by simp [hx]⟩
  distinct := by simpa using h.distinct.concat new
  trips := by
    simp only [List.mem_append, List.mem_singleton]
    rintro y (old | rfl) hy
    · exact h.trips y old hy
    · rw [hx] at hy
      cases hy

/-- R58: a PROTECTIVE TRIP joins between the PROTECTIVE orders and the ROUTINE ones. -/
theorem PlacesKept.insert_protective {l m : List (OrderClass × Target × OrderKind)} {x : OrderClass × Target × OrderKind}
    (h : PlacesKept (l ++ m)) (room : (l ++ m).length < 32) (hl : ∀ y ∈ l, y.1 = .protective)
    (hx : x.1 = .protective ∧ x.2.2 = .trip ∧ ∃ f, x.2.1 = .feeder f) (new : x ∉ l ++ m) :
    PlacesKept (l ++ [x] ++ m) := by
  have moved : (l ++ [x] ++ m).Perm (x :: (l ++ m)) := by simp
  refine ⟨by rw [moved.length_eq]; exact room, ?_, moved.nodup_iff.mpr (List.nodup_cons.mpr ⟨new, h.distinct⟩), ?_⟩
  · rw [List.append_assoc]
    refine List.pairwise_append.mpr ⟨(List.pairwise_append.mp h.ordered).1,
      List.pairwise_append.mpr ⟨List.pairwise_singleton _ _, (List.pairwise_append.mp h.ordered).2.1, ?_⟩, ?_⟩
    · simp [hx.1]
    · exact fun y hy z _ routine => absurd (hl y hy) (by simp [routine.1])
  · intro y hy isProtective
    rcases List.mem_cons.mp (moved.subset hy) with rfl | old
    · exact hx.2
    · exact h.trips y old isProtective

/-- R58: besides a PROTECTIVE TRIP for a feeder that has none, 31 others at most fill the queue. -/
theorem PlacesKept.protective_room {l : List (OrderClass × Target × OrderKind)} {f : Fin 32} (h : PlacesKept l)
    (all : ∀ x ∈ l, x.1 = .protective) (new : (OrderClass.protective, Target.feeder f, OrderKind.trip) ∉ l) : l.length < 32 := by
  have trip : ∀ x ∈ l, ∃ g, x = (.protective, .feeder g, .trip) := fun x hx => by
    obtain ⟨kind, g, target⟩ := h.trips x hx (all x hx)
    exact ⟨g, Prod.ext (all x hx) (Prod.ext target kind)⟩
  have within : l ⊆ ((Finset.univ.erase f).toList.map fun g => (OrderClass.protective, Target.feeder g, OrderKind.trip)) := by
    intro x hx
    obtain ⟨g, rfl⟩ := trip x hx
    refine List.mem_map_of_mem (Finset.mem_toList.mpr (Finset.mem_erase.mpr ⟨?_, Finset.mem_univ _⟩))
    rintro rfl
    exact new hx
  have few := (h.distinct.subperm within).length_le
  simp at few
  omega

/-! ## Places after an order has been replaced or taken out -/

/-- R57, R58: an order replaced by one of the same class, target and kind leaves every place as it was. -/
theorem replaceFirst_places {new old : Order} {q : List Order} (same : new.place = old.place) :
    (replaceFirst old.sameSlot new q).map Order.place = q.map Order.place := by
  induction q with
  | nil => rfl
  | cons o rest ih =>
    unfold replaceFirst
    split
    case isTrue found => rw [List.map_cons, List.map_cons, same, (sameSlot_iff _ _).mp found]
    case isFalse => rw [List.map_cons, List.map_cons, ih]

theorem find?_sameSlot_eq_none {new : Order} {q : List Order} (h : q.find? new.sameSlot = none) :
    new.place ∉ q.map Order.place := by
  intro hm
  obtain ⟨o, ho, same⟩ := List.mem_map.mp hm
  exact List.find?_eq_none.mp h o ho ((sameSlot_iff _ _).mpr same.symm)

theorem find?_sameSlot_eq_some {new old : Order} {q : List Order} (h : q.find? new.sameSlot = some old) :
    new.place = old.place := (sameSlot_iff _ _).mp (List.find?_some h)

/-! ## The slots of a tracker (R63, R67) -/

/-- R63, R67: `TrackerKept`, said of the slots alone. -/
structure SlotsKept (l : List Slot) : Prop where
  size : l.length ≤ 16
  routine : (l.filter fun x => x.order.cls = .routine).length ≤ 12
  tags : (l.map Slot.tag).Nodup
  given : ∀ x ∈ l, x.tag ≠ 0
  targets : (l.map fun x => x.order.target).Nodup

theorem trackerKept_iff {s : State} : TrackerKept s ↔ SlotsKept s.orders.tracker :=
  ⟨fun ⟨a, b, c, d, e⟩ => ⟨a, b, c, d, e⟩, fun ⟨a, b, c, d, e⟩ => ⟨a, b, c, d, e⟩⟩

theorem SlotsKept.sublist {l m : List Slot} (h : SlotsKept l) (sub : m.Sublist l) : SlotsKept m where
  size := sub.length_le.trans h.size
  routine := (sub.filter _).length_le.trans h.routine
  tags := h.tags.sublist (sub.map _)
  given x hx := h.given x (sub.subset hx)
  targets := h.targets.sublist (sub.map _)

/-- A change of the slots that leaves each its tag and its order. -/
theorem SlotsKept.map {l : List Slot} {g : Slot → Slot} (h : SlotsKept l) (same : ∀ x, (g x).tag = x.tag ∧ (g x).order = x.order) :
    SlotsKept (l.map g) where
  size := by simpa using h.size
  routine := by simpa [List.filter_map, Function.comp_def, same] using h.routine
  tags := by simpa [Function.comp_def, same] using h.tags
  given := by simpa [same] using h.given
  targets := by simpa [Function.comp_def, same] using h.targets

/-- R61, R63, R67: a slot joins where there is room for it, under a free tag and for a device that has none. -/
theorem SlotsKept.append {l : List Slot} {x : Slot} (h : SlotsKept l) (room : l.length < 16)
    (routine : x.order.cls = .routine → (l.filter fun y => y.order.cls = .routine).length < 12) (free : x.tag ∉ l.map Slot.tag)
    (given : x.tag ≠ 0) (new : x.order.target ∉ l.map fun y => y.order.target) : SlotsKept (l ++ [x]) where
  size := by simpa using room
  routine := by
    by_cases hx : x.order.cls = .routine
    · simpa [List.filter_append, hx] using routine hx
    · simpa [List.filter_append, hx] using h.routine
  tags := by simpa using h.tags.concat free
  given := by simpa [or_imp, forall_and] using ⟨h.given, given⟩
  targets := by simpa using h.targets.concat new

/-- R63: the slot of a tag is the only one, so that freeing it takes one order out of the tracker. -/
theorem SlotsKept.length_free {l : List Slot} {x : Slot} (h : SlotsKept l) (hx : x ∈ l) :
    (l.filter fun y => y.tag ≠ x.tag).length + 1 = l.length := by
  have one : (l.filter fun y => y.tag = x.tag).length = 1 := by
    have count := List.count_eq_one_of_mem h.tags (List.mem_map_of_mem hx)
    rwa [List.count_eq_countP, List.countP_map, List.countP_eq_length_filter] at count
  have both := List.length_eq_length_filter_add (l := l) fun y => y.tag = x.tag
  simp only [decide_not] at both ⊢
  omega

theorem SlotsKept.target_free {l : List Slot} {x : Slot} (h : SlotsKept l) (hx : x ∈ l) :
    x.order.target ∉ (l.filter fun y => y.tag ≠ x.tag).map fun y => y.order.target := by
  intro hm
  obtain ⟨y, hy, same⟩ := List.mem_map.mp hm
  obtain ⟨hy, other⟩ := List.mem_filter.mp hy
  have : y = x := List.inj_on_of_nodup_map h.targets hy hx same
  simp [this] at other

end Sys2Proof.Machine
end

section
/-!
SUPPORT. The invariant of the Order Unit (R56, R60, R63, R67, R75) through its own operations: sending, ending, submitting and
withdrawing orders, and the reports and timers that judge them.
-/

namespace Sys2Proof.Machine

variable {s t : State} {o : Order} {e : OrderEnd} {x : Slot}

/-! ## What the operations make of the Order Unit's fields -/

@[simp] theorem testQueueHigh_orders : (testQueueHigh s).orders =
    { s.orders with queueHigh := queueHighAt s.settings.queueOffset s.orders.queue.length } := by
  unfold testQueueHigh
  simp only
  split_ifs <;> rfl

@[simp] theorem setQueue_orders (q : List Order) : (setQueue q s).orders =
    { s.orders with queue := q, queueHigh := queueHighAt s.settings.queueOffset q.length } := by
  simp [setQueue]

@[simp] theorem recordEnd_orders (o : Order) (e : OrderEnd) (v : Nat) : (recordEnd o e v s).orders =
    { s.orders with counters := s.orders.counters.ended e } := by
  unfold recordEnd
  simp only
  split_ifs <;> rfl

@[simp] theorem setCycle_orders (k : Target) (c : Timer) : (s.setCycle k c).orders = s.orders := by cases k <;> rfl

@[simp] theorem setHoldOff_orders (k : Target) (c : Timer) : (s.setHoldOff k c).orders = s.orders := by cases k <;> rfl

@[simp] theorem startHoldOff_orders (o : Order) (e : OrderEnd) : (startHoldOff o e s).orders = s.orders := by
  unfold startHoldOff
  split_ifs <;> simp

@[simp] theorem endSlot_orders (x : Slot) (e : OrderEnd) : (endSlot x e s).orders =
    { s.orders with
      tracker := s.orders.tracker.filter fun y => y.tag ≠ x.tag, counters := s.orders.counters.ended e } := by
  simp [endSlot]

@[simp] theorem endQueued_orders (o : Order) (e : OrderEnd) (own : Bool) : (endQueued o e own s).orders =
    { s.orders with counters := s.orders.counters.ended e } := by
  simp [endQueued]

@[simp] theorem formTelegram_orders (k : Nat) (d : StationId) (b : Octets) : (formTelegram k d b s).orders = s.orders := rfl

@[simp] theorem countAccepted_orders : (countAccepted s).orders =
    { s.orders with counters := { s.orders.counters with accepted := s.orders.counters.accepted + 1 } } := rfl

theorem settings_of_given (h : t.given = s.given) : t.settings = s.settings := congrArg Given.settings h

/-! ## The books (R75) -/

/-- R74: the two removals, of an order that has not been sent; the others are the outcomes of a sent one. -/
def OrderEnd.removes : OrderEnd → Bool
  | .cancelled | .dropped => true
  | _ => false

/-- R75: a count of one more, modulo 2^32. -/
theorem counter_succ (n : Nat) : (BitVec.ofNat 32 (n + 1) : Counter) = BitVec.ofNat 32 n + 1 := BitVec.ofNat_add n 1

/-- R75: the orders that left the queue unsent. -/
def OrderCounters.removals (c : OrderCounters) : Counter := c.cancelled + c.dropped

/-- R75: the orders that ended with an outcome. -/
def OrderCounters.outcomes (c : OrderCounters) : Counter := c.confirmed + c.refused + c.timedOut + c.inhibited + c.superseded

@[simp] theorem ended_accepted (c : OrderCounters) (e : OrderEnd) : (c.ended e).accepted = c.accepted := by cases e <;> rfl

@[simp] theorem ended_sent (c : OrderCounters) (e : OrderEnd) : (c.ended e).sent = c.sent := by cases e <;> rfl

theorem ended_removals (c : OrderCounters) (e : OrderEnd) :
    (c.ended e).removals = c.removals + if e.removes then 1 else 0 := by
  cases e <;> simp [OrderCounters.ended, OrderCounters.removals, OrderEnd.removes] <;> ring

theorem ended_outcomes (c : OrderCounters) (e : OrderEnd) :
    (c.ended e).outcomes = c.outcomes + if e.removes then 0 else 1 := by
  cases e <;> simp [OrderCounters.ended, OrderCounters.outcomes, OrderEnd.removes] <;> ring

/-- R56, R60, R63, R67, R75: what every step keeps of the Order Unit, at this queue high offset. -/
structure OrderUnit.Kept (offset : Nat) (u : OrderUnit) : Prop where
  places : PlacesKept (u.queue.map Order.place)
  slots : SlotsKept u.tracker
  accepted : u.counters.accepted = BitVec.ofNat 32 u.queue.length + u.counters.sent + u.counters.removals
  sent : u.counters.sent = BitVec.ofNat 32 u.tracker.length + u.counters.outcomes
  high : u.queueHigh = queueHighAt offset u.queue.length

/-- The Order Unit stands as every step keeps it. -/
def State.ordersSound (s : State) : Prop := s.orders.Kept s.settings.queueOffset

/-- R56, R60, R63, R67, R75, R183: what O53 says every step keeps. -/
abbrev OrdersKept (s : State) : Prop :=
  QueueKept s ∧ TrackerKept s ∧ BooksBalance s ∧ SettingsKept s ∧ QueueHighKept s

theorem ordersKept_iff : OrdersKept s ↔ s.ordersSound ∧ SettingsKept s := by
  have books : BooksBalance s ↔
      s.orders.counters.accepted = BitVec.ofNat 32 s.orders.queue.length + s.orders.counters.sent + s.orders.counters.removals ∧
      s.orders.counters.sent = BitVec.ofNat 32 s.orders.tracker.length + s.orders.counters.outcomes := by
    simp only [BooksBalance, OrderCounters.removals, OrderCounters.outcomes, add_assoc]
  rw [OrdersKept, queueKept_iff, trackerKept_iff, books]
  exact ⟨fun ⟨places, slots, ⟨accepted, sent⟩, valid, high⟩ => ⟨⟨places, slots, accepted, sent, high⟩, valid⟩,
    fun ⟨⟨places, slots, accepted, sent, high⟩, valid⟩ => ⟨places, slots, ⟨accepted, sent⟩, valid, high⟩⟩

namespace OrderUnit.Kept

variable {offset : Nat} {u : OrderUnit} (h : u.Kept offset)
include h

theorem queue_nodup : u.queue.Nodup := h.places.distinct.of_map

/-- R57, R119: orders changed in place, each keeping its class, target and kind. -/
theorem changeQueue {q : List Order} (same : q.map Order.place = u.queue.map Order.place) :
    ({ u with queue := q } : OrderUnit).Kept offset := by
  have length : q.length = u.queue.length := by simpa using congrArg List.length same
  exact ⟨same ▸ h.places, h.slots, by simpa only [length] using h.accepted, h.sent, by simpa only [length] using h.high⟩

/-- Slots changed in place, each keeping its tag and its order. -/
theorem changeSlots {g : Slot → Slot} (same : ∀ x, (g x).tag = x.tag ∧ (g x).order = x.order) :
    ({ u with tracker := u.tracker.map g } : OrderUnit).Kept offset :=
  ⟨h.places, h.slots.map same, h.accepted, by simpa only [List.length_map] using h.sent, h.high⟩

/-- R74, R75: an order leaves the queue unsent. -/
theorem remove {q : List Order} (sub : q.Sublist u.queue) (one : q.length + 1 = u.queue.length) (he : e.removes = true) :
    ({ u with queue := q, queueHigh := queueHighAt offset q.length, counters := u.counters.ended e } : OrderUnit).Kept offset where
  places := h.places.sublist (sub.map _)
  slots := h.slots
  accepted := by
    simp only [ended_accepted, ended_sent, ended_removals, he, if_true]
    rw [h.accepted, ← one, counter_succ]
    ring
  sent := by
    simp only [ended_sent, ended_outcomes, he, if_true]
    rw [h.sent, add_zero]
  high := rfl

/-- R57: a queued order gives way to one of the same class, target and kind, which counts as accepted. -/
theorem replace {q : List Order} (same : q.map Order.place = u.queue.map Order.place) :
    ({ u with
        queue := q
        counters := { u.counters.ended .cancelled with accepted := (u.counters.ended .cancelled).accepted + 1 } } : OrderUnit).Kept
      offset := by
  have changed := h.changeQueue same
  refine ⟨changed.places, h.slots, ?_, h.sent, changed.high⟩
  have accepted := changed.accepted
  simp only [OrderCounters.ended, OrderCounters.removals] at accepted ⊢
  rw [accepted]
  ring

/-- R57, R58: an order joins the queue and counts as accepted. -/
theorem accept {q : List Order} (places : PlacesKept (q.map Order.place)) (one : q.length = u.queue.length + 1) :
    ({ u with
        queue := q, queueHigh := queueHighAt offset q.length
        counters := { u.counters with accepted := u.counters.accepted + 1 } } : OrderUnit).Kept offset := by
  refine ⟨places, h.slots, ?_, h.sent, rfl⟩
  have accepted := h.accepted
  simp only [OrderCounters.removals] at accepted ⊢
  rw [accepted, one, counter_succ]
  ring

/-- R74, R75: the slot of an order that has ended is freed. -/
theorem free (hx : x ∈ u.tracker) (he : e.removes = false) :
    ({ u with tracker := u.tracker.filter fun y => y.tag ≠ x.tag, counters := u.counters.ended e } : OrderUnit).Kept offset where
  places := h.places
  slots := h.slots.sublist List.filter_sublist
  accepted := by
    simp only [ended_accepted, ended_sent, ended_removals, he, Bool.false_eq_true, if_false]
    rw [h.accepted, add_zero]
  sent := by
    simp only [ended_sent, ended_outcomes, he, Bool.false_eq_true, if_false]
    rw [h.sent, ← h.slots.length_free hx, counter_succ]
    ring
  high := h.high

/-- R62, R63, R75: a queued order is sent, under the next free tag. -/
theorem send {n : Nat} (ho : o ∈ u.queue) (room : u.tracker.length < 16)
    (routine : o.cls = .routine → (u.tracker.filter fun y => y.order.cls = .routine).length < 12)
    (new : o.target ∉ u.tracker.map fun y => y.order.target) :
    let tag := nextFreeTag (u.tracker.map Slot.tag) u.tracker.length u.tagCounter
    ({ u with
        queue := u.queue.erase o, queueHigh := queueHighAt offset (u.queue.erase o).length
        tracker := u.tracker ++ [{ order := o, tag := tag, deadline := n }], tagCounter := tag
        counters := { u.counters with sent := u.counters.sent + 1 } } : OrderUnit).Kept offset := by
  intro tag
  have free : tag ∉ u.tracker.map Slot.tag := by
    have found := nextFreeTag_notMem (u.tracker.map Slot.tag) u.tagCounter (by rw [List.length_map]; omega)
    rwa [List.length_map] at found
  have length := List.length_erase_of_mem ho
  have some := List.length_pos_of_mem ho
  refine ⟨h.places.sublist (List.erase_sublist.map _),
    h.slots.append room routine free (nextFreeTag_ne_zero _ _ _) new, ?_, ?_, rfl⟩
  · have accepted := h.accepted
    rw [show u.queue.length = (u.queue.erase o).length + 1 by omega, counter_succ] at accepted
    simp only [OrderCounters.removals] at accepted ⊢
    rw [accepted]
    ring
  · have sent := h.sent
    simp only [OrderCounters.outcomes, List.length_append, List.length_singleton, counter_succ] at sent ⊢
    rw [sent]
    ring

end OrderUnit.Kept

end Sys2Proof.Machine
end

section
/-!
SUPPORT. The operations of the Order Unit keep it sound: sending (R61 to R64), ending (R74, R75), submission and withdrawal (R57 to
R59), and the reports and timers that judge the orders out (R68 to R73).
-/

namespace Sys2Proof.Machine

variable {s t : State} {o : Order} {e : OrderEnd} {x : Slot}

/-- What changes neither the Order Unit nor Station Settings. -/
theorem State.ordersSound.frame (h : s.ordersSound) (ho : t.orders = s.orders) (hs : t.settings = s.settings) : t.ordersSound := by
  rwa [State.ordersSound, ho, hs]

/-- An operation of the Order Unit owes what it makes of the unit's own fields. -/
theorem State.ordersSound.given (hg : t.given = s.given) (ht : t.orders.Kept s.settings.queueOffset) : t.ordersSound := by
  rwa [State.ordersSound, settings_of_given hg]

/-! ## Ends (R74) -/

theorem endSlot_sound (h : s.ordersSound) (hx : x ∈ s.orders.tracker) (he : e.removes = false) : (endSlot x e s).ordersSound :=
  .given (endSlot_given _ _) (by rw [endSlot_orders]; exact OrderUnit.Kept.free h hx he)

/-- R74: an order leaves the queue and ends with a removal. -/
theorem endQueued_setQueue_sound {q : List Order} {own : Bool} (h : s.ordersSound) (sub : q.Sublist s.orders.queue)
    (one : q.length + 1 = s.orders.queue.length) (he : e.removes = true) : (endQueued o e own (setQueue q s)).ordersSound :=
  .given (s := s) (by simp) (by rw [endQueued_orders, setQueue_orders]; exact OrderUnit.Kept.remove h sub one he)

/-- Slots changed in place, each keeping its tag and its order. -/
theorem changeSlots_sound {g : Slot → Slot} (h : s.ordersSound) (same : ∀ x, (g x).tag = x.tag ∧ (g x).order = x.order) :
    (s.modOrders fun u => { u with tracker := u.tracker.map g }).ordersSound :=
  OrderUnit.Kept.changeSlots h same

/-- A change of the one slot with this tag that leaves it its tag and its order. -/
theorem changeSlot_sound {g : Slot → Slot} (h : s.ordersSound) (same : ∀ x, (g x).tag = x.tag ∧ (g x).order = x.order) :
    (s.modOrders fun u => { u with tracker := u.tracker.map fun y => if y.tag = x.tag then g y else y }).ordersSound :=
  changeSlots_sound h fun y => by
    split_ifs <;> [exact same y; exact ⟨rfl, rfl⟩]

theorem freeze_sound (h : s.ordersSound) (hx : x ∈ s.orders.tracker) : (freeze x s).ordersSound := by
  unfold freeze
  simp only
  split_ifs
  · exact endSlot_sound h hx rfl
  · exact changeSlot_sound h fun _ => ⟨rfl, rfl⟩

/-! ## Sending (R61 to R64) -/

/-- R61: once an order of the target that is out has ended, the tracker has room for an eligible order, which is the only one of its
target. -/
structure RoomFor (o : Order) (s : State) : Prop where
  room : s.orders.tracker.length < 16
  routine : o.cls = .routine → (s.orders.tracker.filter fun y => y.order.cls = .routine).length < 12
  new : o.target ∉ s.orders.tracker.map fun y => y.order.target

theorem slotOf_eq_none (h : s.slotOf o.target = none) : o.target ∉ s.orders.tracker.map fun y => y.order.target := by
  simpa [State.slotOf] using h

theorem slotOf_mem {k : Target} (h : s.slotOf k = some x) : x ∈ s.orders.tracker ∧ x.order.target = k := by
  unfold State.slotOf at h
  exact ⟨List.mem_of_find?_eq_some h, by simpa using List.find?_some h⟩

theorem roomFor_of_none (h : eligible s o = true) (hn : s.slotOf o.target = none) : RoomFor o s := by
  refine ⟨?_, fun hc => ?_, slotOf_eq_none hn⟩
  · unfold eligible at h
    cases hc : o.cls <;> simp only [hc, hn, Config.trackerSize, Bool.and_eq_true, decide_eq_true_eq] at h
    · exact of_decide_eq_true h
    · exact of_decide_eq_true h.1.1.1.1.1
  · simp only [eligible, hc, hn, Config.trackerRoutine, Bool.and_eq_true, decide_eq_true_eq] at h
    exact of_decide_eq_true h.1.1.1.1.2

theorem roomFor_of_some (hs : s.ordersSound) (h : eligible s o = true) (hx : s.slotOf o.target = some x) :
    RoomFor o (endSlot x .superseded s) := by
  obtain ⟨mem, target⟩ := slotOf_mem hx
  have shorter := OrderUnit.Kept.slots hs |>.length_free mem
  have size := (OrderUnit.Kept.slots hs).size
  have protective : o.cls ≠ .routine := fun hc => by simp [eligible, hc, hx] at h
  refine ⟨?_, fun hc => absurd hc protective, ?_⟩
  · rw [endSlot_orders]
    simp only
    omega
  · rw [endSlot_orders, ← target]
    exact (OrderUnit.Kept.slots hs).target_free mem

/-- R62: the order of the same target that is out has ended SUPERSEDED. -/
def State.freedFor (o : Order) (s : State) : State :=
  match s.slotOf o.target with
  | some x => endSlot x .superseded s
  | none => s

/-- R63: the slot an order is sent into. -/
def State.newSlot (o : Order) (s : State) : Slot :=
  { order := o, tag := nextFreeTag (s.orders.tracker.map Slot.tag) s.orders.tracker.length s.orders.tagCounter
    deadline := (s.profileOf o).deadline }

/-- R63, R64: an order that has left the queue joins the tracker, its telegram is formed, and its target's cycle timer starts. -/
def State.putsOut (o : Order) (s : State) : State :=
  (formTelegram kindActionOrder o.device (orderBody (s.newSlot o).tag o) (s.modOrders fun u =>
    { u with
      tracker := u.tracker ++ [s.newSlot o], tagCounter := (s.newSlot o).tag
      counters := { u.counters with sent := u.counters.sent + 1 } })).setCycle o.target (some (s.profileOf o).effectiveCycle)

/-- R62, R70: a send, which freezes at once where the device shows INHIBIT. -/
theorem sendOne_eq (o : Order) (s : State) : sendOne o s =
    let left := setQueue ((s.freedFor o).orders.queue.erase o) (s.freedFor o)
    let out := left.putsOut o
    if (left.profileOf o).waitMode.freezes && out.targetInhibit o.target then freeze (left.newSlot o) out else out := rfl

@[simp] theorem putsOut_given : (s.putsOut o).given = s.given := by simp [State.putsOut]

theorem freedFor_sound (h : s.ordersSound) (he : eligible s o = true) :
    (s.freedFor o).ordersSound ∧ RoomFor o (s.freedFor o) ∧ (s.freedFor o).orders.queue = s.orders.queue := by
  unfold State.freedFor
  cases hx : s.slotOf o.target with
  | none => exact ⟨h, roomFor_of_none he hx, rfl⟩
  | some x => exact ⟨endSlot_sound h (slotOf_mem hx).1 rfl, roomFor_of_some h he hx, by rw [endSlot_orders]⟩

/-- R62, R63: an order leaves the queue for the tracker, which has room for it. -/
theorem putsOut_sound (h : s.ordersSound) (ho : o ∈ s.orders.queue) (room : RoomFor o s) :
    ((setQueue (s.orders.queue.erase o) s).putsOut o).ordersSound := by
  refine .given (s := s) (by simp) ?_
  simp only [State.putsOut, State.newSlot, setCycle_orders, formTelegram_orders, modOrders_orders, setQueue_orders]
  exact OrderUnit.Kept.send h ho room.room room.routine room.new

theorem sendOne_sound (h : s.ordersSound) (ho : o ∈ s.orders.queue) (he : eligible s o = true) : (sendOne o s).ordersSound := by
  obtain ⟨free, room, queue⟩ := freedFor_sound h he
  have out := putsOut_sound free (queue ▸ ho) room
  rw [sendOne_eq]
  simp only
  split_ifs
  · exact freeze_sound out (by simp [State.putsOut])
  · exact out

theorem sendLoop_sound {n : Nat} (h : s.ordersSound) : (sendLoop n s).ordersSound := by
  induction n generalizing s with
  | zero => exact h
  | succ n ih =>
    unfold sendLoop
    split
    case h_1 => exact h
    case h_2 found => exact ih (sendOne_sound h (List.mem_of_find?_eq_some found) (List.find?_some found))

theorem sendTest_sound (h : s.ordersSound) : (sendTest s).ordersSound := sendLoop_sound h

/-! ## Submission (R57, R58) -/

theorem submitRoutine_sound (h : s.ordersSound) : (submitRoutine o s).1.ordersSound := by
  unfold submitRoutine
  simp only
  split
  case h_1 q found =>
    have place := find?_sameSlot_eq_some found
    split_ifs
    · exact sendTest_sound (OrderUnit.Kept.changeQueue h (replaceFirst_places place.symm))
    · refine sendTest_sound (.given (s := s) (by simp) ?_)
      rw [countAccepted_orders, endQueued_orders]
      exact OrderUnit.Kept.replace h (replaceFirst_places rfl)
  case h_2 none =>
    split_ifs with room
    · refine sendTest_sound (.given (s := s) (by simp) ?_)
      rw [countAccepted_orders, setQueue_orders]
      refine OrderUnit.Kept.accept h ?_ (by simp)
      rw [List.map_append]
      exact (OrderUnit.Kept.places h).append_routine (by rw [List.length_map]; exact room) rfl (find?_sameSlot_eq_none none)
    · exact h

theorem submitRoutine_out_sound {out : State} {a : SubmitAnswer} (e : submitRoutine o s = (out, a)) (h : s.ordersSound) :
    out.ordersSound := by
  have sound := submitRoutine_sound (o := o) h
  rwa [e] at sound

/-- R59: each order that passes the test is found in the queue when its turn comes, and leaves it. -/
theorem cancelEach_sound {own : Bool} (l : List Order) (h : s.ordersSound) (distinct : l.Nodup)
    (queued : ∀ q ∈ l, q ∈ s.orders.queue) :
    let out := l.foldl (fun t o => endQueued o .cancelled own (setQueue (t.orders.queue.erase o) t)) s
    out.ordersSound ∧ out.orders.queue.Sublist s.orders.queue := by
  induction l generalizing s with
  | nil => exact ⟨h, .refl _⟩
  | cons q rest ih =>
    obtain ⟨apart, distinct⟩ := List.nodup_cons.mp distinct
    have mem := queued q List.mem_cons_self
    have length := List.length_erase_of_mem mem
    have some := List.length_pos_of_mem mem
    have left := endQueued_setQueue_sound (o := q) (e := .cancelled) (own := own) h List.erase_sublist
      (by omega : (s.orders.queue.erase q).length + 1 = _) rfl
    obtain ⟨sound, sub⟩ := ih left distinct fun y hy => by
      simp only [endQueued_orders, setQueue_orders]
      exact (List.mem_erase_of_ne (by rintro rfl; exact apart hy)).mpr (queued y (List.mem_cons_of_mem _ hy))
    simp only [endQueued_orders, setQueue_orders] at sub
    exact ⟨sound, sub.trans List.erase_sublist⟩

theorem cancelWhere_keeps {p : Order → Bool} {own : Bool} (h : s.ordersSound) :
    (cancelWhere p own s).ordersSound ∧ (cancelWhere p own s).orders.queue.Sublist s.orders.queue :=
  cancelEach_sound _ h ((OrderUnit.Kept.queue_nodup h).filter _) fun _ hq => List.mem_of_mem_filter hq

/-- R58: the drop of the last ROUTINE order of a full queue. -/
theorem dropLast_keeps (h : s.ordersSound) :
    (dropLast s).ordersSound ∧ (dropLast s).orders.queue.Sublist s.orders.queue := by
  unfold dropLast
  split_ifs
  · exact ⟨h, .refl _⟩
  split
  case h_1 => exact ⟨h, .refl _⟩
  case h_2 q found =>
    have mem := List.mem_of_find?_eq_some found
    have length := List.length_erase_of_mem mem
    have some := List.length_pos_of_mem mem
    have sub : (s.orders.queue.reverse.erase q).reverse.Sublist s.orders.queue := by
      simpa using (List.erase_sublist (a := q) (l := s.orders.queue.reverse)).reverse
    refine ⟨endQueued_setQueue_sound h sub ?_ rfl, by simpa using sub⟩
    rw [List.length_reverse, length, List.length_reverse]
    rw [List.length_reverse] at some
    omega

/-- R58: then there is room for a PROTECTIVE TRIP of a feeder that has none queued. -/
theorem dropLast_room {f : Fin 32} (h : s.ordersSound)
    (new : (OrderClass.protective, Target.feeder f, OrderKind.trip) ∉ s.orders.queue.map Order.place) :
    (dropLast s).orders.queue.length < 32 := by
  have size := (OrderUnit.Kept.places h).size
  rw [List.length_map] at size
  unfold dropLast
  split_ifs with room
  · exact room
  split
  case h_1 none =>
    have all : ∀ y ∈ s.orders.queue.map Order.place, y.1 = .protective := by
      rintro _ hy
      obtain ⟨q, hq, rfl⟩ := List.mem_map.mp hy
      have kept := List.find?_eq_none.mp none q (List.mem_reverse.mpr hq)
      cases hc : q.cls <;> simp_all [Order.place]
    simpa using (OrderUnit.Kept.places h).protective_room all new
  case h_2 q found =>
    have mem := List.mem_of_find?_eq_some found
    have length := List.length_erase_of_mem mem
    have some := List.length_pos_of_mem mem
    rw [List.length_reverse] at length some
    simp only [endQueued_orders, setQueue_orders, List.length_reverse]
    omega

/-- R56: the PROTECTIVE orders stand ahead of the ROUTINE ones. -/
theorem queue_split {q : List Order} (ordered : q.Pairwise fun a b => ¬ (a.cls = .routine ∧ b.cls = .protective)) :
    (q.filter fun o => o.cls = .protective) ++ (q.filter fun o => o.cls = .routine) = q := by
  induction q with
  | nil => rfl
  | cons o rest ih =>
    obtain ⟨first, ordered⟩ := List.pairwise_cons.mp ordered
    cases hc : o.cls with
    | protective => simpa [hc] using ih ordered
    | routine =>
      have all : ∀ q ∈ rest, q.cls = .routine := fun q hq => by
        have behind := first q hq
        cases h : q.cls <;> simp_all
      have none : rest.filter (fun o => o.cls = .protective) = [] := List.filter_eq_nil_iff.mpr fun q hq => by simp [all q hq]
      have every : rest.filter (fun o => o.cls = .routine) = rest := List.filter_eq_self.mpr fun q hq => by simp [all q hq]
      simp [hc, none, every]

theorem submitProtective_sound {f : Fin 32} (h : s.ordersSound) (hk : o.kind = .trip) (ht : o.target = .feeder f) :
    (submitProtective o s).ordersSound := by
  unfold submitProtective
  simp only
  split
  case h_1 q found =>
    exact sendTest_sound (OrderUnit.Kept.changeQueue h (replaceFirst_places (find?_sameSlot_eq_some found).symm))
  case h_2 none =>
    have new := find?_sameSlot_eq_none none
    obtain ⟨cancelled, within⟩ := cancelWhere_keeps (p := fun q => q.cls = .routine && q.target = o.target) (own := false) h
    obtain ⟨sound, sub⟩ := dropLast_keeps cancelled
    have room := dropLast_room (f := f) cancelled fun hm => new (by
      simpa [Order.place, hk, ht] using (within.map Order.place).subset hm)
    have absent := fun hm => new (((sub.trans within).map Order.place).subset hm)
    generalize dropLast (cancelWhere (fun q => q.cls = .routine && q.target = o.target) false s) = free at sound room absent ⊢
    have split := queue_split (List.pairwise_map.mp (OrderUnit.Kept.places sound).ordered)
    refine sendTest_sound (.given (s := free) (by simp) ?_)
    rw [countAccepted_orders, setQueue_orders]
    refine OrderUnit.Kept.accept sound ?_ ?_
    · rw [List.map_append, List.map_append]
      have places := OrderUnit.Kept.places sound
      rw [← split, List.map_append] at places absent
      refine places.insert_protective ?_ ?_ ⟨rfl, hk, f, ht⟩ absent
      · rw [← List.map_append, split]
        simpa using room
      · simp only [List.forall_mem_map]
        exact fun q hq => of_decide_eq_true (List.mem_filter.mp hq).2
    · conv_rhs => rw [← split]
      simp only [List.length_append, List.length_singleton]
      omega

/-! ## Reports and timers (R68 to R73) -/

theorem matchReport_sound {k : Target} {g : Octet} {r a : Bool} (h : s.ordersSound) : (matchReport k g r a s).ordersSound := by
  unfold matchReport
  split
  case h_1 => exact h
  case h_2 x found =>
    have mem := List.mem_of_find?_eq_some found
    split_ifs
    · exact endSlot_sound h mem rfl
    · exact h
    · exact endSlot_sound h mem rfl
    · exact changeSlot_sound h fun _ => ⟨rfl, rfl⟩

theorem thaw_same (n : Nat) (x : Slot) : (thaw n x).tag = x.tag ∧ (thaw n x).order = x.order := by
  unfold thaw
  split <;> exact ⟨rfl, rfl⟩

theorem inhibitChange_sound {k : Target} (h : s.ordersSound) : (inhibitChange k s).ordersSound := by
  unfold inhibitChange
  split
  case h_1 => exact h
  case h_2 x found =>
    simp only
    split_ifs
    · exact h
    · exact h
    · exact freeze_sound h (slotOf_mem found).1
    · exact changeSlot_sound h (thaw_same _)

theorem deadlineExpires_sound {g : Octet} (h : s.ordersSound) : (deadlineExpires g s).ordersSound := by
  unfold deadlineExpires
  split
  case h_1 => exact h
  case h_2 x found =>
    have mem := List.mem_of_find?_eq_some found
    split_ifs
    · exact h
    · exact endSlot_sound h mem rfl
    · exact endSlot_sound h mem rfl

theorem inhibitExpires_sound {g : Octet} (h : s.ordersSound) : (inhibitExpires g s).ordersSound := by
  unfold inhibitExpires
  split
  case h_1 => exact h
  case h_2 x found =>
    split_ifs
    · exact endSlot_sound h (List.mem_of_find?_eq_some found) rfl
    · exact h

/-- R119: the LIMITs queued for a plant, lowered in place. -/
theorem lowerQueued_sound {u : Fin 16} (h : s.ordersSound) : (lowerQueued u s).ordersSound :=
  OrderUnit.Kept.changeQueue h (by
    rw [List.map_map]
    refine List.map_congr_left fun q _ => ?_
    simp only [Function.comp_apply]
    split_ifs <;> rfl)

theorem tickSlots_sound (h : s.ordersSound) : (s.modOrders fun u => { u with tracker := u.tracker.map Slot.tick }).ordersSound :=
  changeSlots_sound h fun x => by
    unfold Slot.tick
    split <;> exact ⟨rfl, rfl⟩

end Sys2Proof.Machine
end

section
/-!
SUPPORT. What the hand-overs of a command keep, for a property that looks at the Order Unit. `KeptByUpdates` lets every update change
the orders as it likes; here they change by the Order Unit's own operations alone, so the jobs' way to them is followed once more.
A property that looks at the bounds of the LIMITs (R119) is served too: what moves a bound or submits a LIMIT stands as a field.
-/

namespace Sys2Proof.Machine

variable {P : State → Prop} {s t : State}

/-- The property looks at the orders, at Station Settings and at each plant's bound alone, and survives the operations of the Order
Unit and of the plants. A PROTECTIVE order is a TRIP of a feeder (R58). -/
structure KeptByOrderUnit (P : State → Prop) : Prop where
  aside : ∀ {s t : State}, t.orders = s.orders → t.settings = s.settings →
    (∀ u : Fin 16, (t.units[u]).kind = (s.units[u]).kind ∧ (t.units[u]).limitBound = (s.units[u]).limitBound) → P s → P t
  sendTest : ∀ {s : State}, P s → P (sendTest s)
  submitRoutine : ∀ {s : State} {o : Order}, o.kind ≠ .limit → P s → P (submitRoutine o s).1
  submitProtective : ∀ {s : State} {o : Order} {f : Fin 32}, o.kind = .trip → o.target = .feeder f → P s → P (submitProtective o s)
  cancelWhere : ∀ {s : State} {p : Order → Bool} {own : Bool}, P s → P (cancelWhere p own s)
  matchReport : ∀ {s : State} {k : Target} {g : Octet} {r a : Bool}, P s → P (matchReport k g r a s)
  inhibitChange : ∀ {s : State} {k : Target}, P s → P (inhibitChange k s)
  deadlineExpires : ∀ {s : State} {g : Octet}, P s → P (deadlineExpires g s)
  inhibitExpires : ∀ {s : State} {g : Octet}, P s → P (inhibitExpires g s)
  lowerQueued : ∀ {s : State} {u : Fin 16}, P s → P (lowerQueued u s)
  curtailEval : ∀ {s : State}, P s → P (curtailEval s)
  setpointCopy : ∀ {s : State} {d : StationId} {v : Int}, P s → P (setpointCopy d v s)
  mirrorExpires : ∀ {s : State} {u : Fin 16}, P s → P (mirrorExpires u s)

namespace KeptByOrderUnit

variable (h : KeptByOrderUnit P)
include h

/-! ## Updates that leave the orders and the plants' bounds alone -/

/-- An update of anything but the orders, Station Settings and the unit records. -/
theorem still (hs : P s) (ho : t.orders = s.orders := by rfl) (hx : t.settings = s.settings := by rfl)
    (hu : t.units = s.units := by rfl) : P t := h.aside ho hx (fun _ => by rw [hu]; exact ⟨rfl, rfl⟩) hs

theorem handovers {l : List Handover} (hs : P s) : P { s with handovers := l } := h.still hs
theorem overrun {b : Bool} (hs : P s) : P { s with overrun := b } := h.still hs
theorem log {k : EventKind} {x : Option Subject} {v : Int} {d : Nat} (hs : P s) : P (s.log k x v d) := h.still hs
theorem formTelegram {k : Nat} {d : StationId} {b : Octets} (hs : P s) : P (Machine.formTelegram k d b s) := h.still hs
theorem dispatch {d : DispatchUnit} (hs : P s) : P { s with dispatch := d } := h.still hs
theorem curtailTimer {n : Nat} (hs : P s) : P { s with curtailTimer := n } := h.still hs
theorem seq {q : Sequencer} (hs : P s) : P { s with seq := q } := h.still hs
theorem feeders {v : Vector FeederRec 32} (hs : P s) : P { s with feeders := v } := h.still hs
theorem activeBank {b : Fin 4} (hs : P s) : P { s with activeBank := b } := h.still hs
theorem post_kept {l : List Handover} (hs : P s) : P (s.post l) := h.still hs
theorem postFirst_kept {x : Handover} (hs : P s) : P (s.postFirst x) := h.still hs
theorem modArbiter_kept {f : Arbiter → Arbiter} (hs : P s) : P (s.modArbiter f) := h.still hs
theorem modShed_kept {f : Shedding → Shedding} (hs : P s) : P (s.modShed f) := h.still hs
theorem modSeq_kept {f : Sequencer → Sequencer} (hs : P s) : P (s.modSeq f) := h.still hs
theorem modFeeder_kept {i : Fin 32} {f : FeederRec → FeederRec} (hs : P s) : P (s.modFeeder i f) := h.still hs
theorem setStopTimer_kept {x : Option StopTimer} (hs : P s) : P (s.setStopTimer x) := h.still hs
theorem postRestoreWait_kept {x : Option Nat} (hs : P s) : P (postRestoreWait x s) := h.still hs
theorem formRocof_kept (hs : P s) : P (formRocof s) := h.still hs

theorem modUnit_kept {u : Fin 16} {f : UnitRec → UnitRec} (hf : ∀ r, (f r).kind = r.kind ∧ (f r).limitBound = r.limitBound)
    (hs : P s) : P (s.modUnit u f) := by
  refine h.aside (s := s) rfl rfl (fun v => ?_) hs
  simp only [modUnit_units, Fin.getElem_fin, modifyAt_get]
  split_ifs <;> [exact hf _; exact ⟨rfl, rfl⟩]

theorem modGenset_kept {u : Fin 16} {f : GensetControl → GensetControl} (hs : P s) : P (s.modGenset u f) :=
  h.modUnit_kept (fun _ => ⟨rfl, rfl⟩) hs

/-- An update of a plant's control fields that leaves its mirror. -/
theorem modPv_kept {u : Fin 16} {f : PvControl → PvControl}
    (hf : ∀ r : UnitRec, ({ r with pv := f r.pv } : UnitRec).limitBound = r.limitBound) (hs : P s) : P (s.modPv u f) :=
  h.modUnit_kept (fun r => ⟨rfl, hf r⟩) hs

theorem recompute_kept (hs : P s) : P (recompute s) := by
  unfold recompute
  exact ite_kept (h.still hs) (h.still hs)

theorem chooseSource_kept (hs : P s) : P (chooseSource s) := ite_kept hs (h.still hs)

/-! ## The Order Unit -/

theorem setCycle_kept {k : Target} {x : Timer} (hs : P s) : P (s.setCycle k x) := by
  cases k
  · exact h.modUnit_kept (fun _ => ⟨rfl, rfl⟩) hs
  · exact h.modFeeder_kept hs

theorem setHoldOff_kept {k : Target} {x : Timer} (hs : P s) : P (s.setHoldOff k x) := by
  cases k
  · exact h.modUnit_kept (fun _ => ⟨rfl, rfl⟩) hs
  · exact h.modFeeder_kept hs

theorem submitRoutine_out_kept {o : Order} {out : State} {a : SubmitAnswer} (e : Machine.submitRoutine o s = (out, a)) (hs : P s)
    (hk : o.kind ≠ .limit := by nofun) : P out := by
  have kept := h.submitRoutine hk hs
  rwa [e] at kept

theorem withdraw_kept {c : List OrderCause} {k : Target} {x : Option OrderKind} (hs : P s) : P (withdraw c k x s) :=
  h.cancelWhere hs

theorem idleTarget_kept {k : Target} (hs : P s) : P (idleTarget k s) := h.setHoldOff_kept (h.setCycle_kept hs)

theorem cancelTarget_kept {k : Target} (hs : P s) : P (cancelTarget k s) := h.cancelWhere hs

theorem releaseTarget_kept {k : Target} (hs : P s) : P (releaseTarget k s) := h.cancelTarget_kept (h.idleTarget_kept hs)

theorem cycleExpires_kept {k : Target} (hs : P s) : P (cycleExpires k s) :=
  ite_kept (h.sendTest (h.setCycle_kept hs)) hs

theorem holdOffExpires_kept {k : Target} (hs : P s) : P (holdOffExpires k s) := by
  have tested := h.sendTest (h.setHoldOff_kept (k := k) (x := none) hs)
  unfold holdOffExpires
  refine ite_kept ?_ hs
  cases k with
  | unit u => exact tested
  | feeder f => exact ite_kept (h.post_kept tested) tested

/-! ## Solar Curtailment -/

theorem curtailTimerExpires_kept (hs : P s) : P (curtailTimerExpires s) :=
  ite_kept (h.curtailEval (h.curtailTimer hs)) hs

theorem limitOrderEnd_kept {u : Fin 16} {v : Int} {e : OrderEnd} (hs : P s) : P (limitOrderEnd u v e s) :=
  ite_kept (h.modPv_kept (fun _ => rfl) hs) hs

theorem withdrawLimits_kept {u : Fin 16} (hs : P s) : P (withdrawLimits u s) := ite_kept hs (h.withdraw_kept hs)

theorem pvMode_kept {u : Fin 16} (hs : P s) : P (pvMode u s) :=
  ite_kept (h.withdrawLimits_kept (h.modPv_kept (fun _ => rfl) hs)) (ite_kept (h.modPv_kept (fun _ => rfl) hs) hs)

/-! ## The Crank Arbiter -/

theorem grantTo_kept {r : CrankRequest} (hs : P s) : P (grantTo r s) := h.post_kept (h.log (h.modArbiter_kept hs))

theorem nextCrank_kept (hs : P s) : P (nextCrank s) := by
  unfold nextCrank
  split
  · exact h.grantTo_kept (h.modArbiter_kept hs)
  · split
    · exact h.grantTo_kept (h.modArbiter_kept hs)
    · exact h.modArbiter_kept hs

theorem releaseGrant_kept {p : Fin 16} (hs : P s) : P (releaseGrant p s) :=
  have released := h.modArbiter_kept hs
  ite_kept (h.nextCrank_kept released) released

theorem requestCrank_kept {r : CrankRequest} (hs : P s) : P (requestCrank r s) := by
  have free := ite_kept (c := s.arbiter.holds r.unit = true) (h.releaseGrant_kept (p := s.units[r.unit].startProfile) hs) hs
  exact ite_kept free (ite_kept (h.grantTo_kept free) (h.modArbiter_kept free))

theorem crankOutcome_kept {u p : Fin 16} {b : Bool} (hs : P s) : P (crankOutcome u p b s) := by
  unfold crankOutcome
  split
  · exact ite_kept (h.releaseGrant_kept hs) hs
  · exact hs

theorem withdrawCrank_kept {c : CauseClass → Bool} {u : Fin 16} (hs : P s) : P (withdrawCrank c u s) :=
  ite_kept (ite_kept hs (h.releaseGrant_kept hs)) (h.modArbiter_kept hs)

theorem operatorWithdraw_kept {u : Fin 16} (hs : P s) : P (operatorWithdraw u s) := h.withdrawCrank_kept hs

theorem operatorGrant_kept {r : CrankRequest} (hs : P s) : P (operatorGrant r s) := by
  unfold operatorGrant
  refine ite_kept hs ?_
  simp only
  split <;> rename_i e
  · exact h.log (h.releaseGrant_kept (h.submitRoutine_out_kept e hs))
  · exact h.submitRoutine_out_kept e hs

theorem pressureReady_kept {k : Nat} (hs : P s) : P (pressureReady k s) := ite_kept (h.nextCrank_kept hs) hs

theorem airHoldOffExpires_kept (hs : P s) : P (airHoldOffExpires s) := ite_kept (h.nextCrank_kept hs) hs

/-! ## Diesel Dispatch, apart from the changes of state -/

theorem startStateTimer_kept {u : Fin 16} {n : Nat} (hs : P s) : P (startStateTimer u n s) :=
  have started := h.modGenset_kept (u := u) (f := fun g => { g with timer := some n }) hs
  ite_kept (h.post_kept started) started

theorem submitDispatch_kept {k : OrderKind} {u : Fin 16} (hs : P s) (hk : k ≠ .limit := by nofun) : P (submitDispatch k u s) := by
  unfold submitDispatch
  split <;> rename_i e <;> exact h.modGenset_kept (h.submitRoutine_out_kept e hs hk)

theorem dispatchWithdraw_kept {k : Option OrderKind} {u : Fin 16} (hs : P s) : P (dispatchWithdraw k u s) :=
  ite_kept (h.modGenset_kept (h.withdraw_kept hs)) (h.withdraw_kept hs)

theorem logLockout_kept {u : Fin 16} {c : LockoutCause} (hs : P s) : P (logLockout u c s) := by
  unfold logLockout; split <;> exact h.log hs

theorem startStopTimer_kept {c : Fin 16} (hs : P s) : P (startStopTimer c s) :=
  ite_kept (h.post_kept (h.setStopTimer_kept hs)) (h.setStopTimer_kept hs)

theorem stopTest_kept (hs : P s) : P (stopTest s) := by
  unfold stopTest
  split
  · exact h.setStopTimer_kept hs
  · exact h.startStopTimer_kept hs
  · exact ite_kept hs (h.startStopTimer_kept hs)

theorem clearOutstanding_kept {k : OrderKind} {u : Fin 16} (hs : P s) : P (clearOutstanding k u s) :=
  h.modGenset_kept hs

theorem settleOwed_kept {u : Fin 16} (hs : P s) : P (settleOwed u s) := by
  unfold settleOwed
  split
  · rename_i kind _
    split_ifs with calls
    · exact h.submitDispatch_kept hs (by rintro rfl; simp [stateFor] at calls)
    · exact hs
  · exact hs

theorem settleUnloaded_kept {u : Fin 16} (hs : P s) : P (settleUnloaded u s) := ite_kept (h.submitDispatch_kept hs) hs

/-! ## Shedding and Restoration -/

theorem setStack_kept {q : List StackEntry} (hs : P s) : P (setStack q s) := h.post_kept (h.modShed_kept hs)

theorem removeEntry_kept {f : Fin 32} (hs : P s) : P (removeEntry f s) :=
  have out := h.setStack_kept (h.modFeeder_kept hs)
  ite_kept (h.post_kept (h.modShed_kept out)) out

theorem takeFeeder_kept {f : Fin 32} {c : ShedCause} {n : Nat} (hs : P s) : P (takeFeeder f c n s) :=
  h.log (h.submitProtective rfl rfl (h.modFeeder_kept (h.setStack_kept (ite_kept (h.removeEntry_kept hs) hs))))

theorem walkEntry_kept {c : ShedCause} {p : ShedEntry → Bool} {i : Fin 32} {w : Walk} (hw : P w.state) :
    P (walkEntry c p i w).state := by
  unfold walkEntry
  simp only
  split
  · exact hw
  · split_ifs <;> [exact hw; exact hw; exact h.takeFeeder_kept hw; exact hw]

theorem walkOver_kept {c : ShedCause} {p : ShedEntry → Bool} {target : Option Int} {l : List (Fin 32)} {w : Walk}
    (hw : P w.state) : P (walkOver c p target l w).state := by
  induction l generalizing w with
  | nil => exact hw
  | cons i rest ih =>
    unfold walkOver
    simp only
    split <;> [exact h.walkEntry_kept hw; exact ih (h.walkEntry_kept hw)]

theorem setStageTimer_kept {i : Fin 8} {t : Timer} (hs : P s) : P (s.setStageTimer i t) := h.modShed_kept hs

theorem stageTrip_kept {i : Fin 8} (hs : P s) : P (stageTrip i s) :=
  h.post_kept (h.walkOver_kept (h.log (h.modShed_kept (h.setStageTimer_kept hs))))

theorem stageTimerExpires_kept {i : Fin 8} (hs : P s) : P (stageTimerExpires i s) := ite_kept (h.stageTrip_kept hs) hs

theorem stageSample_kept {b : Bank} {f : Nat} {i : Fin 8} (hs : P s) : P (stageSample b f i s) := by
  unfold stageSample
  refine ite_kept hs ?_
  split
  · exact ite_kept (ite_kept (h.stageTrip_kept hs) (h.setStageTimer_kept hs)) hs
  · exact ite_kept (h.setStageTimer_kept hs) hs

theorem deficitWalk_kept {n : Nat} {m : List Nat} {t : Int} (hs : P s) : P (deficitWalk n m t s) := by
  unfold deficitWalk
  exact h.modShed_kept (h.walkOver_kept hs)

theorem deficitTest_kept {b : Bank} {f : Nat} (hs : P s) : P (deficitTest b f s) :=
  ite_kept (h.post_kept (h.deficitWalk_kept (h.log (h.modShed_kept hs)))) hs

theorem makeUpWalk_kept {n : Nat} (hs : P s) : P (makeUpWalk n s) := by
  unfold makeUpWalk
  split
  · exact h.deficitWalk_kept (h.log hs)
  · exact hs

theorem shedTripEnd_kept {f : Fin 32} {e : OrderEnd} (hs : P s) : P (shedTripEnd f e s) := by
  unfold shedTripEnd
  split
  · exact hs
  · have told := fun {c : Prop} [Decidable c] {g k x v d} => ite_kept (c := c) (h.removeEntry_kept (f := f) hs)
      (h.log (k := k) (x := x) (v := v) (d := d) (h.modFeeder_kept (i := f) (f := g) (h.removeEntry_kept (f := f) hs)))
    exact ite_kept hs (ite_kept (h.setStack_kept hs) (ite_kept (h.makeUpWalk_kept told) told))

theorem restoreTest_kept (hs : P s) : P (restoreTest s) := by
  unfold restoreTest
  refine ite_kept hs ?_
  split
  · exact h.postRestoreWait_kept hs
  · exact h.postRestoreWait_kept hs
  · split <;> rename_i e
    · exact h.postRestoreWait_kept (h.submitRoutine_out_kept e hs)
    · exact h.postRestoreWait_kept (h.modShed_kept (h.submitRoutine_out_kept e hs))

theorem grantPermission_kept (hs : P s) : P (grantPermission s) := h.post_kept (h.modShed_kept hs)

theorem losePermission_kept (hs : P s) : P (losePermission s) := h.postRestoreWait_kept (h.modShed_kept hs)

theorem withdrawCloses_kept (hs : P s) : P (withdrawCloses s) := h.cancelWhere hs

theorem cancelRestoration_kept (hs : P s) : P (cancelRestoration s) :=
  h.withdrawCloses_kept (ite_kept (h.post_kept (h.modShed_kept hs)) hs)

theorem restoreDelaySample_kept {b : Bank} {f : Nat} (hs : P s) : P (restoreDelaySample b f s) :=
  ite_kept (h.cancelRestoration_kept (h.losePermission_kept hs))
    (ite_kept hs (ite_kept (h.grantPermission_kept hs) (h.modShed_kept hs)))

theorem restoreDelayExpires_kept (hs : P s) : P (restoreDelayExpires s) := ite_kept (h.grantPermission_kept hs) hs

theorem restoreCloseEnd_kept {f : Fin 32} {e : OrderEnd} (hs : P s) : P (restoreCloseEnd f e s) := by
  unfold restoreCloseEnd
  refine ite_kept hs ?_
  have ended := h.modShed_kept (f := fun x => { x with underRestore := none }) hs
  have failed := fun {v} => h.post_kept (l := [.restoreTest]) (h.recompute_kept
    (h.log (k := .feederFailed) (x := feederSubject f) (v := v) (d := detailCloseFailed)
      (h.modFeeder_kept (i := f) (f := fun r => { r with failed := true, mode := .manual }) (h.removeEntry_kept (f := f) ended))))
  cases e with
  | confirmed => exact h.log (h.removeEntry_kept (h.modShed_kept ended))
  | timedOut => exact failed
  | inhibited => exact failed
  | refused => exact failed
  | cancelled => exact h.post_kept ended
  | dropped => exact h.post_kept ended
  | superseded => exact h.post_kept ended

theorem runStart_kept (hs : P s) : P (runStart s) := h.postRestoreWait_kept (h.modShed_kept (h.withdrawCloses_kept hs))

theorem runEnd_kept (hs : P s) : P (runEnd s) := h.restoreTest_kept (h.modShed_kept hs)

theorem startStepInterval_kept {f : Fin 32} {o : BarrierOwner} {n : Nat} (hs : P s) : P (startStepInterval f o n s) :=
  have started := h.modShed_kept hs
  ite_kept (h.post_kept started) started

theorem feederReport_kept {f : Fin 32} (hs : P s) : P (feederReport f s) := by
  unfold feederReport
  split
  · exact ite_kept hs (ite_kept (h.modShed_kept hs) (h.startStepInterval_kept hs))
  · exact hs

theorem stepIntervalExpires_kept (hs : P s) : P (stepIntervalExpires s) := by
  unfold stepIntervalExpires
  split
  · simp only
    split
    · exact h.restoreTest_kept (h.modShed_kept hs)
    · exact h.post_kept (h.modShed_kept hs)
  · exact hs

theorem clearLatches_kept {b : Bank} {f : Nat} (hs : P s) : P (clearLatches b f s) :=
  ite_kept (h.modShed_kept (h.modShed_kept hs)) (h.modShed_kept hs)

theorem shedSample_kept {f : Nat} (hs : P s) : P (shedSample f s) :=
  have tested := h.deficitTest_kept (foldl_kept (fun _ _ ht => h.stageSample_kept ht) (List.finRange 8)
    (h.restoreDelaySample_kept (h.clearLatches_kept hs)))
  ite_kept (h.restoreTest_kept tested) tested

theorem shedFreqChange_kept (hs : P s) : P (shedFreqChange s) := ite_kept hs (h.losePermission_kept (h.modShed_kept hs))

theorem feederMode_kept {f : Fin 32} (hs : P s) : P (feederMode f s) := by
  unfold feederMode
  split
  · exact h.modFeeder_kept hs
  · exact h.withdraw_kept (ite_kept (h.removeEntry_kept hs) hs)

theorem feederRewritten_kept {f : Fin 32} {b : Bool} (hs : P s) : P (feederRewritten f b s) :=
  have off := ite_kept (h.removeEntry_kept hs) hs
  ite_kept (h.modFeeder_kept off) off

theorem restartStage_kept {b : Bank} {i : Fin 8} (hs : P s) : P (restartStage b i s) := by
  unfold restartStage
  split
  · exact hs
  · exact ite_kept (h.setStageTimer_kept hs) (ite_kept (h.post_kept (h.setStageTimer_kept hs)) (h.setStageTimer_kept hs))

theorem restartRestoreDelay_kept {b : Bank} (hs : P s) : P (restartRestoreDelay b s) := by
  unfold restartRestoreDelay
  split
  · exact hs
  · exact ite_kept (h.post_kept (h.modShed_kept hs)) (h.modShed_kept hs)

theorem shedBankSwitch_kept (hs : P s) : P (shedBankSwitch s) := by
  have delayed := h.restartRestoreDelay_kept (b := s.bank)
    (foldl_kept (f := fun t i => restartStage s.bank i t) (fun _ _ ht => h.restartStage_kept ht) (List.finRange 8) hs)
  unfold shedBankSwitch
  simp only
  split
  · exact h.startStepInterval_kept delayed
  · exact delayed

/-! ## Setting Banks -/

theorem dispatchBankSwitch_kept (hs : P s) : P (dispatchBankSwitch s) := by
  unfold dispatchBankSwitch
  simp only
  split
  · exact h.startStopTimer_kept (h.dispatch hs)
  · exact h.dispatch hs

theorem deadBusBankSwitch_kept (hs : P s) : P (deadBusBankSwitch s) := by
  unfold deadBusBankSwitch
  split
  · exact hs
  · exact ite_kept (h.post_kept (h.seq hs)) (h.seq hs)

theorem bankSwitched_kept (hs : P s) : P (bankSwitched s) :=
  h.sendTest (h.deadBusBankSwitch_kept (h.curtailTimer (h.dispatchBankSwitch_kept (h.shedBankSwitch_kept
    (h.recompute_kept hs)))))

theorem selectBank_kept {b : Fin 4} {c : SwitchCause} (hs : P s) : P (selectBank b c s) :=
  ite_kept hs (h.bankSwitched_kept (h.log (h.activeBank hs)))

/-! ## The Sequencer, apart from the ends of its steps -/

theorem dropBarrier_kept (hs : P s) : P (dropBarrier s) := h.modShed_kept hs

theorem handRunEnd_kept (hs : P s) : P (handRunEnd s) := h.post_kept hs

theorem pushLeftOpen_kept {f : Fin 32} (hs : P s) : P (pushLeftOpen f s) :=
  ite_kept hs (h.log (h.setStack_kept (h.modFeeder_kept hs)))

theorem completeRun_kept (hs : P s) : P (completeRun s) :=
  h.handRunEnd_kept (h.log (h.dropBarrier_kept (h.feeders
    (foldl_kept (fun _ _ ht => h.pushLeftOpen_kept ht) (List.finRange 32) (h.modSeq_kept hs)))))

theorem closeStep_kept {e : StepEnd} (hs : P s) : P (closeStep e s) :=
  h.log (h.dropBarrier_kept (h.cancelWhere (h.modSeq_kept hs)))

theorem startRun_kept {c : RunCause} (hs : P s) : P (startRun c s) :=
  h.post_kept (h.setStack_kept (h.feeders (h.log (h.modSeq_kept hs))))

theorem declareBlackout_kept (hs : P s) : P (declareBlackout s) :=
  have logged := h.log (h.modSeq_kept hs)
  ite_kept (h.startRun_kept logged) logged

theorem deadBusTest_kept {b : Bool} (hs : P s) : P (deadBusTest b s) :=
  have cleared := ite_kept (h.modSeq_kept hs) hs
  ite_kept (h.modSeq_kept cleared)
    (ite_kept cleared (ite_kept (h.declareBlackout_kept cleared) (h.modSeq_kept cleared)))

theorem deadBusExpires_kept (hs : P s) : P (deadBusExpires s) := ite_kept (h.declareBlackout_kept hs) hs

theorem setArmed_kept {b : Bool} (hs : P s) : P (setArmed b s) := h.modSeq_kept hs

/-! ## Diesel Dispatch -/

theorem changeState_kept {u : Fin 16} {g : GensetState} (hs : P s) : P (changeState u g s) := by
  have summed := h.recompute_kept (h.modGenset_kept (u := u)
    (f := fun x => { x with state := g, timer := none, want := x.want && !(g = .online || g = .lockedOut) }) hs)
  exact h.post_kept (ite_kept (h.chooseSource_kept summed) summed)

theorem lockoutReady_kept {c : LockoutCause} {u : Fin 16} (hs : P s) : P (lockoutReady c u s) := by
  unfold lockoutReady
  exact h.modGenset_kept (h.logLockout_kept (h.withdraw_kept (h.withdraw_kept (h.withdrawCrank_kept
    (h.dispatchWithdraw_kept hs)))))


theorem toClosing_kept {u : Fin 16} (hs : P s) : P (toClosing u s) := h.submitDispatch_kept (h.changeState_kept hs)

theorem toCooldown_kept {u : Fin 16} (hs : P s) : P (toCooldown u s) := h.startStateTimer_kept (h.changeState_kept hs)

theorem toDerived_kept {b : Bool} {u : Fin 16} (hs : P s) : P (toDerived b u s) := by
  unfold toDerived
  split
  · exact h.toCooldown_kept hs
  · exact ite_kept (h.log (h.changeState_kept hs)) (h.changeState_kept hs)
  · exact h.changeState_kept hs

theorem toUnavailable_kept {u : Fin 16} (hs : P s) : P (toUnavailable u s) :=
  h.changeState_kept (h.modGenset_kept (h.withdrawCrank_kept (h.dispatchWithdraw_kept hs)))

theorem lockOut_kept {c : LockoutCause} {u : Fin 16} (hs : P s) : P (lockOut c u s) :=
  h.changeState_kept (h.lockoutReady_kept hs)

theorem toStartQueued_kept {u : Fin 16} (hs : P s) : P (toStartQueued u s) := by
  have logged := fun {v d} => h.log (k := .startRequest) (x := unitSubject u) (v := v) (d := d)
    (h.changeState_kept (u := u) (g := .startQueued) hs)
  unfold toStartQueued
  simp only
  split <;> [exact h.post_kept logged; exact logged]

theorem startFrom_kept {c : StartCause} {u : Fin 16} (hs : P s) : P (startFrom c u s) := by
  unfold startFrom
  split
  · exact h.toClosing_kept (h.modGenset_kept hs)
  · exact h.toStartQueued_kept (h.modGenset_kept hs)
  · exact hs

theorem tripUnit_kept {u : Fin 16} (hs : P s) : P (tripUnit u s) := h.lockOut_kept (h.modGenset_kept hs)

theorem reportInState_kept {u : Fin 16} (hs : P s) : P (reportInState u s) := by
  unfold reportInState
  refine ite_kept (h.tripUnit_kept hs) ?_
  have failed := h.lockOut_kept (u := u) (c := .startFail) hs
  split
  · exact h.lockOut_kept hs
  iterate 4 exact failed
  · exact h.log (h.changeState_kept hs)
  · exact h.toDerived_kept hs
  · exact hs

theorem gensetReport_kept {u : Fin 16} (hs : P s) : P (gensetReport u s) := by
  have free := ite_kept (c := (s.units[u]).isLocal = true) (h.operatorWithdraw_kept (u := u) hs) hs
  unfold gensetReport
  refine ite_kept hs ?_
  simp only
  split
  · exact ite_kept (h.toUnavailable_kept free) (h.toDerived_kept free)
  · exact ite_kept free (h.toDerived_kept free)
  · exact free
  · exact ite_kept (h.toUnavailable_kept free) (h.reportInState_kept free)

theorem gensetMode_kept {u : Fin 16} (hs : P s) : P (gensetMode u s) := by
  unfold gensetMode
  simp only
  split
  · exact hs
  · exact ite_kept hs (h.toDerived_kept hs)
  · exact ite_kept (h.toUnavailable_kept hs) hs

theorem clearLockout_kept {u : Fin 16} (hs : P s) : P (clearLockout u s) :=
  have cleared := h.log (h.modGenset_kept (u := u) (f := fun g => { g with lockout := .absent }) hs)
  ite_kept (h.toUnavailable_kept cleared) (h.toDerived_kept cleared)

theorem takeGrant_kept {u : Fin 16} (hs : P s) : P (takeGrant u s) :=
  ite_kept (h.submitDispatch_kept (h.changeState_kept (h.modGenset_kept hs))) hs

theorem crankEnds_kept {u : Fin 16} {e : OrderEnd} (hs : P s) : P (crankEnds u e s) :=
  ite_kept (ite_kept (h.toCooldown_kept hs) (h.changeState_kept hs))
    (ite_kept (h.startStateTimer_kept (h.changeState_kept hs))
      (ite_kept (h.startStateTimer_kept (h.changeState_kept hs)) (h.lockOut_kept hs)))

theorem closeEnds_kept {u : Fin 16} {e : OrderEnd} (hs : P s) : P (closeEnds u e s) :=
  ite_kept (h.log (h.changeState_kept (h.modGenset_kept hs))) (h.lockOut_kept hs)

theorem stopTimerExpires_kept (hs : P s) : P (stopTimerExpires s) := by
  unfold stopTimerExpires
  split
  · exact ite_kept (ite_kept (h.submitDispatch_kept (h.changeState_kept (h.setStopTimer_kept hs))) (h.setStopTimer_kept hs)) hs
  · exact hs

theorem unloadEnds_kept {u : Fin 16} {e : OrderEnd} (hs : P s) : P (unloadEnds u e s) :=
  ite_kept (h.submitDispatch_kept (h.changeState_kept hs)) (h.log (h.changeState_kept hs))

theorem openEnds_kept {u : Fin 16} {e : OrderEnd} (hs : P s) : P (openEnds u e s) :=
  ite_kept (h.toCooldown_kept hs) (h.lockOut_kept hs)

theorem stopEnds_kept {u : Fin 16} {e : OrderEnd} (hs : P s) : P (stopEnds u e s) :=
  ite_kept (h.log (h.changeState_kept hs)) (h.lockOut_kept hs)

theorem stateTimerExpires_kept {g : GensetState} {u : Fin 16} (hs : P s) : P (stateTimerExpires g u s) := by
  unfold stateTimerExpires
  refine ite_kept ?_ hs
  split
  · exact h.toClosing_kept hs
  · exact h.toStartQueued_kept hs
  · exact h.submitDispatch_kept (h.changeState_kept hs)
  · exact hs

theorem dispatchOrderEnd_kept {u : Fin 16} {k : OrderKind} {e : OrderEnd} {own : Bool} (hs : P s) :
    P (dispatchOrderEnd u k e own s) := by
  have out := h.clearOutstanding_kept (k := k) (u := u) hs
  unfold dispatchOrderEnd
  refine ite_kept hs (ite_kept out ?_)
  split
  · exact h.modGenset_kept out
  · exact h.modGenset_kept out
  · exact h.crankEnds_kept out
  · exact h.closeEnds_kept out
  · exact h.unloadEnds_kept out
  · exact h.openEnds_kept out
  · exact h.stopEnds_kept out
  · exact out

theorem recallUnit_kept {u : Fin 16} (hs : P s) : P (recallUnit u s) :=
  h.changeState_kept (h.submitDispatch_kept (h.dispatchWithdraw_kept hs))

theorem dispatchEval_kept (hs : P s) : P (dispatchEval s) := by
  have settled : P (forUnits settleUnloaded (forUnits settleOwed s)) :=
    forUnits_kept (fun _ _ ht => h.settleUnloaded_kept ht) (forUnits_kept (fun _ _ ht => h.settleOwed_kept ht) hs)
  exact ite_kept settled (foldl_kept (fun _ _ ht => h.startFrom_kept ht) _
    (forUnits_kept (fun _ _ ht => ite_kept (h.recallUnit_kept ht) ht) settled))

theorem dispatchTimerExpires_kept (hs : P s) : P (dispatchTimerExpires s) :=
  ite_kept (h.dispatchEval_kept (h.dispatch hs)) hs

theorem wantTest_kept {u : Fin 16} (hs : P s) : P (wantTest u s) := ite_kept (h.startFrom_kept hs) hs

theorem startAsk_kept {u : Fin 16} (hs : P s) : P (startAsk u s) := by
  have wanted := h.modGenset_kept (u := u) (f := fun g => { g with want := true }) hs
  unfold startAsk
  simp only
  split
  · exact h.post_kept hs
  · exact h.post_kept hs
  · exact h.post_kept (h.recallUnit_kept hs)
  · exact h.startFrom_kept wanted
  · exact h.startFrom_kept wanted
  · exact wanted

theorem withdrawWant_kept {u : Fin 16} (hs : P s) : P (withdrawWant u s) := by
  have clear := h.modGenset_kept (u := u) (f := fun g => { g with want := false }) hs
  unfold withdrawWant
  refine ite_kept hs (ite_kept clear ?_)
  simp only
  split
  · exact h.changeState_kept (h.modGenset_kept (h.withdrawCrank_kept clear))
  · exact h.changeState_kept (h.modGenset_kept (h.withdrawCrank_kept clear))
  · exact ite_kept (h.modGenset_kept clear) (h.changeState_kept (h.modGenset_kept
      (h.withdrawCrank_kept (h.dispatchWithdraw_kept clear))))
  · exact clear

/-! ## The Sequencer -/

theorem abortRun_kept {c : AbortCause} (hs : P s) : P (abortRun c s) :=
  h.handRunEnd_kept (h.log (h.dropBarrier_kept (h.recompute_kept (h.feeders
    (forUnits_kept (fun _ _ ht => h.withdrawWant_kept ht) (h.cancelWhere (h.modSeq_kept hs)))))))

theorem pushRecord_kept {c : SuspendCause} (hs : P s) : P (pushRecord c s) :=
  ite_kept (h.abortRun_kept hs) (h.log (h.modSeq_kept hs))

theorem stepFailed_kept (hs : P s) : P (stepFailed s) := by
  unfold stepFailed
  split
  · exact h.abortRun_kept hs
  · exact h.postFirst_kept hs
  · exact h.pushRecord_kept hs

theorem endStep_kept {e : StepEnd} (hs : P s) : P (endStep e s) :=
  ite_kept (h.postFirst_kept (h.closeStep_kept hs)) (h.stepFailed_kept (h.closeStep_kept hs))

theorem stepBecomes_kept {e : StepEnd} (hs : P s) : P (stepBecomes e s) := by
  unfold stepBecomes
  refine ite_kept hs ?_
  split
  · exact h.endStep_kept hs
  · exact h.endStep_kept hs
  · exact ite_kept hs (h.modSeq_kept hs)
  · exact hs

theorem continueStep_kept {t : Timer} (hs : P s) : P (continueStep t s) := by
  have out := h.modSeq_kept (f := fun q => { q with state := s.stepRec.kind.runState, stepTimeout := t }) hs
  unfold continueStep
  refine ite_kept (h.postFirst_kept out) ?_
  split
  · exact h.endStep_kept out
  · split
    · exact ite_kept (h.endStep_kept out) out
    · exact ite_kept (h.endStep_kept out) out
    · exact out

theorem popRecords_kept {n : Nat} (hs : P s) : P (popRecords n s) := by
  induction n generalizing s with
  | zero => exact hs
  | succ n ih =>
    unfold popRecords
    split
    · exact hs
    · have selected := fun {f b k x v d} => h.selectBank_kept (b := b) (c := .pop)
        (h.log (k := k) (x := x) (v := v) (d := d) (h.modSeq_kept (f := f) hs))
      simp only
      split
      · exact h.continueStep_kept selected
      · exact ite_kept (ih selected) selected

theorem popTop_kept (hs : P s) : P (popTop s) := h.popRecords_kept hs

theorem popProtection_kept (hs : P s) : P (popProtection s) := by
  unfold popProtection
  split
  · exact ite_kept (h.popTop_kept hs) hs
  · exact hs

theorem suspendRun_kept {c : SuspendCause} (hs : P s) : P (suspendRun c s) :=
  ite_kept (ite_kept (h.popProtection_kept (h.pushRecord_kept hs)) (h.pushRecord_kept hs)) hs

theorem submitStep_kept {l : List Order} (hl : ∀ o ∈ l, o.kind ≠ .limit) (hs : P s) : P (submitStep l s) := by
  induction l generalizing s with
  | nil => exact hs
  | cons o rest ih =>
    have out := fun {x : State} {a : SubmitAnswer} (e : Machine.submitRoutine { o with step := s.seq.serial } s = (x, a)) =>
      h.submitRoutine_out_kept e hs (hl o List.mem_cons_self)
    unfold submitStep
    split <;> rename_i e
    · exact h.stepBecomes_kept (out e)
    · exact ih (fun q hq => hl q (List.mem_cons_of_mem _ hq)) (h.modSeq_kept (out e))

theorem beginOpenFeeders_kept (hs : P s) : P (beginOpenFeeders s) := by
  unfold beginOpenFeeders
  split
  · exact h.stepBecomes_kept hs
  · exact h.submitStep_kept (List.forall_mem_map.mpr fun _ _ => nofun) hs

theorem beginStartGenset_kept {n : Nat} (hs : P s) : P (beginStartGenset n s) := by
  unfold beginStartGenset
  split
  · exact ite_kept (h.post_kept hs) (h.stepBecomes_kept hs)
  · exact h.stepBecomes_kept hs

theorem skipOwner_kept {f : Fin 32} (hs : P s) : P (skipOwner f s) := h.stepBecomes_kept (h.log hs)

theorem beginCloseFeeder_kept {n : Nat} (hs : P s) : P (beginCloseFeeder n s) := by
  unfold beginCloseFeeder
  split
  · exact ite_kept (h.skipOwner_kept hs) (h.submitStep_kept (List.forall_mem_singleton.mpr nofun) hs)
  · exact hs

theorem beginWaitTime_kept {n : Nat} (hs : P s) : P (beginWaitTime n s) :=
  ite_kept (h.stepBecomes_kept hs) (h.modSeq_kept hs)

theorem beginReleasePv_kept (hs : P s) : P (beginReleasePv s) :=
  h.stepBecomes_kept (ite_kept hs (h.post_kept (h.modSeq_kept hs)))

theorem actStep_kept {r : StepRec} (hs : P s) : P (actStep r s) := by
  unfold actStep
  split
  · exact h.beginOpenFeeders_kept hs
  · exact h.beginStartGenset_kept hs
  · exact h.beginCloseFeeder_kept hs
  · exact h.beginWaitTime_kept hs
  · exact ite_kept (h.stepBecomes_kept hs) hs
  · exact h.stepBecomes_kept hs
  · split <;> [exact h.stepBecomes_kept (h.selectBank_kept hs); exact hs]
  · exact h.beginReleasePv_kept hs
  · exact h.completeRun_kept hs

theorem beginStep_kept {n : Nat} (hs : P s) : P (beginStep n s) := by
  unfold beginStep
  refine ite_kept hs ?_
  split
  · exact h.completeRun_kept (h.modSeq_kept hs)
  · exact ite_kept (h.modSeq_kept hs) (h.actStep_kept (h.modSeq_kept hs))

theorem openFeedersTold_kept {f : Fin 32} {e : OrderEnd} (hs : P s) : P (openFeedersTold f e s) :=
  ite_kept (h.stepBecomes_kept hs) (ite_kept (h.stepBecomes_kept hs) hs)

theorem closeFeederTold_kept {f : Fin 32} {e : OrderEnd} (hs : P s) : P (closeFeederTold f e s) := by
  unfold closeFeederTold
  split
  · exact h.modShed_kept hs
  · exact ite_kept (h.skipOwner_kept hs) (h.stepBecomes_kept hs)
  · exact ite_kept (h.skipOwner_kept hs) (h.stepBecomes_kept hs)
  · exact h.stepBecomes_kept hs

theorem seqOrderEnd_kept {o : Order} {e : OrderEnd} (hs : P s) : P (seqOrderEnd o e s) := by
  unfold seqOrderEnd
  split
  · exact hs
  · refine ite_kept hs ?_
    simp only
    split
    · exact h.openFeedersTold_kept (h.modSeq_kept hs)
    · exact h.closeFeederTold_kept (h.modSeq_kept hs)
    · exact h.modSeq_kept hs

theorem startAnswer_kept {u : Fin 16} {b : Bool} (hs : P s) : P (startAnswer u b s) := ite_kept (h.stepBecomes_kept hs) hs

theorem barrierEnd_kept {f : Fin 32} (hs : P s) : P (barrierEnd f s) := ite_kept (h.stepBecomes_kept hs) hs

theorem waitFreqTest_kept (hs : P s) : P (waitFreqTest s) := ite_kept (h.stepBecomes_kept hs) hs

theorem waitTimeExpires_kept (hs : P s) : P (waitTimeExpires s) := ite_kept (h.stepBecomes_kept hs) hs

theorem stepTimeoutExpires_kept (hs : P s) : P (stepTimeoutExpires s) := ite_kept (h.stepBecomes_kept hs) hs

/-! ## Hand-overs -/

theorem ownerTold_kept {o : Order} {e : OrderEnd} {own : Bool} (hs : P s) : P (ownerTold o e own s) := by
  unfold ownerTold
  split
  · exact h.shedTripEnd_kept hs
  · exact h.shedTripEnd_kept hs
  · exact h.restoreCloseEnd_kept hs
  · exact h.dispatchOrderEnd_kept hs
  · exact h.limitOrderEnd_kept hs
  · exact h.seqOrderEnd_kept hs
  · exact hs

/-- A hand-over keeps what its block's updates keep. -/
theorem handle_kept (x : Handover) (hs : P s) : P (handle x s) := by
  cases x with
  | stopTest => exact h.stopTest_kept hs
  | restoreTest => exact h.restoreTest_kept hs
  | freqChange => exact h.post_kept (h.waitFreqTest_kept (h.shedFreqChange_kept hs))
  | sample f => exact h.post_kept (h.shedSample_kept (h.formRocof_kept hs))
  | sampleJobs f => exact h.post_kept (h.waitFreqTest_kept hs)
  | feederReport f => exact h.feederReport_kept hs
  | pressure k => exact h.pressureReady_kept hs
  | deadBusTest b => exact h.deadBusTest_kept hs
  | taggedReport t g r a => exact h.matchReport hs
  | inhibitChange t => exact h.inhibitChange hs
  | setpointCopy d v => exact h.setpointCopy hs
  | sendTest => exact h.sendTest hs
  | gensetReport u => exact h.gensetReport_kept hs
  | orderEnd o e own => exact h.ownerTold_kept hs
  | crankOutcome u p b => exact h.crankOutcome_kept hs
  | crankRequest r => exact h.requestCrank_kept hs
  | grant u => exact h.takeGrant_kept hs
  | operatorGrant r => exact h.operatorGrant_kept hs
  | operatorWithdraw u => exact h.operatorWithdraw_kept hs
  | dispatchEval => exact h.dispatchEval_kept hs
  | curtailEval => exact h.curtailEval hs
  | wantTest u => exact h.wantTest_kept hs
  | stateTimerEnd u => exact h.stateTimerExpires_kept hs
  | stopTimerEnd => exact h.stopTimerExpires_kept hs
  | startAsk u => exact h.startAsk_kept hs
  | startAnswer u b => exact h.startAnswer_kept hs
  | shedTaken => exact h.suspendRun_kept hs
  | permissionGrant => exact h.popProtection_kept hs
  | barrierEnd f => exact h.barrierEnd_kept hs
  | stageEnd i => exact h.stageTimerExpires_kept hs
  | restoreDelayEnd => exact h.restoreDelayExpires_kept hs
  | stepIntervalEnd => exact h.stepIntervalExpires_kept hs
  | deadBusEnd => exact h.deadBusExpires_kept hs
  | feederRewritten f b => exact h.feederRewritten_kept hs
  | runStart => exact h.runStart_kept hs
  | runEnd => exact h.runEnd_kept hs
  | stepBegin n => exact h.beginStep_kept hs

/-- The whole cascade of a command keeps it. -/
theorem settle_kept (hs : P s) : P (settle s) :=
  settle_keeps (fun _ => h.overrun) (fun _ => h.handovers) (fun x _ => h.handle_kept x) hs

theorem run_kept {event : State → State} (he : ∀ t, P t → P (event t)) {t : State} (e : run event s = .next t) (hs : P s) :
    P t := run_keeps (fun _ => h.overrun) (fun _ => h.handovers) (fun x _ => h.handle_kept x) he hs e

theorem runWhenUp_kept {event : State → State} (he : ∀ t, P t → P (event t)) {t : State} (e : runWhenUp event s = .next t)
    (hs : P s) : P t := h.run_kept (fun t ht => ite_kept (he t ht) ht) e hs

end KeptByOrderUnit

end Sys2Proof.Machine
end

section
/-!
SUPPORT. What the commands keep, for a property that looks at the Order Unit: Sample Intake, the Management Agent, the pins and a
millisecond, beside the hand-overs.
-/

namespace Sys2Proof.Machine

variable {P : State → Prop} {s t : State}

/-- The property survives what only a command itself does to the orders, to Station Settings and to the plants. -/
structure KeptByOrderCommands (P : State → Prop) : Prop extends KeptByOrderUnit P where
  coldStart : ∀ {s : State} {fsel : Bool} {sid : BitVec 4}, P s → P (State.coldStart fsel sid s.pending)
  warmReset : ∀ {s : State} {d : Nat} {m : StationId}, P s → P (warmReset d m s)
  tick : ∀ {s : State}, P s → P (tick s)
  operateRecord : ∀ {s : State} {k : Target} {x : Option OrderKind} {v : Int}, P s → P (operateRecord k x v s).state
  replaceUnit : ∀ {s : State} {u : Fin 16} {k : UnitKind} {o : Octets} {b : StationId}, P s → P (replaceUnit u k o b s)
  replaceSettings : ∀ {s : State} {x : Settings} {b : StationId}, x.valid = true → P s → P (replaceSettings x b s)
  changeIdentity : ∀ {s : State} {i : StationId} {x : BitVec 16}, i ≠ 0xFFFF → 0x0600 ≤ x.toNat → P s → P (changeIdentity i x s)

namespace KeptByOrderUnit

variable (h : KeptByOrderUnit P)
include h

/-! ## Sample Intake -/

theorem modSource_kept {i : Fin 64} {f : SourceEntry → SourceEntry} (hs : P s) : P (s.modSource i f) := h.still hs

theorem modPort_kept {p : Port} {f : PortState → PortState} (hs : P s) : P (s.modPort p f) := by cases p <;> exact h.still hs

theorem writeItems_kept {i : Fin 64} {l : List (Nat × Int)} (hs : P s) : P (writeItems i l s) := by
  unfold writeItems
  simp only
  split
  · split <;> [exact h.modUnit_kept (fun r => by unfold writeUnit; split <;> exact ⟨rfl, rfl⟩) hs; exact hs]
  · split <;> [exact h.modFeeder_kept hs; exact hs]
  · exact h.modSource_kept hs
  · exact h.modSource_kept hs
  · exact hs

theorem makeFresh_kept {i : Fin 64} {x : Timer} (hs : P s) : P (makeFresh i x s) := ite_kept (h.still hs) (h.still hs)

theorem recomputeFor_kept {r : Role} (hs : P s) : P (recomputeFor r s) := by
  unfold recomputeFor
  split <;> [exact h.recompute_kept hs; exact h.recompute_kept hs; exact hs]

theorem takeSample_kept {f : Option Nat} {x : BitVec 32} (hs : P s) : P (takeSample f x s) := by
  unfold takeSample
  split <;> [exact hs; exact h.still hs]

theorem acceptSample_kept {i : Fin 64} {r : SampleReport} (hs : P s) : P (acceptSample i r s) := by
  have fresh := h.makeFresh_kept (i := i) (x := some (timeOrSecond (s.sources[i]).staleLimit))
    (h.writeItems_kept (i := i) (l := r.items) hs)
  exact h.takeSample_kept (h.post_kept (h.recomputeFor_kept (ite_kept (h.chooseSource_kept fresh) fresh)))

theorem takeSampleReport_kept {r : SampleReport} (hs : P s) : P (takeSampleReport r s) := by
  unfold takeSampleReport
  split
  · exact hs
  · exact ite_kept (ite_kept (h.acceptSample_kept (h.modSource_kept hs)) (h.modSource_kept hs)) hs

theorem takeSetpoint_kept {x : Telegram} (hs : P s) : P (takeSetpoint x s) := by
  unfold takeSetpoint
  split
  · exact hs
  · exact ite_kept (h.post_kept (h.chooseSource_kept (h.makeFresh_kept (h.modSource_kept hs)))) hs

theorem staleExpires_kept {i : Fin 64} (hs : P s) : P (staleExpires i s) := by
  have stale : P ((s.modSource i fun e => { e with fresh := false, staleTimer := none }).log .stale (sourceSubject i)
    (s.sources[i]).eventValue detailNone) := h.still hs
  have chosen := h.chooseSource_kept (h.recomputeFor_kept (r := (s.sources[i]).role) stale)
  exact ite_kept hs (ite_kept (h.post_kept chosen) chosen)

theorem takePositionReport_kept {r : PositionReport} (hs : P s) : P (takePositionReport r s) := by
  unfold takePositionReport
  split
  · exact hs
  · rename_i u _
    have wrote := h.modUnit_kept (u := u) (f := writeUnitDevice r)
      (fun x => by unfold writeUnitDevice; simp only; split <;> exact ⟨rfl, rfl⟩) hs
    exact ite_kept (h.post_kept (ite_kept (h.recompute_kept wrote) wrote)) hs
  · exact ite_kept (h.post_kept (ite_kept (h.recompute_kept (h.modFeeder_kept hs)) (h.modFeeder_kept hs))) hs

/-! ## Pins and ports (R178, R179, R191, R192) -/

theorem phase_kept {x : Phase} (hs : P s) : P { s with phase := x } := h.still hs

theorem holdCold_kept (hs : P s) : P (holdCold s) := h.still hs

theorem readLink_kept {p : Port} {up : Bool} (hs : P s) : P (readLink p up s) :=
  ite_kept hs (ite_kept (h.log (h.modPort_kept hs)) (h.log (h.modPort_kept hs)))

theorem forward_kept {p : Port} {f : Frame} (hs : P s) : P (forward p f s) := h.modPort_kept hs

theorem malformed_kept {p : Port} {f : Frame} (hs : P s) : P (malformed p f s) := h.forward_kept (h.modPort_kept hs)

/-! ## The tables that hold no orders -/

theorem logWrite_kept {x : TableId} {i : Nat} {b : StationId} (hs : P s) : P (logWrite x i b s) := h.log hs

theorem withdrawOperator_kept {k : Target} {m : Mode} (hs : P s) : P (withdrawOperator k m s) :=
  ite_kept (h.withdraw_kept hs) hs

theorem dropGenset_kept {u : Fin 16} {old : UnitRec} {b : Bool} (hs : P s) : P (dropGenset u old b s) :=
  ite_kept hs (ite_kept (h.post_kept (h.withdrawCrank_kept hs)) (h.withdrawCrank_kept hs))

theorem plantQueue_kept {u : Fin 16} {old : UnitRec} (hs : P s) : P (plantQueue u old s) :=
  ite_kept hs (h.withdrawLimits_kept (ite_kept (h.lowerQueued hs) hs))

/-- R78, R186: a taken UNIT write, for a property that survives the new record. -/
theorem replaceUnit_kept {u : Fin 16} {k : UnitKind} {o : Octets} {b : StationId}
    (hs : P (s.modUnit u fun _ => unitAfterWrite k o s.units[u])) : P (replaceUnit u k o b s) := by
  have logged := h.logWrite_kept (x := .unit) (i := u.val) (b := b) hs
  let old := s.units[u]
  have released := ite_kept (c := (old.kind ≠ (unitAfterWrite k o old).kind || old.device ≠ (unitAfterWrite k o old).device ||
    k = .unused) = true) (h.releaseTarget_kept (k := .unit u) logged) logged
  have dropped := h.dropGenset_kept (u := u) (old := old) (b := decide (k = .genset)) released
  have freed : P (unitFreed u k o b s) := ite_kept (h.withdrawOperator_kept dropped) dropped
  have chosen := h.chooseSource_kept (h.recompute_kept freed)
  have queued := h.plantQueue_kept (u := u) (old := old) (ite_kept (c := k = .genset) (h.gensetMode_kept (u := u) chosen) chosen)
  rw [replaceUnit_eq]
  exact ite_kept (h.post_kept queued) queued

theorem replaceSource_kept {i : Fin 64} {e : SourceEntry} {b : StationId} (hs : P s) : P (replaceSource i e b s) := by
  have logged : P (logWrite .source i.val b (s.modSource i fun _ => e)) := h.still hs
  have chosen := h.chooseSource_kept (h.recompute_kept (ite_kept
    (c := ((s.sources[i]).fresh && decide ((s.sources[i]).role ≠ .gateway)) = true)
    (h.log (k := .stale) (x := sourceSubject i) (v := (s.sources[i]).eventValue) (d := detailNone) logged) logged))
  exact ite_kept (h.post_kept chosen) chosen

end KeptByOrderUnit

/-- A WRITE_ENTRY is the only request whose after-effect is an identity, and that lies within its range (R183). -/
theorem serve_after_inRange {r : Request} : (serve r s).after.InRange := by
  cases hk : ofCodeFromOne requestKindsFromOne r.kind with
  | none =>
    simp only [serve, hk]
    trivial
  | some k =>
    rw [serve_kind hk]
    by_cases write : k = .writeEntry
    · subst write
      simp only [serveBy, serveWriteEntry]
      split
      · trivial
      · split_ifs <;> [trivial; exact afterWrite_inRange]
    · exact (serveBy_writesNone write).2

namespace KeptByOrderCommands

variable (h : KeptByOrderCommands P)
include h

/-! ## The tables -/

theorem rewriteFeeder_kept {f : Fin 32} {b : Bool} (hs : P s) : P (rewriteFeeder f b s) :=
  h.cancelTarget_kept (h.post_kept (h.cancelWhere (h.idleTarget_kept hs)))

theorem replaceFeeder_kept {f : Fin 32} {used : Bool} {o : Octets} {b : StationId} (hs : P s) :
    P (replaceFeeder f used o b s) := by
  have logged := h.logWrite_kept (x := .feeder) (i := f.val) (b := b)
    (h.modFeeder_kept (i := f) (f := fun _ => feederAfterWrite used o s.feeders[f]) hs)
  have freed := ite_kept (c := used = true)
    (h.withdrawOperator_kept (k := .feeder f) (m := (feederAfterWrite used o s.feeders[f]).mode) logged) logged
  exact ite_kept (h.recompute_kept (h.rewriteFeeder_kept freed)) (h.feederMode_kept (h.recompute_kept freed))

theorem replaceManager_kept {k : Fin 4} {id b : StationId} (hs : P s) : P (replaceManager k id b s) :=
  have out := h.logWrite_kept (h.still hs)
  ite_kept (h.still out) out

/-- A WRITE_ENTRY keeps it, whatever the table. -/
theorem writeEntry_kept {t : TableId} {i : Nat} {o : Octets} {b : StationId} (hs : P s) : P (writeEntry t i o b s).1 := by
  unfold writeEntry
  split
  · unfold writeSourceEntry
    split
    · exact hs
    · split
      · exact h.replaceSource_kept hs
      · split
        · exact hs
        · rename_i e he
          exact taken_kept (fun _ => h.replaceSource_kept) hs
  · unfold writeUnitEntry
    split <;> [exact hs; split <;> [exact hs; exact taken_kept (fun _ => h.replaceUnit) hs]]
  · unfold writeFeederEntry
    split <;> [exact hs; exact taken_kept (fun _ => h.replaceFeeder_kept) hs]
  · unfold writeProfileEntry
    split <;> [exact hs; exact taken_kept (fun _ ht => h.logWrite_kept (h.still ht)) hs]
  · unfold writeShedEntry
    split <;> [exact hs; exact taken_kept (fun _ ht => h.logWrite_kept (h.modShed_kept ht)) hs]
  · unfold writeProgramEntry
    split <;> [exact hs; split <;> [exact taken_kept (fun _ ht => h.logWrite_kept (h.modSeq_kept ht)) hs; exact hs]]
  · unfold writeBankEntry
    split <;> [exact hs; exact taken_kept (fun _ ht => h.logWrite_kept (h.still ht)) hs]
  · unfold writeSettingsEntry
    split <;> [exact hs; exact taken_keeps (fun ok => h.replaceSettings ((firstFailure_cons (by decide)).mp ok).1 hs) hs]
  · unfold writeManagersEntry
    split <;> [exact hs; exact taken_kept (fun _ => h.replaceManager_kept) hs]

/-! ## The Management Agent -/

theorem admitRequest_kept {r : Request} {out : State} (e : admitRequest r s = some out) (hs : P s) : P out := by
  rw [admitRequest_frame e]
  exact h.still hs

theorem setUnitMode_kept {u : Fin 16} {m : Mode} (hs : P s) : P (setUnitMode u m s) := by
  have freed := h.withdrawOperator_kept (k := .unit u) (m := m)
    (h.recompute_kept (h.modUnit_kept (u := u) (f := fun r => { r with mode := m }) (fun _ => ⟨rfl, rfl⟩) hs))
  unfold setUnitMode
  simp only
  split
  · exact h.gensetMode_kept (ite_kept (h.operatorWithdraw_kept freed) freed)
  · exact h.pvMode_kept freed
  · exact freed

theorem setFeederMode_kept {f : Fin 32} {m : Mode} (hs : P s) : P (setFeederMode f m s) :=
  h.feederMode_kept (h.withdrawOperator_kept (h.recompute_kept (h.modFeeder_kept hs)))

theorem serveSetMode_kept {r : Request} (hs : P s) : P (serveSetMode r s).state := by
  unfold serveSetMode
  split
  · exact hs
  · split_ifs
    · exact hs
    · split <;> exact hs
    · split
      · exact hs
      · split <;> [exact h.setUnitMode_kept hs; exact h.setFeederMode_kept hs]

theorem serveOperate_kept {r : Request} (hs : P s) : P (serveOperate r s).state := by
  unfold serveOperate
  split
  · exact hs
  · split_ifs <;> [exact hs; exact h.operateRecord hs]

theorem serveResume_kept (hs : P s) : P (serveResume s).state := by
  unfold serveResume
  split_ifs
  · exact hs
  · split
    · split_ifs <;> [exact h.popTop_kept hs; exact hs]
    · exact hs

theorem serveBy_kept {k : RequestKind} {r : Request} (hs : P s) : P (serveBy k r s).state := by
  cases k with
  | readEntry =>
    simp only [serveBy, serveReadEntry]
    split <;> [exact hs; split <;> exact hs]
  | writeEntry =>
    simp only [serveBy, serveWriteEntry]
    split <;> [exact hs; (split_ifs <;> [exact hs; exact h.writeEntry_kept hs])]
  | readSheet => exact hs
  | readEvents => exact h.still hs
  | rewindEvents => exact h.still hs
  | selectBank =>
    simp only [serveBy, serveSelectBank]
    split <;> [exact hs; exact h.selectBank_kept hs]
  | setMode => exact h.serveSetMode_kept hs
  | operate => exact h.serveOperate_kept hs
  | clearLockout =>
    simp only [serveBy, serveClearLockout]
    split <;> [exact hs; (split_ifs <;> [exact h.clearLockout_kept hs; exact hs])]
  | arm =>
    simp only [serveBy, serveArm]
    split_ifs <;> [exact hs; exact h.setArmed_kept hs]
  | disarm =>
    simp only [serveBy, serveArm]
    split_ifs <;> [exact hs; exact h.setArmed_kept hs]
  | beginRestore =>
    simp only [serveBy, serveBeginRestore]
    split_ifs <;> [exact hs; exact h.startRun_kept hs]
  | hold =>
    simp only [serveBy, serveHold]
    split_ifs <;> [exact h.suspendRun_kept hs; exact hs]
  | resume => exact h.serveResume_kept hs
  | warmReset => exact hs

theorem serve_kept {r : Request} (hs : P s) : P (serve r s).state := by
  cases hk : ofCodeFromOne requestKindsFromOne r.kind with
  | none =>
    unfold serve
    rw [hk]
    exact hs
  | some k =>
    rw [serve_kind hk]
    exact h.serveBy_kept hs

theorem takeAfter_kept {a : AfterEffect} {m : StationId} (ha : a.InRange) (hs : P s) : P (takeAfter a m s) := by
  cases a with
  | nothing => exact hs
  | identity i t => exact h.changeIdentity ha.1 ha.2 hs
  | warmReset => exact h.warmReset hs

theorem takeRequest_kept {r : Request} (hs : P s) : P (takeRequest r s) := by
  unfold takeRequest
  split
  · exact hs
  · rename_i e
    exact h.takeAfter_kept serve_after_inRange (h.formTelegram (h.settle_kept (h.serve_kept (h.admitRequest_kept e hs))))

/-! ## Frames and timers -/

theorem takeIn_kept {t : Telegram} (hs : P s) : P (takeIn t s) :=
  ite_kept (h.takeSampleReport_kept hs) (ite_kept (h.takePositionReport_kept hs)
    (ite_kept (h.takeSetpoint_kept hs) (ite_kept (h.takeRequest_kept hs) hs)))

theorem receive_kept {p : Port} {f : Frame} (hs : P s) : P (receive p f s) := by
  unfold receive
  refine ite_kept hs (ite_kept (h.forward_kept hs) ?_)
  split
  · exact h.malformed_kept hs
  · rename_i t _
    have passed := ite_kept (c := t.dest = s.ownId) hs (h.forward_kept (p := p) (f := f) hs)
    exact ite_kept (h.takeIn_kept passed) passed

theorem beaconExpires_kept (hs : P s) : P (beaconExpires s) := ite_kept (h.formTelegram (h.still hs)) hs

theorem forgetRetired_kept (hs : P s) : P (forgetRetired s) := ite_kept (h.still hs) hs

/-! ## Steps -/

/-- Every command keeps it. -/
theorem exec_kept {c : Instr} {t : State} (e : exec c s = .next t) (hs : P s) : P t := by
  cases ha : c.arrival with
  | some a =>
    rw [exec_arrival (p := a.1) (f := a.2) ha] at e
    exact h.run_kept (fun _ => h.receive_kept) e hs
  | none =>
    cases c with
    | coldResetAssert => exact h.run_kept (fun _ => h.holdCold_kept) e hs
    | coldResetRelease fsel sid => exact h.run_kept (fun t ht => ite_kept (h.coldStart ht) ht) e hs
    | warmResetPinAssert => exact h.run_kept (fun t ht => ite_kept (h.phase_kept ht) ht) e hs
    | warmResetPinRelease => exact h.run_kept (fun t ht => ite_kept (h.warmReset ht) ht) e hs
    | linkStatusRead upA upB => exact h.run_kept (fun t ht => ite_kept ht (h.readLink_kept (h.readLink_kept ht))) e hs
    | badFcsFrame p f => exact h.run_kept (fun _ ht => ht) e hs
    | frameTransmit p => exact h.run_kept (fun t ht => ite_kept ht (h.modPort_kept ht)) e hs
    | staleTimerExpiry i => exact h.runWhenUp_kept (fun _ => h.staleExpires_kept) e hs
    | deadlineExpiry g => exact h.runWhenUp_kept (fun _ => h.deadlineExpires) e hs
    | inhibitTimerExpiry g => exact h.runWhenUp_kept (fun _ => h.inhibitExpires) e hs
    | cycleTimerExpiry x => exact h.runWhenUp_kept (fun _ => h.cycleExpires_kept) e hs
    | holdOffExpiry x => exact h.runWhenUp_kept (fun _ => h.holdOffExpires_kept) e hs
    | dispatchTimerExpiry => exact h.runWhenUp_kept (fun _ => h.dispatchTimerExpires_kept) e hs
    | airHoldOffExpiry => exact h.runWhenUp_kept (fun _ => h.airHoldOffExpires_kept) e hs
    | crankRestExpiry u => exact h.runWhenUp_kept (fun _ => h.stateTimerExpires_kept) e hs
    | warmUpExpiry u => exact h.runWhenUp_kept (fun _ => h.stateTimerExpires_kept) e hs
    | stopTimerExpiry => exact h.runWhenUp_kept (fun _ => h.stopTimerExpires_kept) e hs
    | cooldownExpiry u => exact h.runWhenUp_kept (fun _ => h.stateTimerExpires_kept) e hs
    | curtailTimerExpiry => exact h.runWhenUp_kept (fun _ => h.curtailTimerExpires_kept) e hs
    | mirrorExpiry u => exact h.runWhenUp_kept (fun _ => h.mirrorExpires) e hs
    | stageTimerExpiry i => exact h.runWhenUp_kept (fun _ => h.stageTimerExpires_kept) e hs
    | restoreDelayExpiry => exact h.runWhenUp_kept (fun _ => h.restoreDelayExpires_kept) e hs
    | stepIntervalExpiry => exact h.runWhenUp_kept (fun _ => h.stepIntervalExpires_kept) e hs
    | deadBusTimerExpiry => exact h.runWhenUp_kept (fun _ => h.deadBusExpires_kept) e hs
    | waitTimeExpiry => exact h.runWhenUp_kept (fun _ => h.waitTimeExpires_kept) e hs
    | stepTimeoutExpiry => exact h.runWhenUp_kept (fun _ => h.stepTimeoutExpires_kept) e hs
    | beaconTimerExpiry => exact h.runWhenUp_kept (fun _ => h.beaconExpires_kept) e hs
    | retiredIdentityExpiry => exact h.run_kept (fun t ht => ite_kept ht (h.forgetRetired_kept ht)) e hs
    | _ => cases ha

/-- Every step keeps it, a command's and a millisecond's. -/
theorem step_kept {t : State} (e : step s = .next t) (hs : P s) : P t := by
  unfold step at e
  split at e
  · cases e
    exact h.tick hs
  · exact h.exec_kept e (h.still hs)

end KeptByOrderCommands


end Sys2Proof.Machine
end

section
/-!
SUPPORT. The Order Unit through a step (R56 to R75): the plants' own submissions, the resets and the writes keep it sound beside its own
operations. Settles O53.
-/

namespace Sys2Proof.Machine

variable {s t : State}

/-- The invariant of the Order Unit with that of Station Settings, whose queue high offset it reads. -/
abbrev OrdersSound (s : State) : Prop := s.ordersSound ∧ SettingsKept s

theorem OrdersSound.given (h : OrdersSound s) (hg : t.given = s.given) (ht : t.ordersSound) : OrdersSound t :=
  ⟨ht, by rw [SettingsKept, settings_of_given hg]; exact h.2⟩

theorem OrdersSound.frame (h : OrdersSound s) (ho : t.orders = s.orders) (hs : t.settings = s.settings) : OrdersSound t :=
  ⟨h.1.frame ho hs, by rw [SettingsKept, hs]; exact h.2⟩

/-! ## The plants (R109 to R119) -/

theorem curtailEval_sound (h : s.ordersSound) : (curtailEval s).ordersSound :=
  ite_kept h (foldl_kept (fun _ _ ht => submitRoutine_sound ht) _ h)

theorem setMirror_sound {u : Fin 16} {v : Int} (h : s.ordersSound) : (setMirror u v s).ordersSound := ite_kept h h

theorem followCopy_sound {u : Fin 16} {b : Bool} (h : s.ordersSound) : (followCopy u b s).ordersSound := by
  unfold followCopy
  simp only
  split
  · exact ite_kept h h
  · exact ite_kept (submitRoutine_sound (s := s.modPv u fun p => { p with outOfStep := true }) h) h

theorem setpointCopy_sound {d : StationId} {v : Int} (h : s.ordersSound) : (setpointCopy d v s).ordersSound := by
  unfold setpointCopy
  split
  · exact h
  · rename_i u _
    have followed := ite_kept (c := (s.units[u]).participating = true)
      (followCopy_sound (u := u) (b := decide (v = Config.noLimit)) (setMirror_sound (u := u) (v := v) h))
      (setMirror_sound (u := u) (v := v) h)
    exact ite_kept followed (lowerQueued_sound followed)

theorem ordersSound_byOrderUnit : KeptByOrderUnit OrdersSound where
  aside ho hs _ h := h.frame ho hs
  sendTest h := h.given sendTest_given (sendTest_sound h.1)
  submitRoutine _ h := h.given (submitRoutine_given _) (submitRoutine_sound h.1)
  submitProtective hk ht h := h.given (submitProtective_given _) (submitProtective_sound h.1 hk ht)
  cancelWhere h := h.given (cancelWhere_given _ _) (cancelWhere_keeps h.1).1
  matchReport h := h.given (matchReport_given _ _ _ _) (matchReport_sound h.1)
  inhibitChange h := h.given (inhibitChange_given _) (inhibitChange_sound h.1)
  deadlineExpires h := h.given (deadlineExpires_given _) (deadlineExpires_sound h.1)
  inhibitExpires h := h.given (inhibitExpires_given _) (inhibitExpires_sound h.1)
  lowerQueued h := h.given (lowerQueued_given _) (lowerQueued_sound h.1)
  curtailEval h := h.given curtailEval_given (curtailEval_sound h.1)
  setpointCopy h := h.given (setpointCopy_given _ _) (setpointCopy_sound h.1)
  mirrorExpires h := h.given (mirrorExpires_given _) (ite_kept h.1 h.1)

/-! ## Resets, time and writes -/

/-- R191: a cold reset leaves the Order Unit empty. -/
theorem coldStart_ordersSound {fsel : Bool} {sid : BitVec 4} {l : List Instr} : OrdersSound (State.coldStart fsel sid l) :=
  ordersKept_iff.mp ⟨coldStart_queueKept, coldStart_trackerKept, coldStart_booksBalance, coldStart_settingsKept,
    coldStart_queueHighKept⟩

/-- R60, R76: the empty Order Unit is sound under any queue high offset that R183 allows. -/
theorem emptied_sound {u : OrderUnit} (hu : u = {}) {x : Settings} (hx : x.valid = true) : u.Kept x.queueOffset := by
  obtain ⟨-, -, -, offset, -⟩ := (Settings.valid_iff x).mp hx
  have cold := (coldStart_ordersSound (fsel := false) (sid := 0) (l := [])).1
  subst hu
  refine ⟨cold.places, cold.slots, cold.accepted, cold.sent, ?_⟩
  simp [queueHighAt, Config.queueSize]
  omega

theorem warmReset_orders (d : Nat) (m : StationId) : (warmReset d m s).orders = {} := by
  have chosen : ∀ {x : State}, (chooseSource x).orders = x.orders := fun {x} => by
    unfold chooseSource
    simp only
    split_ifs <;> rfl
  have formed : ∀ {x : State}, (recompute x).orders = x.orders := fun {x} => by
    unfold recompute
    simp only
    split_ifs <;> rfl
  unfold warmReset
  simp only
  rw [State.testRecordHigh, formed]
  simp only
  rw [chosen]
  rfl

theorem warmReset_ordersSound {d : Nat} {m : StationId} (h : OrdersSound s) : OrdersSound (warmReset d m s) := by
  have settings : (warmReset d m s).settings = s.settings := congrArg (fun x => x.2.1) (warmReset_tables (s := s) d m)
  rw [OrdersSound, SettingsKept, State.ordersSound, settings]
  exact ⟨emptied_sound (warmReset_orders d m) h.2, h.2⟩

theorem tick_ordersSound (h : OrdersSound s) : OrdersSound (tick s) := by
  unfold tick
  split
  · exact h
  · exact h
  · exact ⟨tickSlots_sound h.1, h.2⟩

theorem operateRecord_ordersSound {k : Target} {x : Option OrderKind} {v : Int} (h : OrdersSound s) :
    OrdersSound (operateRecord k x v s).state := by
  have submitted : ∀ {y}, OrdersSound (operateSubmit k y v s).state := fun {y} => by
    unfold operateSubmit
    simp only
    split <;> rename_i e
    · exact h
    · exact h.given (submitRoutine_out_given e) (submitRoutine_out_sound e h.1)
  unfold operateRecord
  split_ifs
  · exact h
  split
  · exact h
  split_ifs
  · exact h
  · exact h
  split
  · unfold operateCrank
    split_ifs <;> exact h
  · exact submitted

/-- R60, R183: a taken SETTINGS write tests QUEUE_HIGH again where the offset changes. -/
theorem replaceSettings_orders (x : Settings) (b : StationId) : (replaceSettings x b s).orders = { s.orders with
    queueHigh := if x.queueOffset = s.settings.queueOffset then s.orders.queueHigh
      else queueHighAt x.queueOffset s.orders.queue.length } := by
  rw [replaceSettings_eq]
  unfold settingsHandedOn
  simp only
  split_ifs <;> rfl

theorem replaceSettings_ordersSound {x : Settings} {b : StationId} (hx : x.valid = true) (h : OrdersSound s) :
    OrdersSound (replaceSettings x b s) := by
  have settings : (replaceSettings x b s).settings = { x with ownId := s.settings.ownId, etherType := s.settings.etherType } :=
    congrArg (fun y => y.2.1) (replaceSettings_tables (s := s) x b)
  obtain ⟨id, type, -⟩ := (Settings.valid_iff _).mp h.2
  rw [OrdersSound, SettingsKept, State.ordersSound, settings, replaceSettings_orders]
  refine ⟨⟨h.1.places, h.1.slots, h.1.accepted, h.1.sent, ?_⟩, Settings.valid_withIdentity hx id type⟩
  simp only
  split_ifs with same
  · rw [same]
    exact h.1.high
  · rfl

theorem changeIdentity_ordersSound {i : StationId} {x : BitVec 16} (hi : i ≠ 0xFFFF) (hx : 0x0600 ≤ x.toNat) (h : OrdersSound s) :
    OrdersSound (changeIdentity i x s) := by
  rw [changeIdentity_eq]
  exact ⟨h.1, Settings.valid_withIdentity h.2 hi hx⟩

theorem ordersSound_byCommands : KeptByOrderCommands OrdersSound :=
  { ordersSound_byOrderUnit with
    coldStart := fun _ => coldStart_ordersSound
    warmReset := warmReset_ordersSound
    tick := tick_ordersSound
    operateRecord := operateRecord_ordersSound
    replaceUnit := fun h => ordersSound_byOrderUnit.replaceUnit_kept (h.frame rfl rfl)
    replaceSettings := replaceSettings_ordersSound
    changeIdentity := changeIdentity_ordersSound }

/-- Settles O53: every operation of the Order Unit keeps it sound, and every step reaches it through these alone. -/
theorem stepKeepsOrders : Obligations.StepKeepsOrders := fun _ _ h e =>
  ordersKept_iff.mpr (ordersSound_byCommands.step_kept e (ordersKept_iff.mp h))

end Sys2Proof.Machine
end

section
/-!
SUPPORT. How a submission is answered, and what the accepted counter takes of it (R57, R58, R75). Settles O20.
-/

namespace Sys2Proof.Machine

variable {s : State} {o : Order} {x : Slot}

/-! ## What counts no order as accepted -/

theorem freeze_accepted : (freeze x s).orders.counters.accepted = s.orders.counters.accepted := by
  unfold freeze
  simp only
  split_ifs <;> simp

theorem sendOne_accepted : (sendOne o s).orders.counters.accepted = s.orders.counters.accepted := by
  have freed : (s.freedFor o).orders.counters.accepted = s.orders.counters.accepted := by
    unfold State.freedFor
    split <;> simp
  rw [sendOne_eq]
  simp only
  split_ifs
  · rw [freeze_accepted]
    simpa [State.putsOut] using freed
  · simpa [State.putsOut] using freed

/-- R62: a send test sends, and accepts nothing. -/
@[simp] theorem sendTest_accepted : (sendTest s).orders.counters.accepted = s.orders.counters.accepted := by
  unfold sendTest
  generalize s.orders.queue.length = n
  induction n generalizing s with
  | zero => rfl
  | succ n ih =>
    unfold sendLoop
    split
    · rfl
    · rw [ih, sendOne_accepted]

@[simp] theorem cancelWhere_accepted (p : Order → Bool) (own : Bool) :
    (cancelWhere p own s).orders.counters.accepted = s.orders.counters.accepted :=
  foldl_kept (P := fun t => t.orders.counters.accepted = s.orders.counters.accepted) (fun t q ht => by simpa using ht) _ rfl

@[simp] theorem dropLast_accepted : (dropLast s).orders.counters.accepted = s.orders.counters.accepted := by
  unfold dropLast
  split_ifs
  · rfl
  split <;> simp

/-! ## The answers of a ROUTINE submission -/

/-- R57, R58: an order submitted as this class takes its target's device with it. -/
def State.submitted (s : State) (o : Order) (c : OrderClass) : Order := { o with cls := c, device := s.targetDevice o.target }

/-- R57: a full queue with no order to merge into or to replace. -/
theorem submitRoutine_full (hn : s.orders.queue.find? (s.submitted o .routine).sameSlot = none)
    (hf : 32 ≤ s.orders.queue.length) : submitRoutine o s = (s, .full) := by
  unfold State.submitted at hn
  simp only [submitRoutine, hn]
  exact if_neg (not_lt.mpr hf)

theorem submitRoutine_joins (hn : s.orders.queue.find? (s.submitted o .routine).sameSlot = none)
    (hf : s.orders.queue.length < 32) :
    submitRoutine o s = (sendTest (countAccepted (setQueue (s.orders.queue ++ [s.submitted o .routine]) s)), .taken) := by
  unfold State.submitted at hn
  simp only [submitRoutine, hn]
  exact if_pos hf

theorem submitRoutine_merges {q : Order} (hq : s.orders.queue.find? (s.submitted o .routine).sameSlot = some q)
    (hc : q.cause = o.cause) :
    ∃ merged, submitRoutine o s = (sendTest (s.modOrders fun u => { u with queue := merged }), .merged) := by
  unfold State.submitted at hq
  simp only [submitRoutine, hq, if_pos hc]
  exact ⟨_, rfl⟩

theorem submitRoutine_replaces {q : Order} (hq : s.orders.queue.find? (s.submitted o .routine).sameSlot = some q)
    (hc : q.cause ≠ o.cause) :
    ∃ replaced, submitRoutine o s =
      (sendTest (countAccepted (endQueued q .cancelled false (s.modOrders fun u => { u with queue := replaced }))), .taken) := by
  unfold State.submitted at hq
  simp only [submitRoutine, hq, if_neg hc]
  exact ⟨_, rfl⟩

/-- R58: a PROTECTIVE order is merged, or accepted. -/
theorem submitProtective_accepted : (submitProtective o s).orders.counters.accepted =
    if (s.orders.queue.find? (s.submitted o .protective).sameSlot).isSome then s.orders.counters.accepted
    else s.orders.counters.accepted + 1 := by
  unfold submitProtective State.submitted
  simp only
  split
  case h_1 q found => simp [found]
  case h_2 none => simp [none]

/-- Settles O20: one lemma an answer, and no send test counts an order as accepted. -/
theorem submissionIsAnswered : Obligations.SubmissionIsAnswered := by
  refine fun o s => ⟨submitRoutine_full, fun none room => ?_, fun q found same => ?_, fun q found other => ?_,
    submitProtective_accepted⟩
  · rw [submitRoutine_joins none room]
    simp
  · obtain ⟨merged, out⟩ := submitRoutine_merges found same
    rw [out]
    simp
  · obtain ⟨replaced, out⟩ := submitRoutine_replaces found other
    rw [out]
    simp

end Sys2Proof.Machine
end

section
/-!
SUPPORT. One millisecond on an empty queue (R70, R162, R180, R192), timer by timer. Settles O2.
-/

namespace Sys2Proof.Machine

variable {s : State}

/-- Log 1: with no command waiting a step is one millisecond. -/
theorem step_idle (h : s.pending = []) : step s = .next (tick s) := by rw [step, h]

theorem tick_coldHeld (h : s.phase = .coldHeld) : tick s = s := by rw [tick, h]

theorem tick_warmHeld (h : s.phase = .warmHeld) : tick s =
    let out := tickRetired { s with partTime := s.partTime + 1 }
    { out with pending := out.pending ++ dueRetired out } := by rw [tick, h]

theorem tick_running (h : s.phase = .running) : tick s =
    let out := tickTimers { s with partTime := s.partTime + 1 }
    { out with pending := out.pending ++ dueRecords out ++ dueJobs out ++ dueRetired out } := by rw [tick, h]

/-- R162: the dead-bus timer alone of the Sequencer's timers runs on while it is SUSPENDED. -/
theorem sequencerTick_suspended {q : Sequencer} (h : q.state = .suspended) :
    q.tick = { q with deadBusTimer := countDown q.deadBusTimer } := by
  rw [Sequencer.tick, if_pos h]

theorem sequencerTick_apart {q : Sequencer} (h : q.state ≠ .suspended) : q.tick = { q with
    deadBusTimer := countDown q.deadBusTimer, stepTimeout := countDown q.stepTimeout
    progress := { q.progress with waitTimer := countDown q.progress.waitTimer } } := by
  rw [Sequencer.tick, if_neg h]

/-- Settles O2: each phase has its own millisecond, and in RUNNING each table ticks entry by entry. -/
theorem idleStepPassesOneMillisecond : Obligations.IdleStepPassesOneMillisecond := by
  intro s idle retired
  rw [step_idle idle]
  refine ⟨fun cold => by rw [tick_coldHeld cold], fun warm => ⟨tick s, rfl, ?_, ?_⟩,
    fun running => ⟨tick s, rfl, ?_, fun i => ?_, fun u => ?_, fun f => ?_, ?_, fun i => ?_, fun suspended => ?_, fun apart => ?_⟩⟩
  · rw [tick_warmHeld warm]
    rfl
  · rw [tick_warmHeld warm]
    simp only [tickRetired, idle, List.nil_append]
    rfl
  all_goals rw [tick_running running]
  · rfl
  · exact mapTable_get _ _ i
  · exact mapTable_get _ _ u
  · exact mapTable_get _ _ f
  · rfl
  · exact mapTable_get _ _ i
  · exact sequencerTick_suspended suspended
  · exact sequencerTick_apart apart

end Sys2Proof.Machine
end

section
/-!
SUPPORT. A target's timers: what setting one leaves as it was, and the send test taken when one becomes idle (R62, R64, R65).
Settles O22.
-/

namespace Sys2Proof.Machine

variable {s : State} {x : Target} {y z : Timer} {o : Order}

theorem modUnit_modUnit {u : Fin 16} {f g : UnitRec → UnitRec} : (s.modUnit u f).modUnit u g = s.modUnit u fun r => g (f r) := by
  simp only [State.modUnit, modifyAt, Fin.getElem_fin, Vector.getElem_set_self, Vector.set_set]

theorem setCycle_setCycle : (s.setCycle x y).setCycle x z = s.setCycle x z := by
  cases x
  · exact modUnit_modUnit
  · exact modFeeder_modFeeder

theorem setCycle_cycleOf : (s.setCycle x y).cycleOf x = y := by
  cases x <;> simp [State.cycleOf, State.setCycle]

theorem setHoldOff_cycleOf : (s.setHoldOff x y).cycleOf x = s.cycleOf x := by
  cases x <;> simp [State.cycleOf, State.setHoldOff]

theorem setHoldOff_holdOffOf : (s.setHoldOff x y).holdOffOf x = y := by
  cases x <;> simp [State.holdOffOf, State.setHoldOff]

theorem setCycle_holdOffOf : (s.setCycle x y).holdOffOf x = s.holdOffOf x := by
  cases x <;> simp [State.holdOffOf, State.setCycle]

theorem setCycle_targetInhibit : (s.setCycle x y).targetInhibit x = s.targetInhibit x := by
  cases x <;> simp [State.targetInhibit, State.setCycle]

theorem setHoldOff_targetInhibit : (s.setHoldOff x y).targetInhibit x = s.targetInhibit x := by
  cases x <;> simp [State.targetInhibit, State.setHoldOff]

theorem setCycle_closeAllowed : closeAllowed (s.setCycle x y) o = closeAllowed s o := by cases x <;> rfl

theorem setHoldOff_closeAllowed : closeAllowed (s.setHoldOff x y) o = closeAllowed s o := by cases x <;> rfl

/-- R64: an order's own cycle timer is started at its send, whatever it was before. -/
theorem setCycle_sendsAlone (h : o.target = x) : (s.setCycle x y).sendsAlone o = s.sendsAlone o := by
  have out : outAlone o (s.setCycle x y) = (outAlone o s).setCycle x y := by cases x <;> rfl
  have profiles : (s.setCycle x y).profiles = s.profiles := by cases x <;> rfl
  rw [sendsAlone_eq, sendsAlone_eq, out, profiles, h, setCycle_setCycle]

/-- R64: the send test at a cycle timer that becomes idle sends the one order that waited for it. -/
theorem sendTest_freedCycle (hq : s.orders.queue = [o]) (hx : o.target = x) (hc : o.cls = .routine) (ht : s.orders.tracker = [])
    (hf : s.holdOffOf x = none) (ha : closeAllowed s o = true) (hi : s.targetInhibit x = false) (hh : s.orders.queueHigh = false)
    (ho : s.settings.queueOffset ≤ 31) : sendTest (s.setCycle x none) = s.sendsAlone o := by
  subst hx
  have settings : (s.setCycle o.target none).settings = s.settings := settings_of_given (setCycle_given _ _)
  rw [← setCycle_sendsAlone rfl]
  refine sendTest_alone ?_ (eligible_alone hc ?_ setCycle_cycleOf ?_ ?_) ?_ ?_ ?_ ?_
  · rw [setCycle_orders, hq]
  · rw [setCycle_orders, ht]
  · rw [setCycle_holdOffOf, hf]
  · rw [setCycle_closeAllowed, ha]
  · rw [setCycle_orders, ht]
  · rw [setCycle_targetInhibit, hi]
  · rw [setCycle_orders, hh]
  · rw [settings]; exact ho

/-- R65: the send test at a hold-off that becomes idle sends the one order that waited for it. -/
theorem sendTest_freedHoldOff (hq : s.orders.queue = [o]) (hx : o.target = x) (hc : o.cls = .routine) (ht : s.orders.tracker = [])
    (hf : s.cycleOf x = none) (ha : closeAllowed s o = true) (hi : s.targetInhibit x = false) (hh : s.orders.queueHigh = false)
    (ho : s.settings.queueOffset ≤ 31) : sendTest (s.setHoldOff x none) = (s.setHoldOff x none).sendsAlone o := by
  subst hx
  have settings : (s.setHoldOff o.target none).settings = s.settings := settings_of_given (setHoldOff_given _ _)
  refine sendTest_alone ?_ (eligible_alone hc ?_ ?_ setHoldOff_holdOffOf ?_) ?_ ?_ ?_ ?_
  · rw [setHoldOff_orders, hq]
  · rw [setHoldOff_orders, ht]
  · rw [setHoldOff_cycleOf, hf]
  · rw [setHoldOff_closeAllowed, ha]
  · rw [setHoldOff_orders, ht]
  · rw [setHoldOff_targetInhibit, hi]
  · rw [setHoldOff_orders, hh]
  · rw [settings]; exact ho

/-- R62: what a send leaves as it was outside the Action Order block, the telegrams and the target's timers. -/
theorem sendsAlone_frame (o : Order) (s : State) : (s.sendsAlone o).handovers = s.handovers ∧ (s.sendsAlone o).shed = s.shed ∧
    (s.sendsAlone o).seq = s.seq ∧ (s.sendsAlone o).dispatch = s.dispatch := by
  rw [sendsAlone_eq]
  cases o.target <;> exact ⟨rfl, rfl, rfl, rfl⟩

/-- R140: the feeder is the one on top of the Shed Stack. -/
def OnTop (s : State) (x : Target) : Prop := ∃ top, s.shed.stack.getLast? = some top ∧ x = .feeder top.feeder

/-- R140: no restore test is taken in a run. -/
theorem restoreTest_inRun (h : s.inRun = true) : restoreTest s = s := if_pos h

/-- R65: at the hold-off of a target that is not on top of the Shed Stack a send test alone is taken. -/
theorem holdOffExpires_apart (hz : s.holdOffOf x = some 0) (h : ¬ OnTop s x) :
    holdOffExpires x s = sendTest (s.setHoldOff x none) := by
  rw [holdOffExpires, if_pos hz]
  cases x with
  | unit u => rfl
  | feeder f =>
    refine if_neg fun any => h ?_
    obtain ⟨top, last, same⟩ := (Option.any_eq_true _ _).mp any
    exact ⟨top, last, congrArg Target.feeder (of_decide_eq_true same).symm⟩

/-- R65, R140: at the hold-off of the feeder on top of the Shed Stack a restore test follows. -/
theorem holdOffExpires_onTop (hz : s.holdOffOf x = some 0) (h : OnTop s x) :
    holdOffExpires x s = (sendTest (s.setHoldOff x none)).post [.restoreTest] := by
  obtain ⟨top, last, rfl⟩ := h
  rw [holdOffExpires, if_pos hz]
  exact if_pos (by simp [last])

/-- R65, R140: what the expiry of a hold-off leaves, from what its send test leaves. -/
theorem holdOffExpiry_leaves {t : State} (hs : Quiet s) (hz : s.holdOffOf x = some 0) (ht : sendTest (s.setHoldOff x none) = t)
    (frame : t.handovers = s.handovers ∧ t.shed = s.shed ∧ t.seq = s.seq ∧ t.dispatch = s.dispatch) :
    (¬ OnTop s x ∨ s.inRun = true → exec (.holdOffExpiry x) s = .next t) ∧
    (OnTop s x → s.inRun = false → s.shed.permission = false →
      exec (.holdOffExpiry x) s = .next { t with dispatch := { s.dispatch with restoreWait := none } }) := by
  obtain ⟨handovers, shed, seq, dispatch⟩ := frame
  have none_left : t.handovers = [] := handovers.trans hs.2
  have run : t.inRun = s.inRun := congrArg (·.state.inRun) seq
  have expiry : exec (.holdOffExpiry x) s = .next (settle (holdOffExpires x s)) := runWhenUp_settle hs
  rw [expiry]
  refine ⟨fun h => congrArg _ ?_, fun top inRun permission => congrArg _ ?_⟩
  · by_cases top : OnTop s x
    · have inRun : t.inRun = true := run.trans (h.resolve_left (not_not.mpr top))
      rw [holdOffExpires_onTop hz top, ht]
      exact settle_post_one none_left (restoreTest_inRun inRun) none_left
    · rw [holdOffExpires_apart hz top, ht, settle_nil none_left]
  · rw [holdOffExpires_onTop hz top, ht]
    refine settle_post_one none_left (t := { t with dispatch := { s.dispatch with restoreWait := none } }) ?_ none_left
    change restoreTest t = _
    rw [restoreTest_quiet (.inl (shed ▸ permission)), dispatch, run, inRun]
    rfl

theorem sendTest_noneEligible (h : ∀ o ∈ s.orders.queue, eligible s o = false) : sendTest s = s :=
  sendTest_none (List.find?_eq_none.mpr fun o ho => by simp [h o ho])

/-- Settles O22, from the send test at each timer: with none eligible it changes nothing, and it sends the one order that waits. -/
theorem targetTimersBecomeIdle : Obligations.TargetTimersBecomeIdle := by
  intro s x hs onTop
  have cycle : exec (.cycleTimerExpiry x) s = .next (settle (cycleExpires x s)) := runWhenUp_settle hs
  have holdOff : exec (.holdOffExpiry x) s = .next (settle (holdOffExpires x s)) := runWhenUp_settle hs
  refine ⟨fun h => ?_, fun h => ?_, fun hz => ⟨fun none_eligible => ?_, fun o hq hx hc ht hf ha hi hh ho => ?_⟩,
    fun hz => ⟨fun none_eligible => ?_, fun o hq hx hc ht hf ha hi hh ho => ?_⟩⟩
  · rw [cycle, cycleExpires, if_neg h, settle_nil hs.2]
  · rw [holdOff, holdOffExpires, if_neg h, settle_nil hs.2]
  · have tested : sendTest (s.setCycle x none) = s.setCycle x none := sendTest_noneEligible (by rwa [setCycle_orders])
    have none_left : (s.setCycle x none).handovers = [] := by cases x <;> exact hs.2
    rw [cycle, cycleExpires, if_pos hz, tested, settle_nil none_left]
    cases x <;> rfl
  · have none_left : (s.sendsAlone o).handovers = [] := (sendsAlone_frame o s).1.trans hs.2
    rw [cycle, cycleExpires, if_pos hz, sendTest_freedCycle hq hx hc ht hf ha hi hh ho, settle_nil none_left]
  · have tested : sendTest (s.setHoldOff x none) = s.setHoldOff x none := sendTest_noneEligible (by rwa [setHoldOff_orders])
    obtain ⟨apart, top⟩ := holdOffExpiry_leaves hs hz tested (by cases x <;> exact ⟨rfl, rfl, rfl, rfl⟩)
    refine ⟨fun h => (apart h).trans ?_, top⟩
    cases x <;> rfl
  · have frame := sendsAlone_frame o (s.setHoldOff x none)
    exact holdOffExpiry_leaves hs hz (sendTest_freedHoldOff hq hx hc ht hf ha hi hh ho) (by cases x <;> exact frame)

end Sys2Proof.Machine
end

section
/-!
SUPPORT. OPERATE (R188): the record the request names, the checks in their order, and the submission. Settles O23.
-/

namespace Sys2Proof.Machine

variable {s s1 : State} {p : Port} {f : Frame} {t : Telegram} {x : Target} {kind : OrderKind} {value : Int}

/-! ## The checks of R188 -/

/-- R188, step 2: the record takes operator orders. -/
def OperateOpen (s : State) (x : Target) : Prop := s.recordUsed x = true ∧ s.targetDevice x ≠ 0 ∧ s.recordMode x = .manual

theorem operateRecord_closed {kind : Option OrderKind} (h : s.recordUsed x = false ∨ s.targetDevice x = 0 ∨ s.recordMode x = .auto) :
    operateRecord x kind value s = refuse s .refusedState :=
  if_pos (by simpa [or_assoc] using h)

theorem OperateOpen.passes (h : OperateOpen s x) :
    ¬ (!s.recordUsed x || s.targetDevice x = 0 || s.recordMode x = .auto) = true := by
  obtain ⟨used, device, manual⟩ := h
  simp only [used, manual, Bool.not_true, Bool.false_or, reduceCtorEq, decide_false, Bool.or_false, decide_eq_true_eq]
  exact device

/-- R198: an octet that names no order kind. -/
theorem operateRecord_unnamed (h : OperateOpen s x) : operateRecord x none value s = refuse s .badContent := by
  simp only [operateRecord, if_neg h.passes]

/-- R188, step 3. -/
theorem operateRecord_unsuited (h : OperateOpen s x) (hs : suits s x kind = false) :
    operateRecord x (some kind) value s = refuse s .badContent := by
  simp only [operateRecord, if_neg h.passes, hs, Bool.not_false, if_true]

/-- R188, step 4. -/
theorem operateRecord_barred (h : OperateOpen s x) (hs : suits s x kind = true) (hb : operateBarred s x kind = true) :
    operateRecord x (some kind) value s = refuse s .refusedState := by
  simp only [operateRecord, if_neg h.passes, hs, hb, Bool.not_true, if_true, Bool.false_eq_true, if_false]

theorem operateRecord_submits (h : OperateOpen s x) (hs : suits s x kind = true) (hb : operateBarred s x kind = false)
    (hc : kind ≠ .crank) : operateRecord x (some kind) value s = operateSubmit x kind value s := by
  simp only [operateRecord, if_neg h.passes, hs, hb]
  cases kind with
  | crank => exact absurd rfl hc
  | _ => rfl

/-! ## The submission -/

/-- R55, R119, R188: the order an OPERATE submits. -/
def operatorOrder (s : State) (x : Target) (kind : OrderKind) (value : Int) : Order :=
  { target := x, device := s.targetDevice x, kind := kind, cls := .routine, value := operateValue s x kind value
    cause := .operator, profile := operateProfile s x kind }

theorem operateSubmit_taken {out : State} (h : submitRoutine { operatorOrder s x kind value with device := 0 } s = (out, .taken)) :
    operateSubmit x kind value s = accept out := by
  simp only [operatorOrder] at h
  simp only [operateSubmit, h]

/-- R57: a full queue that holds no order of the kind for the record. -/
theorem operateSubmit_full (hn : ∀ q ∈ s.orders.queue, ¬ (q.cls = .routine ∧ q.target = x ∧ q.kind = kind))
    (hf : 32 ≤ s.orders.queue.length) : operateSubmit x kind value s = refuse s .busy := by
  simp only [operateSubmit]
  rw [submitRoutine_full _ hf]
  refine List.find?_eq_none.mpr fun q hq same => hn q hq ?_
  obtain ⟨both, kind⟩ := Bool.and_eq_true_iff.mp same
  obtain ⟨cls, target⟩ := Bool.and_eq_true_iff.mp both
  exact ⟨(of_decide_eq_true cls).symm, (of_decide_eq_true target).symm, (of_decide_eq_true kind).symm⟩

/-- R62: an order to a target whose timers run waits in the queue. -/
theorem operateSubmit_waits (hq : s.orders.queue = []) (hc : s.cycleOf x ≠ none ∨ s.holdOffOf x ≠ none)
    (hh : s.orders.queueHigh = false) (ho : s.settings.queueOffset ≤ 30) :
    operateSubmit x kind value s = accept (s.queuesAlone (operatorOrder s x kind value)) :=
  operateSubmit_taken (submitRoutine_waits hq hc hh ho)

/-- R57, R61, R62: an order submitted with none waiting. -/
theorem operateSubmit_alone (h : TakesAlone s x) (ha : closeAllowed s (operatorOrder s x kind value) = true) :
    operateSubmit x kind value s = accept (s.submitsAlone (operatorOrder s x kind value)) :=
  operateSubmit_taken (submitRoutine_alone h ha)

/-- R61, R62: an order to a target whose timers are idle is sent at once while none is out. -/
theorem operateSubmit_sends (hq : s.orders.queue = []) (ht : s.orders.tracker = []) (hc : s.cycleOf x = none)
    (hf : s.holdOffOf x = none) (hi : s.targetInhibit x = false) (hh : s.orders.queueHigh = false) (ho : s.settings.queueOffset ≤ 30)
    (ha : closeAllowed s (operatorOrder s x kind value) = true) : operateSubmit x kind value s =
      accept ((s.queuesAlone (operatorOrder s x kind value)).sendsAlone (operatorOrder s x kind value)) := by
  have idle : ¬ (s.cycleOf x ≠ none ∨ s.holdOffOf x ≠ none) := not_or.mpr ⟨not_not.mpr hc, not_not.mpr hf⟩
  rw [operateSubmit_alone ⟨hq, hh, ho, .inr (.inr ⟨ht, hi⟩)⟩ ha]
  exact congrArg accept (if_neg idle)

/-! ## The request -/

/-- R188: an OPERATE of a record, of the full length, is answered as its record answers it. -/
theorem serveBy_operate {s : State} {r : Request} (hx : namedRecord r.table r.index = .ok x) (hl : 8 ≤ r.content.length) :
    serveBy .operate r s = operateRecord x (ofCode orderKindsByCode (read8 r.content 0)) (readSigned r.content 4) s := by
  simp only [serveBy, serveOperate, hx, if_neg (Nat.not_lt.mpr hl)]

theorem exec_operate_refused {status : Status} (h : Requested s p f t .operate s1)
    (hx : namedRecord (requestOf t).table (requestOf t).index = .ok x) (hl : 8 ≤ (requestOf t).content.length)
    (ha : operateRecord x (ofCode orderKindsByCode (read8 (requestOf t).content 0)) (readSigned (requestOf t).content 4) s1 =
      refuse s1 status) : exec (.operate p f) s = .next (answered t status [] s1) :=
  run_request_plain h ((serveBy_operate hx hl).trans ha) rfl

theorem exec_operate_accepted {out : State} (h : Requested s p f t .operate s1)
    (hx : namedRecord (requestOf t).table (requestOf t).index = .ok x) (hl : 8 ≤ (requestOf t).content.length)
    (ha : operateRecord x (ofCode orderKindsByCode (read8 (requestOf t).content 0)) (readSigned (requestOf t).content 4) s1 =
      accept out) (hn : out.handovers = s1.handovers) : exec (.operate p f) s = .next (answered t .ok [] out) :=
  run_request_plain h ((serveBy_operate hx hl).trans ha) hn

theorem namedRecord_feeder {r : Request} {k : Fin 32} (ht : r.table = 3) (hi : r.index = k.val) :
    namedRecord r.table r.index = .ok (.feeder k) := by
  rw [ht, hi]
  simp [namedRecord, ofCodeFromOne, tableIdsFromOne, index?]

theorem namedRecord_unit {r : Request} {u : Fin 16} (ht : r.table = 2) (hi : r.index = u.val) :
    namedRecord r.table r.index = .ok (.unit u) := by
  rw [ht, hi]
  simp [namedRecord, ofCodeFromOne, tableIdsFromOne, index?]

/-! ## The obligation -/

theorem suits_feeder {k : Fin 32} : suits s (.feeder k) kind = true ↔ kind = .trip ∨ kind = .close := by simp [suits]

theorem suits_unit {u : Fin 16} : suits s (.unit u) kind = true ↔
    ((s.units[u]).kind = .genset ∧ kind ≠ .trip ∧ kind ≠ .limit) ∨ ((s.units[u]).kind = .pv ∧ kind = .limit) := by
  cases hu : (s.units[u]).kind with
  | genset => cases kind <;> simp_all [suits]
  | pv => cases kind <;> simp_all [suits]
  | unused => simp_all [suits]
  | store => simp_all [suits]

/-- R188, step 4, for a genset. -/
theorem operateBarred_unit {u : Fin 16} : operateBarred s (.unit u) kind = true ↔ (s.units[u]).kind = .genset ∧
    ((s.genset u).state = .unknown ∨ ((s.genset u).state = .lockedOut ∧ (kind = .crank ∨ kind = .close))) := by
  simp only [operateBarred, State.inState, State.isGenset, Bool.or_eq_true, Bool.and_eq_true, decide_eq_true_eq]
  tauto

/-- R188: the profile of an operator's order to a unit, for every kind but a CRANK. -/
theorem operateProfile_unit {u : Fin 16} (h : kind ≠ .crank) : operateProfile s (.unit u) kind =
    if kind = .limit then (s.units[u]).limitProfile
    else if kind = .close ∨ kind = .opn then (s.units[u]).breakerProfile else (s.units[u]).stopProfile := by
  cases kind with
  | crank => exact absurd rfl h
  | _ => rfl

/-- R188: the octet at the head of an OPERATE names a feeder's order kind when it is 0 or 1. -/
theorem feeder_kind {n : Nat} (h : (kind = .trip ∧ n = 0) ∨ (kind = .close ∧ n = 1)) :
    ofCode orderKindsByCode n = some kind ∧ (kind = .trip ∨ kind = .close) := by
  rcases h with ⟨rfl, rfl⟩ | ⟨rfl, rfl⟩ <;> simp [ofCode, orderKindsByCode]

/-- R188, R198: an octet above 1 names no order kind of a feeder. -/
theorem operateRecord_feederOctet {k : Fin 32} {n : Nat} (h : OperateOpen s (.feeder k)) (hn : 1 < n) :
    operateRecord (.feeder k) (ofCode orderKindsByCode n) value s = refuse s .badContent := by
  cases named : ofCode orderKindsByCode n with
  | none => exact operateRecord_unnamed h
  | some kind =>
    refine operateRecord_unsuited h (Bool.eq_false_iff.mpr fun suited => ?_)
    match n, hn with
    | n + 2, _ =>
      have member : kind ∈ orderKindsByCode.drop 2 :=
        List.mem_of_getElem? (i := n) (by rw [List.getElem?_drop, Nat.add_comm]; exact named)
      rcases suits_feeder.mp suited with rfl | rfl <;> exact absurd member (by decide)

theorem recordUsed_unit {u : Fin 16} : s.recordUsed (.unit u) = true ↔ (s.units[u]).kind ≠ .unused := bne_iff_ne

theorem recordUnused_unit {u : Fin 16} : s.recordUsed (.unit u) = false ↔ (s.units[u]).kind = .unused := bne_eq_false_iff_eq

theorem mode_cases (m : Mode) : m = .auto ∨ m = .manual := by cases m <;> simp

/-- R62: the orders of a part with none waiting, whatever is out and counted. -/
theorem ordersEmptied (h : s.orders.queue = []) (tracker : List Slot) (tag : Octet) (c : OrderCounters) :
    ({ s.orders with queue := [], tracker := tracker, tagCounter := tag, counters := c } : OrderUnit) =
      { s.orders with tracker := tracker, tagCounter := tag, counters := c } := by rw [← h]

/-- Settles O23: each check of R188 in turn, and the submission of an order while none waits. -/
theorem operateSubmitsTheOrder : Obligations.OperateSubmitsTheOrder := by
  refine ⟨fun s p f t s1 k kind h ht hi hl => ?_, fun s p f t s1 u kind h ht hi hl hk => ?_, fun s p f t s1 u h ht hi hl hk => ?_⟩
  · have named := namedRecord_feeder ht hi
    have refused := fun status => exec_operate_refused (status := status) h named hl
    have accepted := fun out => exec_operate_accepted (out := out) h named hl
    obtain ⟨m, r, rfl⟩ := requested_eq h
    refine ⟨fun closed => refused _ (operateRecord_closed closed), fun used device manual above => refused _ ?_,
      fun used device manual kinds => ?_⟩
    · exact operateRecord_feederOctet ⟨used, device, manual⟩ above
    · obtain ⟨octet, feederKind⟩ := feeder_kind kinds
      rw [octet] at refused accepted
      have submits := operateRecord_submits (s := { s with managers := m, openRecord := r }) (value := readSigned (requestOf t).content 4)
        (x := .feeder k) ⟨used, device, manual⟩ (suits_feeder.mpr feederKind) rfl (by rcases feederKind with rfl | rfl <;> nofun)
      refine ⟨fun full other => refused _ (submits.trans (operateSubmit_full other full)), fun queue tracker high offset => ?_⟩
      intro rec profile o counters
      refine ⟨fun busy => ?_, fun cycle holdOff allowed inhibit => ?_⟩
      · exact accepted _ (submits.trans (operateSubmit_waits queue busy high offset)) rfl
      · intro tag
        have sends := operateSubmit_sends (s := { s with managers := m, openRecord := r }) (x := .feeder k) (kind := kind)
          (value := readSigned (requestOf t).content 4) queue tracker cycle holdOff inhibit high offset allowed
        refine (accepted _ (submits.trans sends) (sendsAlone_frame _ _).1).trans ?_
        rw [← ordersEmptied queue]
        rfl
  · have named := namedRecord_unit ht hi
    have refused := fun status => exec_operate_refused (status := status) h named hl
    have accepted := fun out => exec_operate_accepted (out := out) h named hl
    have octet : ofCode orderKindsByCode (read8 (requestOf t).content 0) = some kind := hk
    rw [octet] at refused accepted
    obtain ⟨m, r, rfl⟩ := requested_eq h
    intro rec state suited refused'
    refine ⟨fun closed => refused _ (operateRecord_closed (closed.imp_left recordUnused_unit.mpr)),
      fun used device manual => ?_⟩
    have opened : OperateOpen { s with managers := m, openRecord := r } (.unit u) :=
      ⟨recordUsed_unit.mpr used, device, manual⟩
    refine ⟨fun unsuited => refused _ (operateRecord_unsuited opened (Bool.eq_false_iff.mpr fun suit => unsuited (suits_unit.mp suit))),
      fun suit genset barred => refused _ (operateRecord_barred opened (suits_unit.mpr suit) (operateBarred_unit.mpr ⟨genset, ?_⟩)),
      fun suit crank free => ?_⟩
    · exact barred.imp_right fun ⟨locked, close⟩ => ⟨locked, .inr close⟩
    · have submits := operateRecord_submits (value := readSigned (requestOf t).content 4) opened (suits_unit.mpr suit)
        (Bool.eq_false_iff.mpr fun barred => ?_) crank
      · refine ⟨fun full other => refused _ (submits.trans (operateSubmit_full other full)), fun alone => ?_⟩
        intro bound
        have taken := operateSubmit_alone (s := { s with managers := m, openRecord := r }) (x := .unit u) (kind := kind)
          (value := readSigned (requestOf t).content 4) alone (closeAllowed_unit rfl)
        refine (accepted _ (submits.trans taken) submitsAlone_handovers).trans ?_
        rw [operatorOrder, operateProfile_unit crank]
        rfl
      · obtain ⟨genset, barred⟩ := operateBarred_unit.mp barred
        obtain ⟨known, unlocked⟩ := free genset
        rcases barred with unknown | ⟨locked, rfl | close⟩
        · exact known unknown
        · exact crank rfl
        · exact unlocked ⟨locked, close⟩
  · have named := namedRecord_unit ht hi
    have refused := fun status => exec_operate_refused (status := status) h named hl
    have octet : ofCode orderKindsByCode (read8 (requestOf t).content 0) = none := List.getElem?_eq_none hk
    rw [octet] at refused
    obtain ⟨m, r, rfl⟩ := requested_eq h
    intro rec
    split_ifs with closed
    · exact refused _ (operateRecord_closed (closed.imp_left recordUnused_unit.mpr))
    · obtain ⟨used, device, auto⟩ := by simpa only [not_or] using closed
      refine refused _ (operateRecord_unnamed ⟨recordUsed_unit.mpr used, device, ?_⟩)
      exact (mode_cases _).resolve_left auto

end Sys2Proof.Machine
end

section
/-!
SUPPORT. What ends an order and what a Position Report is to the order it is tagged with (R68 to R75), for a record that is no genset.
Settles O24.
-/

namespace Sys2Proof.Machine

variable {s : State} {p : Port} {f : Frame} {t : Telegram} {x : Slot} {y : Target} {e : OrderEnd}

/-! ## The end of an order (R74) -/

/-- R74: the outcome of an order that is no CRANK is told to its owner, unless an operator gave it. -/
theorem endHandovers_outcome {o : Order} (hk : o.kind ≠ .crank) :
    endHandovers o e false true = if o.cause = .operator then [] else [.orderEnd o e false] := by
  unfold endHandovers
  cases hk' : o.kind with
  | crank => exact absurd hk' hk
  | _ => rfl

/-- R74, R75: the slot is free and the end is counted and logged. -/
theorem recordEnd_freed : recordEnd x.order e x.tag.toNat
      (s.modOrders fun u => { u with tracker := u.tracker.filter fun y => y.tag ≠ x.tag }) =
    s.slotFreed x e (s.orders.counters.ended e) := by
  by_cases confirmed : e = .confirmed
  · subst confirmed
    rfl
  · simp only [recordEnd, State.slotFreed, if_neg confirmed]
    rfl

theorem startHoldOff_eq {o : Order} (hk : o.kind ≠ .crank) (he : e ≠ .superseded) :
    startHoldOff o e s = s.setHoldOff o.target (startTimer (timeMs (s.profileOf o).holdOff)) :=
  if_neg (by simp [hk, he])

/-- R65, R74: how an order that is no CRANK ends with an outcome. -/
theorem endSlot_eq (hk : x.order.kind ≠ .crank) (he : e ≠ .superseded) : endSlot x e s =
    (s.slotEnds x e (s.orders.counters.ended e)).post
      ((if x.order.cause = .operator then [] else [.orderEnd x.order e false]) ++ [.sendTest]) := by
  simp only [endSlot, recordEnd_freed, endHandovers_outcome hk, startHoldOff_eq hk he]
  rfl

theorem slotEnds_idle {c : OrderCounters} : (s.slotEnds x e c).handovers = s.handovers ∧
    (s.slotEnds x e c).orders.queue = s.orders.queue ∧ (s.slotEnds x e c).shed = s.shed ∧ (s.slotEnds x e c).dispatch = s.dispatch ∧
    (s.slotEnds x e c).seq = s.seq := by
  unfold State.slotEnds
  cases x.order.target <;> exact ⟨rfl, rfl, rfl, rfl, rfl⟩

theorem slotEnds_participating {u : Fin 16} {c : OrderCounters} :
    ((s.slotEnds x e c).units[u]).participating = (s.units[u]).participating := by
  unfold State.slotEnds
  cases x.order.target with
  | unit v =>
    simp only [State.setHoldOff, modUnit_units, Fin.getElem_fin, modifyAt_get]
    split_ifs <;> rfl
  | feeder k => rfl

/-- R74: an operator's order that ends while none waits is told to no block. -/
theorem settle_endsOperator {h : Handover} (hx : handle h s = endSlot x e s) (hs : s.handovers = []) (hq : s.orders.queue = [])
    (hk : x.order.kind ≠ .crank) (he : e ≠ .superseded) (hc : x.order.cause = .operator) :
    settle (s.post [h]) = s.slotEnds x e (s.orders.counters.ended e) := by
  obtain ⟨handovers, queue, -⟩ := slotEnds_idle (s := s) (x := x) (e := e) (c := s.orders.counters.ended e)
  have ends := hx.trans (endSlot_eq hk he)
  rw [if_pos hc] at ends
  rw [settle_post hs, settleLoop_handed (n := 2 ^ 64 - 8 + 7) ends (handovers.trans hs)]
  exact settleLoop_sendTest (handovers.trans hs) (queue.trans hq)

/-- R74: the end of an order is told to its owner, whose hand-overs change nothing, while none waits to be sent. -/
theorem settle_endsOwned {h : Handover} {out : State} {l : List Handover} (hx : handle h s = endSlot x e s) (hs : s.handovers = [])
    (hk : x.order.kind ≠ .crank) (he : e ≠ .superseded) (hc : x.order.cause ≠ .operator)
    (hown : ownerTold x.order e false (s.slotEnds x e (s.orders.counters.ended e)) = out.post l) (ho : out.handovers = [])
    (hq : out.orders.queue = []) (hl : ∀ z ∈ l, handle z out = out) (few : l.length ≤ 1) : settle (s.post [h]) = out := by
  obtain ⟨handovers, -⟩ := slotEnds_idle (s := s) (x := x) (e := e) (c := s.orders.counters.ended e)
  have ends := hx.trans (endSlot_eq hk he)
  rw [if_neg hc] at ends
  obtain ⟨n, steps⟩ : ∃ n, 2 ^ 64 - 8 + 8 = n + 1 + l.length + 1 + 1 := ⟨2 ^ 64 - 3 - l.length, by omega⟩
  rw [settle_post hs, steps, settleLoop_handed ends (handovers.trans hs), List.append_nil, List.singleton_append,
    settleLoop_handed (x := .orderEnd x.order e false) hown ho, settleLoop_still ho hl]
  exact settleLoop_sendTest ho hq

/-! ## The owners told -/

/-- R113: a plant's LIMIT that is ACCEPTED. -/
theorem ownerTold_limit {o : Order} {u : Fin 16} (hc : o.cause = .curtail) (ht : o.target = .unit u) :
    ownerTold o .confirmed false s = if (s.units[u]).participating
      then s.modPv u fun r => { r with lastSent := some o.value.toNat, outOfStep := false } else s := by
  simp only [ownerTold, hc, ht, limitOrderEnd, decide_true, Bool.and_true]

/-- R136: the Shed Stack with the entry of a feeder DONE. -/
def stackDone (k : Fin 32) (stack : List StackEntry) : List StackEntry :=
  stack.map fun e => if e.feeder = k then { e with done := true } else e

/-- R127: what a changed Shed Stack hands on while it stays empty or not. -/
theorem setStack_posts {new : List StackEntry} (h : s.shed.stack.isEmpty = new.isEmpty) :
    ∃ l, (l = [] ∨ l = [.restoreTest]) ∧ setStack new s = ({ s with shed := { s.shed with stack := new } } : State).post l := by
  unfold setStack
  simp only [h, ne_eq, not_true_eq_false, if_false, List.nil_append]
  split_ifs
  · exact ⟨_, .inl rfl, rfl⟩
  · exact ⟨_, .inr rfl, rfl⟩

/-- R136: a shed TRIP that is CONFIRMED, of a feeder that stands in the Shed Stack at most once. -/
theorem shedTripEnd_confirmed {k : Fin 32} (h : (s.shed.stack.map StackEntry.feeder).Nodup) :
    ∃ l, (l = [] ∨ l = [.restoreTest]) ∧ shedTripEnd k .confirmed s =
      ({ s with shed := { s.shed with stack := stackDone k s.shed.stack } } : State).post l := by
  have unchanged : (∀ y ∈ s.shed.stack, y.feeder = k → y.done = true) →
      s = ({ s with shed := { s.shed with stack := stackDone k s.shed.stack } } : State).post [] := fun done => by
    have same : stackDone k s.shed.stack = s.shed.stack := by
      refine (List.map_congr_left fun y hy => ?_).trans (List.map_id _)
      split_ifs with here
      · rw [id, ← done y hy here]
      · rfl
    rw [same, post_nil]
  unfold shedTripEnd
  cases found : s.shed.entryOf k with
  | none =>
    have absent : ∀ y ∈ s.shed.stack, y.feeder = k → y.done = true := fun y hy here =>
      absurd here (by simpa using List.find?_eq_none.mp found y hy)
    exact ⟨[], .inl rfl, unchanged absent⟩
  | some entry =>
    obtain ⟨here, member⟩ := List.find?_some found, List.mem_of_find?_eq_some found
    by_cases done : entry.done = true
    · have only : ∀ y ∈ s.shed.stack, y.feeder = k → y.done = true := fun y hy at_k => by
        rw [List.inj_on_of_nodup_map h hy member (at_k.trans (of_decide_eq_true here).symm)]
        exact done
      exact ⟨[], .inl rfl, by simpa only [done, if_true] using unchanged only⟩
    · simp only [done, Bool.false_eq_true, if_false, if_true]
      exact setStack_posts (by simp)

/-- R136: the owner of a shed TRIP that is CONFIRMED is Shedding. -/
theorem ownerTold_trip {o : Order} {k : Fin 32} (hc : o.cause = .stageShed ∨ o.cause = .deficitShed) (ht : o.target = .feeder k) :
    ownerTold o e false s = shedTripEnd k e s := by
  rcases hc with hc | hc <;> simp only [ownerTold, hc, ht]

/-! ## A tagged report (R68, R69, R71, R73) -/

theorem matchReport_late {tag : Octet} {refused accepted : Bool} (h : ∀ x ∈ s.orders.tracker, x.tag = tag → x.order.target ≠ y) :
    matchReport y tag refused accepted s = { s with record := s.recordWith [(.lateReport, targetSubject y, tag.toNat, 0)] } := by
  have none : s.orders.tracker.find? (fun x => x.tag = tag && x.order.target = y) = none :=
    List.find?_eq_none.mpr fun x hx => by simpa using h x hx
  rw [matchReport, none]
  rfl

section
variable {tag : Octet} (hx : s.orders.tracker.find? (fun z => z.tag = tag && z.order.target = y) = some x)
include hx

theorem matchReport_refused {accepted : Bool} : matchReport y tag true accepted s = endSlot x .refused s := by
  rw [matchReport, hx]
  rfl

theorem matchReport_unshown {accepted : Bool} (h : expectedShown s x.order accepted = false) :
    matchReport y tag false accepted s = s := by
  simp only [matchReport, hx, h, Bool.not_false, if_true, Bool.false_eq_true, if_false]

theorem matchReport_confirms {accepted : Bool} (h : expectedShown s x.order accepted = true)
    (hw : (s.profileOf x.order).waitMode.confirmsAtOnce = true) : matchReport y tag false accepted s = endSlot x .confirmed s := by
  simp only [matchReport, hx, h, hw, Bool.not_true, if_true, Bool.false_eq_true, if_false]

theorem matchReport_notes {accepted : Bool} (h : expectedShown s x.order accepted = true)
    (hw : (s.profileOf x.order).waitMode.confirmsAtOnce = false) : matchReport y tag false accepted s =
      { s with orders := { s.orders with tracker := s.orders.tracker.map fun z => if z.tag = x.tag then { z with seen := true } else z } } := by
  simp only [matchReport, hx, h, hw, Bool.not_true, Bool.false_eq_true, if_false]
  rfl

end

theorem confirmsAtOnce_iff {w : WaitMode} : w.confirmsAtOnce = true ↔ w = .ready ∨ w = .readyFrozen := by
  cases w <;> simp [WaitMode.confirmsAtOnce]

theorem freezes_iff {w : WaitMode} : w.freezes = true ↔ w = .frozen ∨ w = .readyFrozen := by
  cases w <;> simp [WaitMode.freezes]

/-- R55: the report expected of a feeder's TRIP, a CLOSE and a LIMIT. -/
theorem expectedShown_iff {o : Order} {accepted : Bool}
    (hk : (o.kind = .trip ∧ ∃ k, o.target = .feeder k) ∨ o.kind = .close ∨ o.kind = .limit) :
    expectedShown s o accepted = true ↔ (o.kind = .trip ∧ s.breakerOf o.target = .opened) ∨
      (o.kind = .close ∧ s.breakerOf o.target = .closed) ∨ (o.kind = .limit ∧ accepted = true) := by
  rcases hk with ⟨kind, k, target⟩ | kind | kind
  · simp [expectedShown, kind, target, State.breakerOf]
  · cases target : o.target <;> simp [expectedShown, kind, target, State.breakerOf]
  · simp [expectedShown, kind]

/-! ## INHIBIT (R70) -/

section
variable (hx : s.slotOf y = some x)
include hx

theorem inhibitChange_unfrozen (hw : (s.profileOf x.order).waitMode.freezes = false) : inhibitChange y s = s := by
  simp only [inhibitChange, hx, hw, Bool.not_false, if_true]

theorem inhibitChange_freezes (hw : (s.profileOf x.order).waitMode.freezes = true) (hi : s.targetInhibit y = true)
    (hn : x.inhibit = none) (hl : x.frozenUsed < timeMs (s.profileOf x.order).inhibitLimit) : inhibitChange y s =
      { s with orders := { s.orders with tracker := s.orders.tracker.map fun z =>
        if z.tag = x.tag then { z with inhibit := some (timeMs (s.profileOf x.order).inhibitLimit - x.frozenUsed) } else z } } := by
  have left : ¬ timeMs (s.profileOf x.order).inhibitLimit - x.frozenUsed = 0 := by omega
  simp only [inhibitChange, hx, hw, hi, hn, freeze, if_neg left, Bool.not_true, if_true, Bool.false_eq_true, if_false, Option.isSome_none]
  rfl

theorem inhibitChange_ends (hw : (s.profileOf x.order).waitMode.freezes = true) (hi : s.targetInhibit y = true)
    (hn : x.inhibit = none) (hl : timeMs (s.profileOf x.order).inhibitLimit ≤ x.frozenUsed) :
    inhibitChange y s = endSlot x .inhibited s := by
  have left : timeMs (s.profileOf x.order).inhibitLimit - x.frozenUsed = 0 := by omega
  simp only [inhibitChange, hx, hw, hi, hn, freeze, left, Bool.not_true, if_true, Bool.false_eq_true, if_false, Option.isSome_none]

theorem inhibitChange_thaws {left : Nat} (hw : (s.profileOf x.order).waitMode.freezes = true) (hi : s.targetInhibit y = false)
    (hn : x.inhibit = some left) (hone : ∀ z ∈ s.orders.tracker, z.tag = x.tag → z = x) : inhibitChange y s =
      { s with orders := { s.orders with tracker := s.orders.tracker.map fun z => if z.tag = x.tag
        then { z with inhibit := none, frozenUsed := timeMs (s.profileOf x.order).inhibitLimit - left } else z } } := by
  simp only [inhibitChange, hx, hw, hi, Bool.not_true, Bool.false_eq_true, if_false]
  have thawed : (s.orders.tracker.map fun z => if z.tag = x.tag then thaw (timeMs (s.profileOf x.order).inhibitLimit) z else z) =
      s.orders.tracker.map fun z => if z.tag = x.tag
        then { z with inhibit := none, frozenUsed := timeMs (s.profileOf x.order).inhibitLimit - left } else z := by
    refine List.map_congr_left fun z hz => ?_
    split_ifs with same
    · rw [hone z hz same, thaw, hn]
    · rfl
  exact congrArg (fun l => ({ s with orders := { s.orders with tracker := l } } : State)) thawed

end

/-! ## A report that is admitted (R15, R16) -/

/-- R16: what the device state that a report writes leaves as it was. -/
theorem reported_frame :
    let s0 := (passedOn p f t s).deviceReported y t
    s0.handovers = s.handovers ∧ s0.orders = s.orders ∧ s0.shed = s.shed ∧ s0.dispatch = s.dispatch ∧ s0.profiles = s.profiles ∧
      (∀ l, s0.recordWith l = s.recordWith l) := by
  rw [passedOn_frame]
  cases y <;> exact ⟨rfl, rfl, rfl, rfl, rfl, fun _ => rfl⟩

theorem reported_inhibit : ((passedOn p f t s).deviceReported y t).targetInhibit y = (positionOf t).inhibit := by
  cases y <;> simp only [State.deviceReported, State.targetInhibit, modUnit_units, modFeeder_feeders, Fin.getElem_fin, modifyAt_get,
    if_true] <;> rfl

/-- R36: a report changes no plant's participation. -/
theorem reported_participating (u : Fin 16) :
    (((passedOn p f t s).deviceReported y t).units[u]).participating = (s.units[u]).participating := by
  rw [passedOn_frame]
  cases y with
  | unit v =>
    simp only [State.deviceReported, modUnit_units, Fin.getElem_fin, modifyAt_get]
    split_ifs <;> rfl
  | feeder k => rfl

theorem newerOrFirst_last {last : Option TelSeq} {q : TelSeq} (h : last = none ∨ ∃ l, last = some l ∧ newer q l = true) :
    newerOrFirst q last = true := by
  rcases h with rfl | ⟨l, rfl, hn⟩
  · rfl
  · exact hn

/-- R15, R16: an admitted report of a record that is no genset writes its device state, and goes to the Order Unit. -/
theorem exec_reported (h : Arrives s p f t) (hk : t.kind = kindPositionReport) (hr : recordOf s t.sender = some y)
    (hn : s.lastPosOf y = none ∨ ∃ l, s.lastPosOf y = some l ∧ newer t.seq l = true)
    (hg : ∀ u : Fin 16, y = .unit u → (s.units[u]).kind ≠ .genset) (hs : SheetKept ((passedOn p f t s).deviceReported y t)) :
    exec (.positionReport p f) s = .next (settle (((passedOn p f t s).deviceReported y t).post
      (orderHandovers y (positionOf t) (s.targetInhibit y)))) := by
  rw [exec_positionReport h hk]
  cases y with
  | unit u =>
    have other := hg u rfl
    have new : newerOrFirst t.seq (s.units[u]).lastPos = true := newerOrFirst_last hn
    have wrote : (passedOn p f t s).modUnit u (writeUnitDevice (positionOf t)) = (passedOn p f t s).deviceReported (.unit u) t :=
      congrArg ((passedOn p f t s).modUnit u) (funext fun r => by
        unfold writeUnitDevice
        by_cases genset : r.kind = .genset <;> simp only [genset, if_true, if_false] <;> rfl)
    rw [takePositionReport_unit (passedOn_recordOf.trans hr), passedOn_units, if_pos new, acceptUnitReport]
    simp only [passedOn_units, if_neg other, List.append_nil, wrote]
    rfl
  | feeder k =>
    have new : newerOrFirst t.seq (s.feeders[k]).lastPos = true := newerOrFirst_last hn
    have wrote : (passedOn p f t s).modFeeder k (writeFeederDevice (positionOf t)) = (passedOn p f t s).deviceReported (.feeder k) t := rfl
    rw [takePositionReport_feeder (passedOn_recordOf.trans hr), passedOn_feeders, if_pos new, acceptFeederReport]
    simp only [passedOn_feeders, wrote, recompute_same hs.symm, ite_self]
    rfl

/-- R113: the LIMIT of a plant ends CONFIRMED. -/
theorem settle_confirmsLimit {h : Handover} {u : Fin 16} (hx : handle h s = endSlot x .confirmed s) (hs : s.handovers = [])
    (hq : s.orders.queue = []) (hk : x.order.kind ≠ .crank) (ht : x.order.target = .unit u) (hc : x.order.cause = .curtail) :
    settle (s.post [h]) = if (s.units[u]).participating
      then (s.slotEnds x .confirmed (s.orders.counters.ended .confirmed)).modPv u fun r =>
        { r with lastSent := some x.order.value.toNat, outOfStep := false }
      else s.slotEnds x .confirmed (s.orders.counters.ended .confirmed) := by
  obtain ⟨handovers, queue, -⟩ := slotEnds_idle (s := s) (x := x) (e := .confirmed) (c := s.orders.counters.ended .confirmed)
  have same := slotEnds_participating (s := s) (x := x) (e := .confirmed) (u := u) (c := s.orders.counters.ended .confirmed)
  generalize hy : s.slotEnds x .confirmed (s.orders.counters.ended .confirmed) = y at handovers queue same ⊢
  have told := ownerTold_limit (s := y) hc ht
  rw [same] at told
  have owned : ownerTold x.order .confirmed false (s.slotEnds x .confirmed (s.orders.counters.ended .confirmed)) =
      (if (s.units[u]).participating then y.modPv u fun r => { r with lastSent := some x.order.value.toNat, outOfStep := false }
        else y).post [] := by
    rw [hy, post_nil]
    exact told
  have idle : y.handovers = [] := handovers.trans hs
  have empty : y.orders.queue = [] := queue.trans hq
  refine settle_endsOwned hx hs hk nofun (by rw [hc]; nofun) owned ?_ ?_ (fun _ hz => absurd hz List.not_mem_nil) (Nat.zero_le 1)
  · split_ifs <;> exact idle
  · split_ifs <;> exact empty

theorem restoreTest_barred (hp : s.shed.permission = false) (hw : s.dispatch.restoreWait = none) : restoreTest s = s := by
  rw [restoreTest_quiet (.inl hp), hw, ite_self, ← hw]

/-- R136: the TRIP of a shed feeder ends CONFIRMED. -/
theorem settle_confirmsTrip {h : Handover} {k : Fin 32} (hx : handle h s = endSlot x .confirmed s) (hs : s.handovers = [])
    (hq : s.orders.queue = []) (hk : x.order.kind ≠ .crank) (ht : x.order.target = .feeder k)
    (hc : x.order.cause = .stageShed ∨ x.order.cause = .deficitShed) (hn : (s.shed.stack.map StackEntry.feeder).Nodup)
    (hp : s.shed.permission = false) (hw : s.dispatch.restoreWait = none) : settle (s.post [h]) =
      { s.slotEnds x .confirmed (s.orders.counters.ended .confirmed) with
        shed := { s.shed with stack := stackDone k s.shed.stack } } := by
  obtain ⟨handovers, queue, shed, dispatch, -⟩ :=
    slotEnds_idle (s := s) (x := x) (e := .confirmed) (c := s.orders.counters.ended .confirmed)
  generalize hy : s.slotEnds x .confirmed (s.orders.counters.ended .confirmed) = y at handovers queue shed dispatch
  obtain ⟨l, few, told⟩ := shedTripEnd_confirmed (s := y) (k := k) (by rw [shed]; exact hn)
  rw [shed] at told
  have still : ∀ z ∈ l, handle z ({ y with shed := { s.shed with stack := stackDone k s.shed.stack } } : State) =
      { y with shed := { s.shed with stack := stackDone k s.shed.stack } } := fun z hz => by
    obtain rfl : z = .restoreTest := by rcases few with rfl | rfl <;> simp_all
    exact restoreTest_barred hp (by rw [dispatch]; exact hw)
  have owner : x.order.cause ≠ .operator := by rcases hc with hc | hc <;> rw [hc] <;> nofun
  have owned : ownerTold x.order .confirmed false (s.slotEnds x .confirmed (s.orders.counters.ended .confirmed)) =
      ({ y with shed := { s.shed with stack := stackDone k s.shed.stack } } : State).post l := by
    rw [ownerTold_trip hc ht, hy]
    exact told
  exact settle_endsOwned hx hs hk nofun owner owned (handovers.trans hs) (queue.trans hq) still (by rcases few with rfl | rfl <;> simp)

/-! ## The obligation -/

section
variable {s0 : State} (h : Arrives s p f t) (hk : t.kind = kindPositionReport) (hr : recordOf s t.sender = some y)
    (hn : s.lastPosOf y = none ∨ ∃ l, s.lastPosOf y = some l ∧ newer t.seq l = true)
    (hg : ∀ u : Fin 16, y = .unit u → (s.units[u]).kind ≠ .genset) (h0 : (passedOn p f t s).deviceReported y t = s0) (hs : SheetKept s0)
include h hk hr hn hg h0 hs

/-- R68: a report under a tag that shows INHIBIT as before goes to the order of its tag. -/
theorem exec_tagged {out : State} (same : (positionOf t).inhibit = s.targetInhibit y) (tagged : octet t.body 0 ≠ 0)
    (hout : settle (s0.post [.taggedReport y (octet t.body 0) (positionOf t).refused (positionOf t).accepted]) = out) :
    exec (.positionReport p f) s = .next out := by
  subst h0
  have posts : orderHandovers y (positionOf t) (s.targetInhibit y) =
      [.taggedReport y (octet t.body 0) (positionOf t).refused (positionOf t).accepted] := by
    have tag : (positionOf t).tag ≠ 0 := tagged
    simp only [orderHandovers, if_pos tag, same, ne_eq, not_true_eq_false, if_false, List.append_nil]
    rfl
  rw [exec_reported h hk hr hn hg hs, posts, hout]

/-- R70: a report under no tag that changes INHIBIT goes to the order that is out to its record. -/
theorem exec_inhibited {out : State} (untagged : octet t.body 0 = 0) (changed : (positionOf t).inhibit ≠ s.targetInhibit y)
    (hout : settle (s0.post [.inhibitChange y]) = out) : exec (.positionReport p f) s = .next out := by
  subst h0
  have posts : orderHandovers y (positionOf t) (s.targetInhibit y) = [.inhibitChange y] := by
    have tag : ¬ (positionOf t).tag ≠ 0 := not_not.mpr untagged
    simp only [orderHandovers, if_neg tag, if_pos changed, List.nil_append]
  rw [exec_reported h hk hr hn hg hs, posts, hout]

/-- R70: a report under no tag that leaves INHIBIT as it was goes to no order. -/
theorem exec_untagged (untagged : octet t.body 0 = 0) (same : (positionOf t).inhibit = s.targetInhibit y) :
    exec (.positionReport p f) s = .next s0 := by
  subst h0
  have posts : orderHandovers y (positionOf t) (s.targetInhibit y) = [] := by
    have tag : ¬ (positionOf t).tag ≠ 0 := not_not.mpr untagged
    simp only [orderHandovers, if_neg tag, same, ne_eq, not_true_eq_false, if_false, List.append_nil]
  rw [exec_reported h hk hr hn hg hs, posts, post_nil, settle_nil (reported_frame.1.trans h.1.2)]

end

/-- Settles O24: the report goes to the order of its tag, or to INHIBIT, and each ends, notes or leaves the order. -/
theorem taggedReportsJudgeTheirOrder : Obligations.TaggedReportsJudgeTheirOrder := by
  intro s p f t target h hk hr hn hg flag tag s0 counters slots hs hq
  have judged := fun {out : State} => exec_tagged (out := out) h hk hr hn hg rfl hs
  have inhibited := fun {out : State} => exec_inhibited (out := out) h hk hr hn hg rfl hs
  have untouched := exec_untagged h hk hr hn hg rfl hs
  obtain ⟨handovers, orders, shed, dispatch, profiles, record⟩ := reported_frame (s := s) (p := p) (f := f) (t := t) (y := target)
  have inhibit : s0.targetInhibit target = flag 0 := reported_inhibit
  have idle : s0.handovers = [] := handovers.trans h.1.2
  have queue : s0.orders.queue = [] := (congrArg OrderUnit.queue orders).trans hq
  have profile : ∀ o, s0.profileOf o = s.profileOf o := fun o => congrArg (·[o.profile]) profiles
  refine ⟨fun same tagged => ⟨fun late => ?_, fun x hx => ?_⟩, fun untagged => ⟨fun free => ?_, fun x hx => ?_⟩⟩
  · refine judged same tagged (settle_post_one (t := { s0 with record := s.recordWith [(.lateReport, targetSubject target, tag.toNat, 0)] })
      idle ?_ idle)
    rw [← record]
    exact matchReport_late (by rw [orders]; exact late)
  · intro shown atOnce confirmed kinds
    have aim : x.order.target = target := by
      have both := List.find?_some hx
      exact of_decide_eq_true (Bool.and_eq_true_iff.mp both).2
    have found : s0.orders.tracker.find? (fun z => z.tag = tag && z.order.target = target) = some x := by rw [orders]; exact hx
    have kind : x.order.kind ≠ .crank := by
      rcases kinds with ⟨h, -⟩ | h | h <;> rw [h] <;> nofun
    have shows : expectedShown s0 x.order (positionOf t).accepted = true ↔ shown := by
      have expected := expectedShown_iff (s := s0) (o := x.order) (accepted := (positionOf t).accepted) (by rw [aim]; exact kinds)
      rw [aim] at expected
      exact expected
    have refusing : ∀ b, flag 1 = b → (positionOf t).refused = b := fun _ h => h
    refine ⟨fun cause refused => judged same tagged ?_, fun taken => ?_⟩
    · have ends : handle (.taggedReport target tag (positionOf t).refused (positionOf t).accepted) s0 = endSlot x .refused s0 := by
        rw [refusing _ refused]
        exact matchReport_refused found
      have ended := settle_endsOperator ends idle queue kind nofun cause
      rw [orders] at ended
      exact ended
    have matched : handle (.taggedReport target tag (positionOf t).refused (positionOf t).accepted) s0 =
        matchReport target tag false (positionOf t).accepted s0 := by
      rw [refusing _ taken]
      rfl
    refine ⟨fun unshown => judged same tagged ?_, fun seen waits => judged same tagged ?_, fun seen ready => ?_⟩
    · exact settle_post_one idle (matched.trans (matchReport_unshown found (Bool.eq_false_iff.mpr (unshown ∘ shows.mp)))) idle
    · have unready : (s0.profileOf x.order).waitMode.confirmsAtOnce = false := by
        rw [profile]
        exact Bool.eq_false_iff.mpr (waits ∘ confirmsAtOnce_iff.mp)
      have noted := matchReport_notes found (shows.mpr seen) unready
      rw [orders] at noted
      exact settle_post_one idle (matched.trans noted) idle
    · have atOnce : (s0.profileOf x.order).waitMode.confirmsAtOnce = true := by
        rw [profile]
        exact confirmsAtOnce_iff.mpr ready
      have ends := matched.trans (matchReport_confirms found (shows.mpr seen) atOnce)
      refine ⟨fun cause => judged same tagged ?_, fun u unit cause => judged same tagged ?_,
        fun k feeder trip cause kept permission wait => judged same tagged ?_⟩
      · have ended := settle_endsOperator ends idle queue kind nofun cause
        rw [orders] at ended
        exact ended
      · have ended := settle_confirmsLimit ends idle queue kind (aim.trans unit) cause
        rw [orders, reported_participating] at ended
        exact ended
      · have ended := settle_confirmsTrip ends idle queue kind (aim.trans feeder) cause (by rw [shed]; exact kept.1)
          (by rw [shed]; exact permission) (by rw [dispatch]; exact wait)
        rw [orders, shed] at ended
        exact ended
  · by_cases same : (positionOf t).inhibit = s.targetInhibit target
    · exact untouched untagged same
    · refine inhibited untagged same (settle_post_one idle ?_ idle)
      have none_out : s0.slotOf target = none := by rw [State.slotOf, orders]; exact free
      change inhibitChange target s0 = s0
      rw [inhibitChange, none_out]
  · intro freezes limit
    have found : s0.slotOf target = some x := by rw [State.slotOf, orders]; exact hx
    have limits : timeMs (s0.profileOf x.order).inhibitLimit = limit := by rw [profile]
    have mode : freezes → (s0.profileOf x.order).waitMode.freezes = true := fun h => by
      rw [profile]
      exact freezes_iff.mpr h
    have changes : ∀ {a b : Bool}, s.targetInhibit target = a → flag 0 = b → b ≠ a → (positionOf t).inhibit ≠ s.targetInhibit target :=
      fun before after ne same => ne (after.symm.trans (same.trans before))
    refine ⟨fun still => ?_, fun frozen before after running => ⟨fun left => ?_, fun spent cause kind => ?_⟩,
      fun left held frozen before after one => ?_⟩
    · by_cases same : (positionOf t).inhibit = s.targetInhibit target
      · exact untouched untagged same
      · have unfrozen : (s0.profileOf x.order).waitMode.freezes = false := by
          rw [profile]
          exact Bool.eq_false_iff.mpr (still.resolve_right same ∘ freezes_iff.mp)
        exact inhibited untagged same (settle_post_one idle (inhibitChange_unfrozen found unfrozen) idle)
    · have frozen := inhibitChange_freezes found (mode frozen) (inhibit.trans after) running (by rw [limits]; exact left)
      rw [orders, limits] at frozen
      exact inhibited untagged (changes before after nofun) (settle_post_one idle frozen idle)
    · have ends := inhibitChange_ends found (mode frozen) (inhibit.trans after) running (by rw [limits]; exact spent)
      have ended := settle_endsOperator (h := .inhibitChange target) ends idle queue kind nofun cause
      rw [orders] at ended
      exact inhibited untagged (changes before after nofun) ended
    · have thawed := inhibitChange_thaws found (mode frozen) (inhibit.trans after) held (by rw [orders]; exact one)
      rw [orders, limits] at thawed
      exact inhibited untagged (changes before after nofun) (settle_post_one idle thawed idle)

end Sys2Proof.Machine
end

section
/-!
SUPPORT. The walk of a stage that trips (R129, R132): an entry of another stage is passed by, and the marks of one entry or two.
-/

namespace Sys2Proof.Machine

variable {s : State} {i : Fin 8} {w : Walk} {k j l : Fin 32} {f g : Fin 32} {table : Vector ShedEntry 32}

/-- R132: the walk of a stage over these entries. -/
def stageOver (i : Fin 8) (l : List (Fin 32)) (w : Walk) : Walk := walkOver .stage (fun e => e.stage = i) none l w

theorem stageOver_cons {rest : List (Fin 32)} :
    stageOver i (k :: rest) w = stageOver i rest (walkEntry .stage (fun e => e.stage = i) k w) := rfl

theorem stageOver_append {a b : List (Fin 32)} : stageOver i (a ++ b) w = stageOver i b (stageOver i a w) := by
  induction a generalizing w with
  | nil => rfl
  | cons k a ih => rw [List.cons_append, stageOver_cons, stageOver_cons, ih]

/-! ## One entry -/

/-- R129: an entry that a stage's walk does not examine: unused, or of another stage. -/
def ShedEntry.Apart (e : ShedEntry) (i : Fin 8) : Prop := e.feeder = none ∨ e.stage ≠ i

theorem walkEntry_apart (h : (w.state.shed.table[k]).Apart i) (hm : k.val ∉ w.marks) :
    walkEntry .stage (fun e => e.stage = i) k w = w := by
  unfold walkEntry
  cases named : (w.state.shed.table[k]).feeder with
  | none => simp only [named]
  | some f =>
    have other : (w.state.shed.table[k]).stage ≠ i := h.resolve_left (by rw [named]; nofun)
    simp only [named, if_neg hm, decide_eq_false other, Bool.not_false, if_true]

theorem stageOver_apart {l : List (Fin 32)} (h : ∀ x ∈ l, (w.state.shed.table[x]).Apart i ∧ x.val ∉ w.marks) : stageOver i l w = w := by
  induction l with
  | nil => rfl
  | cons x l ih =>
    obtain ⟨apart, unmarked⟩ := h x (List.mem_cons_self ..)
    rw [stageOver_cons, walkEntry_apart apart unmarked, ih fun y hy => h y (List.mem_cons_of_mem x hy)]

/-- R128, R132: a feeder is taken for a stage if it is eligible. -/
def shedsIf (f : Fin 32) (s : State) : State := if eligibleFeeder s f then takeFeeder f .stage (loadOf s f) s else s

theorem walkEntry_examined (named : (w.state.shed.table[k]).feeder = some f) (stage : (w.state.shed.table[k]).stage = i)
    (hm : k.val ∉ w.marks) :
    (walkEntry .stage (fun e => e.stage = i) k w).state = shedsIf f w.state ∧
      (walkEntry .stage (fun e => e.stage = i) k w).marks = marksAfter w.state.shed.table k (eligibleFeeder w.state f) w.marks := by
  unfold walkEntry shedsIf
  simp only [named, if_neg hm, decide_eq_true stage, Bool.not_true, Bool.false_eq_true, if_false]
  by_cases h : eligibleFeeder w.state f = true
  · simp only [h, if_true, and_true]
    rfl
  · simp only [Bool.eq_false_iff.mpr h, Bool.false_eq_true, if_false, and_true]

theorem walkEntry_marked (named : (w.state.shed.table[k]).feeder = some f) (hm : w.marks = [k.val]) :
    (walkEntry .stage (fun e => e.stage = i) k w).state = w.state ∧ (walkEntry .stage (fun e => e.stage = i) k w).marks = [] := by
  unfold walkEntry
  simp only [named, hm, List.mem_singleton, if_true]
  simp

/-! ## Marks (R129) -/

theorem nextEntry_none (stage : (table[k]).stage = i) (h : ∀ l : Fin 32, k < l → (table[l]).Apart i) : nextEntry table k = none := by
  refine List.find?_eq_none.mpr fun l _ found => ?_
  simp only [Bool.and_eq_true, decide_eq_true_eq] at found
  obtain ⟨⟨after, used⟩, same⟩ := found
  rcases h l after with unused | other
  · rw [unused] at used; cases used
  · exact other (same.trans stage)

theorem nextEntry_only (stage : (table[k]).stage = i) (hkj : k < j) (named : (table[j]).feeder = some g) (same : (table[j]).stage = i)
    (h : ∀ l : Fin 32, k < l → l ≠ j → (table[l]).Apart i) : nextEntry table k = some j := by
  have meets : (k < j && (table[j]).feeder.isSome && (table[j]).stage = (table[k]).stage) = true := by
    have used : (table[j]).feeder.isSome = true := by rw [named]; rfl
    simp only [used, decide_eq_true hkj, decide_eq_true (same.trans stage.symm), Bool.and_self]
  cases found : nextEntry table k with
  | none => exact absurd meets (List.find?_eq_none.mp found j (List.mem_finRange j))
  | some l =>
    have passes := List.find?_some found
    simp only [Bool.and_eq_true, decide_eq_true_eq] at passes
    obtain ⟨⟨after, used⟩, alike⟩ := passes
    by_contra other
    rcases h l after (fun e => other (congrArg some e)) with unused | apart
    · rw [unused] at used; cases used
    · exact apart (alike.trans stage)

theorem marksAfter_last {b : Bool} {m : List Nat} (h : nextEntry table k = none) : marksAfter table k b m = m := by
  simp only [marksAfter, h]

/-- R129: an entry marks the next of its stage by its condition. -/
abbrev Passes (e : ShedEntry) (taken : Bool) : Prop :=
  (e.condition = .skipNextIfTaken ∧ taken = true) ∨ (e.condition = .skipNextIfPassed ∧ taken = false)

theorem marksAfter_passes {b : Bool} (h : nextEntry table k = some j) (hp : Passes table[k] b) : marksAfter table k b [] = [j.val] := by
  rcases hp with ⟨condition, taken⟩ | ⟨condition, taken⟩ <;> simp only [marksAfter, h, condition, taken, List.nil_append]

theorem marksAfter_lets {b : Bool} (hp : ¬ Passes table[k] b) : marksAfter table k b [] = [] := by
  unfold marksAfter
  split
  case h_1 condition => exact absurd (.inl ⟨condition, rfl⟩) hp
  case h_2 condition => exact absurd (.inr ⟨condition, rfl⟩) hp
  case h_3 => rfl

/-! ## The walk -/

theorem shedsIf_shed (h : s.shed.underRestore = none) : (shedsIf f s).shed = { s.shed with
    stack := s.shed.stack ++ if eligibleFeeder s f = true then [⟨f, loadOf s f, .stage, false⟩] else [] } := by
  unfold shedsIf
  split_ifs
  · exact takeFeeder_shed (by rw [h]; nofun)
  · rw [List.append_nil]

theorem shedsIf_table (h : s.shed.underRestore = none) : (shedsIf f s).shed.table = s.shed.table := by rw [shedsIf_shed h]

/-- R129: an entry, what stands before it and what stands behind it. -/
theorem finRange_split (k : Fin 32) : ∃ a b, List.finRange 32 = a ++ k :: b ∧ (∀ x ∈ a, x < k) ∧ ∀ x ∈ b, k < x := by
  obtain ⟨a, b, split⟩ := List.append_of_mem (List.mem_finRange k)
  have sorted := List.pairwise_lt_finRange 32
  rw [split, List.pairwise_append, List.pairwise_cons] at sorted
  obtain ⟨-, ⟨after, -⟩, before⟩ := sorted
  exact ⟨a, b, split, fun x hx => before x hx k (List.mem_cons_self ..), after⟩

theorem stageWalk_none (h : ∀ l : Fin 32, (s.shed.table[l]).Apart i) :
    stageOver i (List.finRange 32) ⟨s, 0, 0, []⟩ = ⟨s, 0, 0, []⟩ :=
  stageOver_apart fun x _ => ⟨h x, List.not_mem_nil⟩

/-- R129, R132: the walk of a stage with one entry. -/
theorem stageWalk_one (named : (s.shed.table[k]).feeder = some f) (stage : (s.shed.table[k]).stage = i)
    (h : ∀ l : Fin 32, l ≠ k → (s.shed.table[l]).Apart i) (hu : s.shed.underRestore = none) :
    (stageOver i (List.finRange 32) ⟨s, 0, 0, []⟩).state = shedsIf f s := by
  obtain ⟨a, b, split, before, after⟩ := finRange_split k
  obtain ⟨state, marks⟩ := walkEntry_examined (w := ⟨s, 0, 0, []⟩) named stage List.not_mem_nil
  rw [marksAfter_last (nextEntry_none stage fun l hl => h l hl.ne')] at marks
  have rest : ∀ x ∈ b, ((walkEntry .stage (fun e => e.stage = i) k ⟨s, 0, 0, []⟩).state.shed.table[x]).Apart i ∧
      x.val ∉ (walkEntry .stage (fun e => e.stage = i) k ⟨s, 0, 0, []⟩).marks := fun x hx => by
    rw [state, marks, shedsIf_table hu]
    exact ⟨h x (after x hx).ne', List.not_mem_nil⟩
  rw [split, stageOver_append, stageOver_apart fun x hx => ⟨h x (before x hx).ne, List.not_mem_nil⟩, stageOver_cons,
    stageOver_apart rest, state]

/-- R129, R132: the walk of a stage with two entries. -/
theorem stageWalk_two (hkj : k < j) (namedf : (s.shed.table[k]).feeder = some f) (namedg : (s.shed.table[j]).feeder = some g)
    (stagek : (s.shed.table[k]).stage = i) (stagej : (s.shed.table[j]).stage = i)
    (h : ∀ l : Fin 32, l ≠ k → l ≠ j → (s.shed.table[l]).Apart i) (hu : s.shed.underRestore = none) :
    (Passes s.shed.table[k] (eligibleFeeder s f) →
      (stageOver i (List.finRange 32) ⟨s, 0, 0, []⟩).state = shedsIf f s) ∧
    (¬ Passes s.shed.table[k] (eligibleFeeder s f) →
      (stageOver i (List.finRange 32) ⟨s, 0, 0, []⟩).state = shedsIf g (shedsIf f s)) := by
  obtain ⟨a, b, split, before, after⟩ := finRange_split k
  obtain ⟨m, n, split', before', after'⟩ : ∃ m n, b = m ++ j :: n ∧ (∀ x ∈ m, x ≠ j) ∧ ∀ x ∈ n, x ≠ j := by
    have nodup := List.nodup_finRange 32
    have mem := List.mem_finRange j
    rw [split] at nodup mem
    have behind : j ∈ b := by
      rcases List.mem_append.mp mem with hj | hj
      · exact absurd (before j hj) hkj.not_gt
      · exact (List.mem_cons.mp hj).resolve_left hkj.ne'
    obtain ⟨m, n, parts⟩ := List.append_of_mem behind
    have once : (m ++ j :: n).Nodup := parts ▸ (List.nodup_append.mp nodup).2.1.of_cons
    obtain ⟨-, tail, apart⟩ := List.nodup_append.mp once
    exact ⟨m, n, parts, fun x hx => apart x hx j (List.mem_cons_self ..), fun x hx e => (List.nodup_cons.mp tail).1 (e ▸ hx)⟩
  obtain ⟨state, marks⟩ := walkEntry_examined (w := ⟨s, 0, 0, []⟩) namedf stagek List.not_mem_nil
  have next : nextEntry s.shed.table k = some j := nextEntry_only stagek hkj namedg stagej fun l hl hj => h l hl.ne' hj
  have last : nextEntry s.shed.table j = none := nextEntry_none stagej fun l hl => h l (hkj.trans hl).ne' hl.ne'
  generalize hw : walkEntry .stage (fun e => decide (e.stage = i)) k ⟨s, 0, 0, []⟩ = w at state marks
  have table : w.state.shed.table = s.shed.table := by rw [state, shedsIf_table hu]
  have apart : ∀ x, k < x → x ≠ j → (w.state.shed.table[x]).Apart i := fun x hk hj => by
    rw [table]
    exact h x hk.ne' hj
  have reached : stageOver i (List.finRange 32) ⟨s, 0, 0, []⟩ = stageOver i (m ++ j :: n) w := by
    rw [split, stageOver_append, stageOver_apart fun x hx => ⟨h x (before x hx).ne ((before x hx).trans hkj).ne, List.not_mem_nil⟩,
      stageOver_cons, hw, split']
  rw [reached, stageOver_append, stageOver_cons]
  have between : ∀ x ∈ m, k < x := fun x hx => after x (split' ▸ List.mem_append_left _ hx)
  have beyond : ∀ x ∈ n, k < x := fun x hx => after x (split' ▸ List.mem_append_right _ (List.mem_cons_of_mem j hx))
  rw [← table] at namedg stagej last
  refine ⟨fun passes => ?_, fun lets => ?_⟩
  · rw [marksAfter_passes next passes] at marks
    have toSecond : stageOver i m w = w := stageOver_apart fun x hx => ⟨apart x (between x hx) (before' x hx), by
      rw [marks, List.mem_singleton]
      exact fun e => before' x hx (Fin.ext e)⟩
    obtain ⟨left, unmarked⟩ := walkEntry_marked (i := i) namedg marks
    have toEnd : ∀ x ∈ n, ((walkEntry .stage (fun e => e.stage = i) j w).state.shed.table[x]).Apart i ∧
        x.val ∉ (walkEntry .stage (fun e => e.stage = i) j w).marks := fun x hx => by
      rw [left, unmarked]
      exact ⟨apart x (beyond x hx) (after' x hx), List.not_mem_nil⟩
    rw [toSecond, stageOver_apart toEnd, left, state]
  · rw [marksAfter_lets lets] at marks
    have toSecond : stageOver i m w = w := stageOver_apart fun x hx => ⟨apart x (between x hx) (before' x hx), by
      rw [marks]
      exact List.not_mem_nil⟩
    obtain ⟨second, unmarked⟩ := walkEntry_examined namedg stagej (by rw [marks]; exact List.not_mem_nil)
    rw [marksAfter_last last, marks] at unmarked
    have free : w.state.shed.underRestore = none := by rw [state, shedsIf_shed hu]; exact hu
    have toEnd : ∀ x ∈ n, ((walkEntry .stage (fun e => e.stage = i) j w).state.shed.table[x]).Apart i ∧
        x.val ∉ (walkEntry .stage (fun e => e.stage = i) j w).marks := fun x hx => by
      rw [second, unmarked, shedsIf_table free]
      exact ⟨apart x (beyond x hx) (after' x hx), List.not_mem_nil⟩
    rw [toSecond, stageOver_apart toEnd, second, state]

end Sys2Proof.Machine
end

section
/-!
SUPPORT. What a stage that trips hands on: the TRIPs it submits (R58, R62, R72), the tests at a new top of the Shed Stack (R127), and a
run suspended (R161). Settles O33.
-/

namespace Sys2Proof.Machine

variable {s y : State} {i : Fin 8} {k f g : Fin 32} {o : Order} {x : Slot} {top : StackEntry}

/-! ## PROTECTIVE orders -/

/-- R58: a PROTECTIVE order submitted while none waits joins the queue, and a send test is taken. -/
theorem submitProtective_joins (hq : s.orders.queue = []) (hh : s.orders.queueHigh = false) (ho : s.settings.queueOffset ≤ 30) :
    submitProtective o s = sendTest (s.queuesAlone (s.submitted o .protective)) := by
  have room : dropLast (cancelWhere (fun q => q.cls = .routine && q.target = o.target) false s) = s := by
    simp [cancelWhere, dropLast, hq, Config.queueSize]
  simp only [submitProtective, hq, List.find?_nil, room, List.filter_nil, List.nil_append, List.append_nil]
  rw [setQueue_low hh (by simp; omega)]
  rfl

/-- R62: the only order that waits is sent if it is eligible. -/
theorem sendTest_single (hq : s.orders.queue = [o]) (he : eligible s o = true) : sendTest s = sendOne o s := by
  have found : s.orders.queue.find? (eligible s) = some o := by simp [hq, he]
  simp only [sendTest, hq, List.length_cons, List.length_nil, sendLoop]
  rw [← hq, found]

/-- R72: an operator's order, no CRANK, that a PROTECTIVE order supersedes. -/
theorem endSlot_superseded (hk : x.order.kind ≠ .crank) (hc : x.order.cause = .operator) : endSlot x .superseded s =
    (s.slotFreed x .superseded (s.orders.counters.ended .superseded)).post [.sendTest] := by
  have held : ∀ t : State, startHoldOff x.order .superseded t = t := fun t => if_pos (by simp)
  simp only [endSlot, recordEnd_freed, endHandovers_outcome hk, hc, if_true, List.nil_append, held]

theorem sendsAlone_posted {l : List Handover} : (s.post l).sendsAlone o = (s.sendsAlone o).post l := by
  rw [sendsAlone_eq, sendsAlone_eq]
  cases o.target <;> rfl

/-- R62, R72: the operator's order that is out ends SUPERSEDED and the PROTECTIVE order is sent in its place. -/
theorem sendTest_supersedes (hq : s.orders.queue = [o]) (hc : o.cls = .protective) (ht : s.orders.tracker = [x])
    (hx : x.order.target = o.target) (hr : x.order.cls = .routine) (hk : x.order.kind ≠ .crank) (hop : x.order.cause = .operator)
    (hi : s.targetInhibit o.target = false) (hh : s.orders.queueHigh = false) (ho : s.settings.queueOffset ≤ 31) :
    sendTest s = ((s.slotFreed x .superseded (s.orders.counters.ended .superseded)).sendsAlone o).post [.sendTest] := by
  have out : s.slotOf o.target = some x := by simp [State.slotOf, ht, hx]
  have freed : s.freedFor o = (s.slotFreed x .superseded (s.orders.counters.ended .superseded)).post [.sendTest] := by
    rw [State.freedFor, out]
    exact endSlot_superseded hk hop
  have empty : (s.freedFor o).orders.tracker = [] := by
    rw [freed]
    simp [State.post, State.slotFreed, ht]
  have settled : (s.freedFor o).freedFor o = s.freedFor o := by
    rw [State.freedFor, State.slotOf, empty]
    rfl
  have again : sendOne o s = sendOne o (s.freedFor o) := by rw [sendOne_eq, sendOne_eq, settled]
  have queue : (s.freedFor o).orders.queue = [o] := by rw [freed]; exact hq
  have eligible' : eligible (s.freedFor o) o = true := by
    simp [eligible, hc, State.slotOf, empty, Config.trackerSize]
  rw [sendTest_single hq (by simp [eligible, hc, out, hr]), again, ← sendTest_single queue eligible',
    sendTest_alone queue eligible' empty (by rw [freed]; exact hi) (by rw [freed]; exact hh) (by rw [freed]; exact ho), freed,
    sendsAlone_posted]

/-- R62: a PROTECTIVE order to a device with no order out is sent. -/
theorem sendTest_protective (hq : s.orders.queue = [o]) (hc : o.cls = .protective) (hs : s.slotOf o.target = none)
    (hl : s.orders.tracker.length < 16) (hi : s.targetInhibit o.target = false) (hh : s.orders.queueHigh = false)
    (ho : s.settings.queueOffset ≤ 31) :
    sendTest s = ({ s with orders := { s.orders with queue := [] } } : State).putsOut o := by
  have freed : s.freedFor o = s := by rw [State.freedFor, hs]
  have low := setQueue_low (s := s) (q := []) hh (by simp; omega)
  have uninhibited : (({ s with orders := { s.orders with queue := [] } } : State).putsOut o).targetInhibit o.target = false := by
    rw [State.putsOut, setCycle_targetInhibit]
    exact hi
  rw [sendTest_single hq (by simp [eligible, hc, hs, Config.trackerSize, hl]), sendOne_eq, freed, hq, List.erase_cons_head, low]
  simp only [uninhibited, Bool.and_false, Bool.false_eq_true, if_false]

/-! ## The tests at a new top (R127) -/

/-- R140: with an entry on top that is not DONE a restore test finds nothing to restore. -/
theorem restoreTest_tripping (htop : s.shed.stack.getLast? = some top) (hd : top.done = false) : restoreTest s =
    { s with dispatch := { s.dispatch with restoreWait := if s.inRun then s.dispatch.restoreWait else none } } := by
  have found : restoreFinding s = .stop := by
    simp only [restoreFinding, Shedding.top, htop, hd, Bool.not_false, Bool.true_or, if_true, ite_self]
  unfold restoreTest
  split
  · rfl
  · rw [found]
    rfl

/-- R97: with a feeder shed no genset is to stop. -/
theorem stopTest_tripping (htop : s.shed.stack.getLast? = some top) : stopTest s = s.setStopTimer none := by
  have full : s.shed.stack.isEmpty = false := by
    cases h : s.shed.stack with
    | nil => rw [h] at htop; cases htop
    | cons e l => rfl
  refine stopTest_none ?_
  unfold stopWanted
  cases stopCandidate s with
  | none => rfl
  | some x => simp [full]

/-- R127, R161: the tests at a new top of the Shed Stack, and the send test after a SUPERSEDED order, as far as they are handed on. -/
def tests (new superseded : Bool) : List Handover :=
  ((if new then [.stopTest] else []) ++ [.restoreTest]) ++ if superseded then [.sendTest] else []

/-- R97, R140: Dispatch as these tests leave it. -/
def testedDispatch (new : Bool) (s : State) : DispatchUnit := { s.dispatch with
  restoreWait := if s.inRun then s.dispatch.restoreWait else none, stopTimer := if new then none else s.dispatch.stopTimer }

theorem settleLoop_tests {n : Nat} {new superseded : Bool} {rest : List Handover} (hs : s.handovers = []) (hq : s.orders.queue = [])
    (htop : s.shed.stack.getLast? = some top) (hd : top.done = false) :
    ∃ m, n ≤ m ∧ settleLoop (n + 3) (tests new superseded ++ rest) s = settleLoop m rest { s with dispatch := testedDispatch new s } := by
  have sends : ∀ n, ∃ m, n ≤ m ∧ settleLoop (n + 1) ((if superseded then [.sendTest] else []) ++ rest)
      ({ s with dispatch := testedDispatch new s } : State) = settleLoop m rest { s with dispatch := testedDispatch new s } := fun n => by
    cases superseded with
    | true => exact ⟨n, le_rfl, settleLoop_cons (h := .sendTest) (sendTest_empty hq) hs⟩
    | false => exact ⟨n + 1, Nat.le_succ n, rfl⟩
  cases new with
  | true =>
    obtain ⟨m, hm, sent⟩ := sends n
    refine ⟨m, hm, ?_⟩
    have restore : handle .restoreTest (s.setStopTimer none) = { s with dispatch := testedDispatch true s } := restoreTest_tripping htop hd
    rw [tests, List.append_assoc, if_pos rfl, List.cons_append, List.cons_append,
      settleLoop_cons (h := .stopTest) (stopTest_tripping htop) hs, List.nil_append, List.cons_append, settleLoop_cons restore hs,
      List.nil_append, sent]
  | false =>
    obtain ⟨m, hm, sent⟩ := sends (n + 1)
    refine ⟨m, by omega, ?_⟩
    have restore : handle .restoreTest s = { s with dispatch := testedDispatch false s } := restoreTest_tripping htop hd
    rw [tests, List.append_assoc, if_neg (by simp), List.nil_append, List.cons_append, settleLoop_cons restore hs, List.nil_append, sent]

/-- R161, R163: what a run that is in progress, or not, allows the trip of a stage to do. -/
def Suspends (s : State) : Prop := s.inRun = false ∨ (s.seq.stack.length < 4 ∧ s.shed.permission = false)

theorem suspendRun_taken (h : Suspends s) : suspendRun .protection s =
    { s with seq := s.suspendedBy .protection, record := s.recordWith (s.suspendEvents .protection) } := by
  rcases h with idle | ⟨room, permission⟩
  · simp only [suspendRun, State.suspendedBy, State.suspendEvents, idle, Bool.false_eq_true, if_false]
    rfl
  · exact suspendRun_protection (.inr room) permission

/-- R127, R161: the trip of a stage settles. -/
theorem settle_trip {new superseded : Bool} (hs : s.handovers = []) (hq : s.orders.queue = [])
    (htop : s.shed.stack.getLast? = some top) (hd : top.done = false) (hr : Suspends s) :
    settle (s.post (tests new superseded ++ [.shedTaken])) = { s with
      dispatch := testedDispatch new s, seq := s.suspendedBy .protection, record := s.recordWith (s.suspendEvents .protection) } := by
  obtain ⟨m, hm, tested⟩ := settleLoop_tests (n := 2 ^ 64 - 8 + 5) (new := new) (superseded := superseded) (rest := [.shedTaken]) hs hq htop hd
  obtain ⟨m, rfl⟩ : ∃ x, m = x + 1 := ⟨m - 1, by omega⟩
  rw [settle_post hs, tested, settleLoop_cons (h := .shedTaken) (suspendRun_taken (s := { s with dispatch := testedDispatch new s }) hr) hs,
    settleLoop_nil]
  rfl

end Sys2Proof.Machine
end

section
/-!
SUPPORT. A stage timer expires (R132): the trip of a stage with no entry, with one and with two. Settles O33.
-/

namespace Sys2Proof.Machine

variable {s base : State} {i : Fin 8} {k j f g : Fin 32} {o : Order} {x : Slot} {top : StackEntry}

/-! ## A feeder is taken for a stage (R128) -/

/-- R128: the TRIP of a feeder taken for a stage. -/
def stageTripOf (f : Fin 32) (s : State) : Order :=
  { target := .feeder f, device := (s.feeders[f]).device, kind := .trip, cls := .protective, cause := .stageShed
    profile := (s.feeders[f]).profile }

/-- R123: the feeder is owned by SHED. -/
def stageOwned (f : Fin 32) (s : State) : State := s.modFeeder f fun r => { r with owner := .shed, shedLoad := some (loadOf s f) }

/-- R127: the feeder stands on top of the Shed Stack. -/
def stageStacked (f : Fin 32) (s : State) : Shedding :=
  { s.shed with stack := s.shed.stack ++ [⟨f, loadOf s f, .stage, false⟩] }

theorem pushHandovers_eq : pushHandovers s = tests (decide (s.shed.stack = [])) false := by
  simp only [pushHandovers, tests, decide_eq_true_eq, Bool.false_eq_true, if_false, List.append_nil]

/-- R128: a feeder taken: it stands on the stack and is owned by SHED as its TRIP is submitted. -/
theorem takeFeeder_submits (he : eligibleFeeder s f = true) (hu : s.shed.underRestore = none) :
    takeFeeder f .stage (loadOf s f) s =
      (submitProtective (tripOrder s f .protective .stageShed)
        (({ stageOwned f s with shed := stageStacked f s } : State).post (pushHandovers s))).log .feederShed (feederSubject f) (loadOf s f) 1 := by
  have pushed := setStack_pushed (n := loadOf s f) (c := .stage) fun e mem => not_stacked he hu mem
  rw [takeFeeder, if_neg (show s.shed.underRestore ≠ some f by rw [hu]; nofun), pushed]
  have profile : ((stageOwned f s).feeders[f]).profile = (s.feeders[f]).profile := by
    simp only [stageOwned, modFeeder_feeders, Fin.getElem_fin, modifyAt_get, if_true]
  have order : tripOrder (stageOwned f s) f .protective .stageShed = tripOrder s f .protective .stageShed := by
    rw [tripOrder, profile]
    rfl
  rw [← order]
  rfl

theorem stageOwned_submitted {z : Shedding} {l : List Handover} :
    (({ stageOwned f s with shed := z } : State).post l).submitted (tripOrder s f .protective .stageShed) .protective = stageTripOf f s := by
  have device : ((stageOwned f s).feeders[f]).device = (s.feeders[f]).device := by
    simp only [stageOwned, modFeeder_feeders, Fin.getElem_fin, modifyAt_get, if_true]
  change ({ tripOrder s f .protective .stageShed with cls := .protective, device := ((stageOwned f s).feeders[f]).device } : Order) = _
  rw [device]
  rfl

theorem stageOwned_inhibit : (stageOwned f s).targetInhibit (.feeder f) = (s.feeders[f]).inhibit := by
  simp only [State.targetInhibit, stageOwned, modFeeder_feeders, Fin.getElem_fin, modifyAt_get, if_true]

/-- R128: the event of a feeder taken for a stage. -/
def feederShed (f : Fin 32) (s : State) : Logged := (.feederShed, some ⟨.feeder, f.val⟩, loadOf s f, 1)

/-- R128, R62: with none out the TRIP is sent. -/
theorem takeFeeder_sends (he : eligibleFeeder s f = true) (hu : s.shed.underRestore = none) (hq : s.orders.queue = [])
    (ht : s.orders.tracker = []) (hi : (s.feeders[f]).inhibit = false) (hh : s.orders.queueHigh = false)
    (ho : s.settings.queueOffset ≤ 30) : takeFeeder f .stage (loadOf s f) s =
      ({ ((stageOwned f s).queuesAlone (stageTripOf f s)).sendsAlone (stageTripOf f s) with
        shed := stageStacked f s, record := s.recordWith [feederShed f s] } : State).post (pushHandovers s) := by
  have sent := submitProtective_as stageOwned_submitted (s := ({ stageOwned f s with shed := stageStacked f s } : State).post (pushHandovers s))
    hq ht (stageOwned_inhibit.trans hi) hh ho
  have apart := sendsAlone_apart (s := stageOwned f s) (o := stageTripOf f s) (x := stageStacked f s) (d := s.dispatch) (q := s.seq)
    (r := s.record)
  rw [takeFeeder_submits he hu, sent, sendsAlone_post, log_post, log_eq_recordWith, sendsAlone_recordWith]
  rw [show (({ stageOwned f s with shed := stageStacked f s } : State).queuesAlone (stageTripOf f s)).sendsAlone (stageTripOf f s) = _ from apart]
  rfl

/-- R72: the only order out has ended SUPERSEDED. -/
def supersededOrders (s : State) : OrderUnit := { s.orders with
  tracker := [], counters := { s.orders.counters with superseded := s.orders.counters.superseded + 1 } }

/-- R72, R75: the event of the order to the feeder that ends SUPERSEDED. -/
def supersededEvent (f : Fin 32) (x : Slot) : Logged := (.orderOutcome, some ⟨.feeder, f.val⟩, x.tag.toNat, 4)

/-- R58, R128: the TRIP of a feeder taken waits. -/
def stageQueued (f : Fin 32) (s : State) : State :=
  (({ stageOwned f s with shed := stageStacked f s } : State).post (pushHandovers s)).queuesAlone (stageTripOf f s)

theorem slotFreed_superseded (ht : s.orders.tracker = [x]) (hx : x.order.target = .feeder f) :
    s.slotFreed x .superseded (s.orders.counters.ended .superseded) =
      { s with orders := supersededOrders s, record := s.recordWith [supersededEvent f x] } := by
  have empty : s.orders.tracker.filter (fun y => y.tag ≠ x.tag) = [] := by simp [ht]
  simp only [State.slotFreed, empty, hx]
  rfl

/-- R72, R128: an operator's order to the feeder that is out ends SUPERSEDED, and the TRIP is sent in its place. -/
theorem takeFeeder_supersedes (he : eligibleFeeder s f = true) (hu : s.shed.underRestore = none) (hq : s.orders.queue = [])
    (ht : s.orders.tracker = [x]) (hx : x.order.target = .feeder f) (hr : x.order.cls = .routine) (hop : x.order.cause = .operator)
    (hk : x.order.kind ≠ .crank) (hi : (s.feeders[f]).inhibit = false) (hh : s.orders.queueHigh = false)
    (ho : s.settings.queueOffset ≤ 30) : takeFeeder f .stage (loadOf s f) s =
      ({ (({ stageOwned f s with orders := supersededOrders s } : State).queuesAlone (stageTripOf f s)).sendsAlone (stageTripOf f s) with
        shed := stageStacked f s, record := s.recordWith [supersededEvent f x, feederShed f s] } : State).post
          (pushHandovers s ++ [.sendTest]) := by
  have joins := submitProtective_joins (o := tripOrder s f .protective .stageShed)
    (s := ({ stageOwned f s with shed := stageStacked f s } : State).post (pushHandovers s)) hq hh ho
  rw [stageOwned_submitted] at joins
  have supersedes := sendTest_supersedes (o := stageTripOf f s) (x := x)
    (s := stageQueued f s) rfl rfl ht hx hr hk hop (stageOwned_inhibit.trans hi) hh (Nat.le_succ_of_le ho)
  rw [slotFreed_superseded (s := stageQueued f s) ht hx] at supersedes
  have apart := sendsAlone_apart (s := { stageOwned f s with orders := supersededOrders s }) (o := stageTripOf f s)
    (x := stageStacked f s) (d := s.dispatch) (q := s.seq) (r := s.recordWith [supersededEvent f x])
  have sent := (joins.trans supersedes).trans (congrArg (·.post [.sendTest]) (sendsAlone_posted (s := ({ stageOwned f s with
    orders := supersededOrders s, shed := stageStacked f s, record := s.recordWith [supersededEvent f x] } : State).queuesAlone (stageTripOf f s))
    (o := stageTripOf f s) (l := pushHandovers s)))
  rw [takeFeeder_submits he hu, sent, post_post, log_post, log_eq_recordWith]
  rw [show (({ stageOwned f s with
    orders := supersededOrders s, shed := stageStacked f s, record := s.recordWith [supersededEvent f x] } : State).queuesAlone
      (stageTripOf f s)).sendsAlone (stageTripOf f s) = _ from apart]
  rfl

/-! ## The trip settles -/

/-- R132: the event of a stage that trips. -/
def stageTripped (i : Fin 8) (s : State) : Logged := (.stageTrip, none, (s.sheet.freq.getD 0 : Nat), i.val + 1)

/-- R132: the stage has tripped and its walk is still to come. -/
def tripLogged (i : Fin 8) (s : State) : State := { s with
  shed := { s.shed with stageTimers := s.shed.stageTimers.set i none, latches := s.shed.latches.set i true }
  record := s.recordWith [stageTripped i s] }

theorem stageTrip_eq : stageTrip i s = (stageOver i (List.finRange 32) ⟨tripLogged i s, 0, 0, []⟩).state.post [.shedTaken] := rfl

/-- What sending an order over a state like `s` keeps of it. -/
structure Alike (base s : State) : Prop where
  handovers : base.handovers = s.handovers
  dispatch : base.dispatch = s.dispatch
  seq : base.seq = s.seq
  activeBank : base.activeBank = s.activeBank
  settings : base.settings = s.settings
  partTime : base.partTime = s.partTime

theorem queuesSends_alike : Alike ((base.queuesAlone o).sendsAlone o) base := by
  rw [sendsAlone_eq]
  cases o.target <;> exact ⟨rfl, rfl, rfl, rfl, rfl, rfl⟩

theorem queuesSends_queue : ((base.queuesAlone o).sendsAlone o).orders.queue = [] := by
  rw [sendsAlone_eq, setCycle_orders]
  rfl

/-- R127, R161: a TRIP has been sent over `base`, its feeder stands on top of the stack, and the tests and the suspension follow. -/
theorem settle_sent {z : Shedding} {l : List Logged} {new superseded : Bool} (hb : Alike base s) (hs : s.handovers = [])
    (htop : z.stack.getLast? = some top) (hd : top.done = false) (hr : Suspends s) (hp : z.permission = s.shed.permission) :
    settle (({ (base.queuesAlone o).sendsAlone o with shed := z, record := s.recordWith l } : State).post
        (tests new superseded ++ [.shedTaken])) =
      { (({ base with shed := z, seq := s.suspendedBy .protection, dispatch := testedDispatch new s } : State).queuesAlone o).sendsAlone o with
        record := s.recordWith (l ++ s.suspendEvents .protection) } := by
  have sent : Alike ((base.queuesAlone o).sendsAlone o) base := queuesSends_alike
  have queue := queuesSends_queue (base := base) (o := o)
  have apart := sendsAlone_apart (s := base) (o := o) (x := z) (d := testedDispatch new s) (q := s.suspendedBy .protection) (r := base.record)
  rw [show (({ base with shed := z, seq := s.suspendedBy .protection, dispatch := testedDispatch new s } : State).queuesAlone o).sendsAlone o =
    _ from apart]
  generalize (base.queuesAlone o).sendsAlone o = y at sent queue ⊢
  have handovers := sent.handovers.trans (hb.handovers.trans hs)
  have seq := sent.seq.trans hb.seq
  have run : y.inRun = s.inRun := congrArg (·.state.inRun) seq
  have suspends : Suspends ({ y with shed := z, record := s.recordWith l } : State) := by
    unfold Suspends
    rw [show ({ y with shed := z, record := s.recordWith l } : State).inRun = s.inRun from run,
      show ({ y with shed := z, record := s.recordWith l } : State).seq = s.seq from seq, hp]
    exact hr
  have events := recordWith_recordWith (s := s) (t := { y with shed := z, record := s.recordWith l }) (m := s.suspendEvents .protection)
    rfl (sent.settings.trans hb.settings) (sent.partTime.trans hb.partTime)
  rw [settle_trip (s := { y with shed := z, record := s.recordWith l }) handovers queue htop hd suspends]
  have dispatch : testedDispatch new ({ y with shed := z, record := s.recordWith l } : State) = testedDispatch new s := by
    unfold testedDispatch
    rw [show ({ y with shed := z, record := s.recordWith l } : State).inRun = s.inRun from run,
      show ({ y with shed := z, record := s.recordWith l } : State).dispatch = s.dispatch from sent.dispatch.trans hb.dispatch]
  rw [dispatch, suspendEvents_congr (s := s) (t := { y with shed := z, record := s.recordWith l }) seq,
    suspendedBy_congr (s := s) (t := { y with shed := z, record := s.recordWith l }) seq (sent.activeBank.trans hb.activeBank), events]

theorem testedDispatch_decide {c : Prop} [Decidable c] : testedDispatch (decide c) s = { s.dispatch with
    restoreWait := if s.inRun then s.dispatch.restoreWait else none, stopTimer := if c then none else s.dispatch.stopTimer } := by
  simp only [testedDispatch, decide_eq_true_eq]

theorem tripLogged_recordWith {l : List Logged} : (tripLogged i s).recordWith l =
    s.recordWith ([stageTripped i s] ++ l) :=
  recordWith_recordWith rfl rfl rfl

/-- R132: the record of a state in which an order is sent takes no part in the send. -/
theorem sendsAlone_overRecord {r r' : EventRecord} :
    ({ (({ s with record := r' } : State).queuesAlone o).sendsAlone o with record := r } : State) =
      { (s.queuesAlone o).sendsAlone o with record := r } := by
  rw [sendsAlone_eq, sendsAlone_eq]
  cases o.target <;> rfl

/-- R126, R132: an order can wait or be sent, and no restoration is under way. -/
structure ShedsAlone (s : State) : Prop where
  free : s.shed.underRestore = none
  queue : s.orders.queue = []
  low : s.orders.queueHigh = false
  offset : s.settings.queueOffset ≤ 30

/-- R132: the only entry of the stage, with its feeder. -/
structure OnlyStage (s : State) (i : Fin 8) (k f : Fin 32) : Prop where
  named : (s.shed.table[k]).feeder = some f
  stage : (s.shed.table[k]).stage = i
  only : ∀ l : Fin 32, l ≠ k → (s.shed.table[l]).Apart i

theorem stageTrip_one (h : OnlyStage s i k f) (ha : ShedsAlone s) (he : eligibleFeeder s f = true) :
    stageTrip i s = (takeFeeder f .stage (loadOf (tripLogged i s) f) (tripLogged i s)).post [.shedTaken] := by
  rw [stageTrip_eq, stageWalk_one (s := tripLogged i s) h.named h.stage h.only ha.free]
  have sheds : shedsIf f (tripLogged i s) = takeFeeder f .stage (loadOf (tripLogged i s) f) (tripLogged i s) := if_pos he
  rw [sheds]

/-- R123, R127, R161: the feeder is shed for the stage and its run suspended, its TRIP still to be sent. -/
def stageShedOf (i : Fin 8) (f : Fin 32) (s : State) : State := { stageOwned f s with
  shed := stageStacked f (tripLogged i s), seq := s.suspendedBy .protection
  dispatch := testedDispatch (decide (s.shed.stack = [])) s }

theorem settle_stageSends (h : OnlyStage s i k f) (ha : ShedsAlone s) (he : eligibleFeeder s f = true) (hr : Suspends s)
    (hs : s.handovers = []) (ht : s.orders.tracker = []) (hi : (s.feeders[f]).inhibit = false) :
    settle (stageTrip i s) = { ((stageShedOf i f s).queuesAlone (stageTripOf f s)).sendsAlone (stageTripOf f s) with
      record := s.recordWith ([stageTripped i s, feederShed f s] ++
        s.suspendEvents .protection) } := by
  have took := takeFeeder_sends (s := tripLogged i s) he ha.free ha.queue ht hi ha.low ha.offset
  have alike : Alike (stageOwned f (tripLogged i s)) (tripLogged i s) := ⟨rfl, rfl, rfl, rfl, rfl, rfl⟩
  have newTop : (stageStacked f (tripLogged i s)).stack.getLast? = some ⟨f, loadOf s f, .stage, false⟩ := List.getLast?_concat ..
  rw [stageTrip_one h ha he, took, post_post, pushHandovers_eq]
  refine (settle_sent (o := stageTripOf f s) alike hs newTop rfl hr rfl).trans ?_
  rw [tripLogged_recordWith]
  exact sendsAlone_overRecord (s := stageShedOf i f s)

theorem settle_stageSupersedes (h : OnlyStage s i k f) (ha : ShedsAlone s) (he : eligibleFeeder s f = true) (hr : Suspends s)
    (hs : s.handovers = []) (ht : s.orders.tracker = [x]) (hx : x.order.target = .feeder f) (hc : x.order.cls = .routine)
    (hop : x.order.cause = .operator) (hk : x.order.kind ≠ .crank) (hi : (s.feeders[f]).inhibit = false) :
    settle (stageTrip i s) =
      { (({ stageShedOf i f s with orders := supersededOrders s } : State).queuesAlone (stageTripOf f s)).sendsAlone (stageTripOf f s) with
        record := s.recordWith ([stageTripped i s, supersededEvent f x, feederShed f s] ++
          s.suspendEvents .protection) } := by
  have took := takeFeeder_supersedes (s := tripLogged i s) he ha.free ha.queue ht hx hc hop hk hi ha.low ha.offset
  have alike : Alike { stageOwned f (tripLogged i s) with orders := supersededOrders (tripLogged i s) } (tripLogged i s) :=
    ⟨rfl, rfl, rfl, rfl, rfl, rfl⟩
  have newTop : (stageStacked f (tripLogged i s)).stack.getLast? = some ⟨f, loadOf s f, .stage, false⟩ := List.getLast?_concat ..
  have posts : pushHandovers (tripLogged i s) ++ [.sendTest] = tests (decide (s.shed.stack = [])) true := by
    rw [pushHandovers_eq]
    simp only [tests, Bool.false_eq_true, if_false, if_true, List.append_nil]
    rfl
  rw [stageTrip_one h ha he, took, post_post, posts]
  refine (settle_sent (o := stageTripOf f s) alike hs newTop rfl hr rfl).trans ?_
  rw [tripLogged_recordWith]
  exact sendsAlone_overRecord (s := { stageShedOf i f s with orders := supersededOrders s })

/-- R132, R161: a stage with no entry. -/
theorem settle_stageEmpty (h : ∀ l : Fin 32, (s.shed.table[l]).Apart i) (hs : s.handovers = []) {t : State}
    (hr : suspendRun .protection (tripLogged i s) = t) (ht : t.handovers = []) : settle (stageTrip i s) = t := by
  rw [stageTrip_eq, stageWalk_none (s := tripLogged i s) h]
  exact settle_post_one (s := tripLogged i s) hs hr ht

/-- R163: the stack has been emptied, and the pop of its record of cause PROTECTION logged. -/
def emptied (s : State) : State := (s.modSeq fun q => { q with stack := [] }).log .seqResume none 0 1

/-- R163: the only record, of cause PROTECTION and of the active bank, is popped. -/
theorem popProtection_single {left : Timer} (hs : s.seq.stack = [⟨.protection, s.activeBank, left⟩]) (hp : s.shed.permission = true) :
    popProtection s = continueStep left (emptied s) := by
  have top : s.seq.stack.getLast? = some ⟨.protection, s.activeBank, left⟩ := by rw [hs]; rfl
  have popped : popTop s = popRecords 1 s := by rw [popTop, hs]; rfl
  have removed : (s.modSeq fun q => { q with stack := q.stack.dropLast }) = s.modSeq fun q => { q with stack := [] } := by
    simp only [State.modSeq, hs, List.dropLast_singleton]
  have same : selectBank s.activeBank .pop (emptied s) = emptied s := if_pos rfl
  have logged : (s.modSeq fun q => { q with stack := [] }).log .seqResume none (s.modSeq fun q => { q with stack := [] }).seq.stack.length
      SuspendCause.protection.detail = emptied s := rfl
  simp only [popProtection, top, hp, decide_true, Bool.and_self, if_true, popped, popRecords, removed]
  rw [logged, same]
  rfl

/-- R163: a step that neither has ended nor waits for its end goes on. -/
theorem continueStep_on {left : Timer} (he : s.seq.progress.ended = false) (hn : s.seq.progress.pendingEnd = none)
    (hk : s.stepRec.kind ≠ .waitFreq ∧ s.stepRec.kind ≠ .openFeeders) : continueStep left s =
      s.modSeq fun q => { q with state := s.stepRec.kind.runState, stepTimeout := left } := by
  obtain ⟨frequency, feeders⟩ := hk
  simp only [continueStep, he, hn, Bool.false_eq_true, if_false]

/-- R161: the run is suspended by a record of its own, the only one. -/
def pushedAlone (s : State) : State := ({ s with seq := { s.seq with
  state := .suspended, stack := [⟨.protection, s.activeBank, s.seq.stepTimeout⟩] } } : State).log .seqSuspend none 1 1

theorem pushRecord_alone (hq : s.seq.stack = []) : pushRecord .protection s = pushedAlone s := by
  have room : ¬ Config.suspensionSize ≤ s.seq.stack.length := by rw [hq]; decide
  rw [pushRecord, if_neg room]
  simp only [State.modSeq, hq, List.nil_append, List.length_singleton]
  rfl

theorem continued_record {q : Sequencer} (hq : q = s.seq) : ({ emptied (pushedAlone s) with seq := q } : State) =
    { s with record := s.recordWith [(.seqSuspend, none, 1, 1), (.seqResume, none, 0, 1)] } := by
  have record := recordWith_recordWith (s := s) (t := pushedAlone s) (l := [(.seqSuspend, none, 1, 1)])
    (m := [(.seqResume, none, 0, 1)]) rfl rfl rfl
  have whole : emptied (pushedAlone s) = { pushedAlone s with
    seq := { (pushedAlone s).seq with stack := [] }, record := (pushedAlone s).recordWith [(.seqResume, none, 0, 1)] } := rfl
  rw [whole, record, hq]
  simp only [pushedAlone, State.log, List.cons_append, List.nil_append]

/-- R163: while permission is granted the run goes on at once. -/
theorem suspendRun_pops (hp : s.shed.permission = true) (hq : s.seq.stack = []) (he : s.seq.progress.ended = false)
    (hn : s.seq.progress.pendingEnd = none) (hr : s.stepRec.kind.runState = s.seq.state)
    (hk : s.stepRec.kind ≠ .waitFreq ∧ s.stepRec.kind ≠ .openFeeders) : suspendRun .protection s =
      { s with record := s.recordWith [(.seqSuspend, none, 1, 1), (.seqResume, none, 0, 1)] } := by
  have run : s.inRun = true := by
    rw [State.inRun, ← hr]
    cases s.stepRec.kind <;> rfl
  have popped : popProtection (pushedAlone s) = continueStep s.seq.stepTimeout (emptied (pushedAlone s)) := popProtection_single rfl hp
  rw [suspendRun, if_pos run, if_pos rfl, pushRecord_alone hq, popped, continueStep_on (s := emptied (pushedAlone s)) he hn hk]
  refine continued_record (s := s) ?_
  change ({ s.seq with state := s.stepRec.kind.runState, stack := [] } : Sequencer) = s.seq
  rw [hr, ← hq]

end Sys2Proof.Machine
end

section
/-!
SUPPORT. The trip of a stage with two entries (R129, R132). Settles O33.
-/

namespace Sys2Proof.Machine

variable {s z : State} {i : Fin 8} {k j f g : Fin 32} {o : Order} {x : Slot} {T : List (Fin 32)}

/-! ## A walk that sheds no more than a few feeders -/

/-- R127 to R129: a walk that has come from `s` to `z`, and may have shed the feeders of `T`: what it has handed on, and what it leaves. -/
structure Sheds (s z : State) (T : List (Fin 32)) : Prop where
  tests : ∀ h ∈ z.handovers, h = .stopTest ∨ h = .restoreTest
  few : z.handovers.length ≤ 2 * T.length
  top : z.handovers ≠ [] → ∃ e, z.shed.stack.getLast? = some e ∧ e.done = false
  seq : z.seq = s.seq
  bank : z.activeBank = s.activeBank
  alone : ShedsAlone z
  permission : z.shed.permission = s.shed.permission
  held : ∀ y ∈ z.orders.tracker, ∃ f ∈ T, y.order.target = .feeder f
  count : z.orders.tracker.length ≤ T.length

theorem putsOut_frame : (s.putsOut o).handovers = s.handovers ∧ (s.putsOut o).seq = s.seq ∧ (s.putsOut o).activeBank = s.activeBank ∧
    (s.putsOut o).settings = s.settings ∧ (s.putsOut o).orders.queue = s.orders.queue ∧
    (s.putsOut o).orders.queueHigh = s.orders.queueHigh ∧ (s.putsOut o).orders.tracker = s.orders.tracker ++ [s.newSlot o] := by
  unfold State.putsOut
  cases o.target <;> exact ⟨rfl, rfl, rfl, rfl, rfl, rfl, rfl⟩

/-- R128: the state as the TRIP of a feeder taken has been sent beside others that are out. -/
theorem takeFeeder_putsOut (he : eligibleFeeder s f = true) (ha : ShedsAlone s) (hs : s.slotOf (.feeder f) = none)
    (hl : s.orders.tracker.length < 16) (hi : (s.feeders[f]).inhibit = false) : takeFeeder f .stage (loadOf s f) s =
      (({ stageQueued f s with orders := { (stageQueued f s).orders with queue := [] } } : State).putsOut (stageTripOf f s)).log
        .feederShed (feederSubject f) (loadOf s f) 1 := by
  obtain ⟨hu, hq, hh, ho⟩ := ha
  have joins := submitProtective_joins (o := tripOrder s f .protective .stageShed)
    (s := ({ stageOwned f s with shed := stageStacked f s } : State).post (pushHandovers s)) hq hh ho
  rw [stageOwned_submitted] at joins
  have sends := sendTest_protective (s := stageQueued f s) (o := stageTripOf f s) rfl rfl hs hl (stageOwned_inhibit.trans hi) hh
    (Nat.le_succ_of_le ho)
  rw [takeFeeder_submits he hu, joins.trans sends]

theorem pushHandovers_tests : (∀ h ∈ pushHandovers s, h = .stopTest ∨ h = .restoreTest) ∧ (pushHandovers s).length ≤ 2 := by
  unfold pushHandovers
  split_ifs <;> simp

/-- R128, R129: a walk that examines one more feeder. -/
theorem Sheds.examines (h : Sheds s z T) (hf : f ∉ T) (hl : T.length < 16) (hi : (z.feeders[f]).inhibit = false) :
    Sheds s (shedsIf f z) (f :: T) := by
  by_cases he : eligibleFeeder z f = true
  · have free : z.slotOf (.feeder f) = none := by
      refine List.find?_eq_none.mpr fun y hy found => ?_
      obtain ⟨g, mem, target⟩ := h.held y hy
      have same : Target.feeder g = .feeder f := target.symm.trans (of_decide_eq_true found)
      exact hf (Target.feeder.inj same ▸ mem)
    have took := takeFeeder_putsOut he h.alone free (h.count.trans_lt hl) hi
    have shed : shedsIf f z = takeFeeder f .stage (loadOf z f) z := if_pos he
    have stacked := shedsIf_shed (s := z) (f := f) h.alone.free
    rw [if_pos he] at stacked
    obtain ⟨handovers, seq, bank, settings, queue, high, tracker⟩ := putsOut_frame
      (s := ({ stageQueued f z with orders := { (stageQueued f z).orders with queue := [] } } : State)) (o := stageTripOf f z)
    obtain ⟨tests, few⟩ := pushHandovers_tests (s := z)
    rw [← shed] at took
    have posted : (shedsIf f z).handovers = z.handovers ++ pushHandovers z := by rw [took]; exact handovers
    have slots : (shedsIf f z).orders.tracker = z.orders.tracker ++ [({ stageQueued f z with
      orders := { (stageQueued f z).orders with queue := [] } } : State).newSlot (stageTripOf f z)] := by rw [took]; exact tracker
    refine ⟨fun x hx => ?_, ?_, fun _ => ?_, ?_, ?_, ⟨?_, ?_, ?_, ?_⟩, ?_, fun y hy => ?_, ?_⟩
    · rw [posted] at hx
      exact (List.mem_append.mp hx).elim (h.tests x) (tests x)
    · have := h.few
      rw [posted, List.length_append, List.length_cons]
      omega
    · rw [stacked]
      exact ⟨_, List.getLast?_concat .., rfl⟩
    · rw [took]; exact seq.trans h.seq
    · rw [took]; exact bank.trans h.bank
    · rw [stacked]; exact h.alone.free
    · rw [took]; exact queue
    · rw [took]; exact high.trans h.alone.low
    · rw [took]; exact (congrArg Settings.queueOffset settings).trans_le h.alone.offset
    · rw [stacked]; exact h.permission
    · rw [slots] at hy
      rcases List.mem_append.mp hy with old | new
      · obtain ⟨g, mem, target⟩ := h.held y old
        exact ⟨g, List.mem_cons_of_mem f mem, target⟩
      · rw [List.mem_singleton.mp new]
        exact ⟨f, List.mem_cons_self .., rfl⟩
    · have := h.count
      simp only [slots, List.length_append, List.length_cons, List.length_nil]
      omega
  · have same : shedsIf f z = z := if_neg he
    rw [same]
    exact { h with
      few := h.few.trans (by rw [List.length_cons]; omega)
      held := fun y hy => (h.held y hy).imp fun g ⟨mem, target⟩ => ⟨List.mem_cons_of_mem f mem, target⟩
      count := h.count.trans (Nat.le_succ _) }

theorem sheds_nothing (hs : s.handovers = []) (ha : ShedsAlone s) (ht : s.orders.tracker = []) : Sheds s s [] where
  tests := by rw [hs]; exact fun _ h => absurd h List.not_mem_nil
  few := by rw [hs]; exact Nat.le_refl 0
  top := fun h => absurd hs h
  seq := rfl
  bank := rfl
  alone := ha
  permission := rfl
  held := by rw [ht]; exact fun _ h => absurd h List.not_mem_nil
  count := by rw [ht]; exact Nat.le_refl 0

/-! ## The tests that a walk has handed on -/

/-- R97, R140: the tests at new tops of the Shed Stack change Dispatch alone. -/
theorem settleLoop_allTests {n : Nat} {l rest : List Handover} (hs : z.handovers = []) (hl : ∀ h ∈ l, h = .stopTest ∨ h = .restoreTest)
    (htop : l ≠ [] → ∃ e, z.shed.stack.getLast? = some e ∧ e.done = false) :
    ∃ d, settleLoop (n + l.length) (l ++ rest) z = settleLoop n rest { z with dispatch := d } := by
  induction l generalizing z with
  | nil => exact ⟨z.dispatch, rfl⟩
  | cons h l ih =>
    obtain ⟨e, top, undone⟩ := htop (List.cons_ne_nil h l)
    obtain ⟨d, first⟩ : ∃ d, handle h z = { z with dispatch := d } := by
      rcases hl h (List.mem_cons_self ..) with rfl | rfl
      · exact ⟨_, stopTest_tripping top⟩
      · exact ⟨_, restoreTest_tripping top undone⟩
    obtain ⟨d', others⟩ := ih (z := { z with dispatch := d }) hs (fun x hx => hl x (List.mem_cons_of_mem h hx)) fun _ => ⟨e, top, undone⟩
    exact ⟨d', by rw [List.length_cons, ← Nat.add_assoc, List.cons_append, settleLoop_cons first hs, others]⟩

/-- R161: a walk that has shed a few feeders settles, and a run is suspended. -/
theorem Sheds.settles (h : Sheds s z T) (hl : T.length ≤ 2) (hr : Suspends s) :
    (settle (z.post [.shedTaken])).seq = s.suspendedBy .protection ∧ (settle (z.post [.shedTaken])).shed = z.shed := by
  have few := h.few
  obtain ⟨n, bound⟩ : ∃ n, 2 ^ 64 - 8 + 8 = n + 1 + z.handovers.length := ⟨2 ^ 64 - 1 - z.handovers.length, by omega⟩
  obtain ⟨d, tested⟩ := settleLoop_allTests (z := { z with handovers := [] }) (n := n + 1) (rest := [.shedTaken]) rfl h.tests h.top
  have suspends : Suspends ({ z with handovers := [], dispatch := d } : State) := by
    unfold Suspends State.inRun
    simp only [h.seq, h.permission]
    exact hr
  have posted : z.post [.shedTaken] = ({ z with handovers := [] } : State).post (z.handovers ++ [.shedTaken]) := rfl
  have settled : settle (z.post [.shedTaken]) = suspendRun .protection ({ z with handovers := [], dispatch := d } : State) := by
    rw [posted, settle_post (s := { z with handovers := [] }) rfl, bound, tested, suspendRun_taken suspends]
    exact (settleLoop_cons (h := .shedTaken) (suspendRun_taken suspends) rfl).trans (settleLoop_nil ..)
  rw [settled, suspendRun_taken suspends]
  exact ⟨suspendedBy_congr (s := s) h.seq h.bank, rfl⟩

/-! ## Two entries -/

/-- R126: another feeder examined in turn is as it was. -/
theorem shedsIf_other (hu : s.shed.underRestore = none) (hne : g ≠ f) : eligibleFeeder (shedsIf f s) g = eligibleFeeder s g ∧
    loadOf (shedsIf f s) g = loadOf s g ∧ ((shedsIf f s).feeders[g]).inhibit = (s.feeders[g]).inhibit := by
  have apart : s.shed.underRestore ≠ some f := by rw [hu]; nofun
  unfold shedsIf
  split_ifs
  · have record := takeFeeder_other (cause := .stage) (load := loadOf s f) apart hne
    refine ⟨takeFeeder_eligible apart hne, ?_, ?_⟩
    · have load := congrArg FeederRec.p record
      exact congrArg (fun x : Option Int => (x.getD 0).toNat) load
    · have inhibit := congrArg FeederRec.inhibit record
      exact inhibit
  · exact ⟨rfl, rfl, rfl⟩

/-- R129, R132: what the trip of a stage with two entries sheds, and the run that it suspends. -/
theorem settle_stageTwo (hkj : k < j) (hne : f ≠ g) (namedf : (s.shed.table[k]).feeder = some f)
    (namedg : (s.shed.table[j]).feeder = some g) (stagek : (s.shed.table[k]).stage = i) (stagej : (s.shed.table[j]).stage = i)
    (h : ∀ l : Fin 32, l ≠ k → l ≠ j → (s.shed.table[l]).Apart i) (ha : ShedsAlone s) (hs : s.handovers = [])
    (ht : s.orders.tracker = []) (hr : Suspends s) (hf : (s.feeders[f]).inhibit = false) (hg : (s.feeders[g]).inhibit = false) :
    (settle (stageTrip i s)).seq = s.suspendedBy .protection ∧
    (settle (stageTrip i s)).shed = { (tripLogged i s).shed with stack := s.shed.stack ++
      (if eligibleFeeder s f = true then [⟨f, loadOf s f, .stage, false⟩] else []) ++
      (if eligibleFeeder s g = true ∧ ¬ Passes s.shed.table[k] (eligibleFeeder s f) then [⟨g, loadOf s g, .stage, false⟩] else []) } := by
  obtain ⟨passed, let_⟩ := stageWalk_two (s := tripLogged i s) hkj namedf namedg stagek stagej h ha.free
  have none_yet : Sheds (tripLogged i s) (tripLogged i s) [] := sheds_nothing hs ⟨ha.free, ha.queue, ha.low, ha.offset⟩ ht
  have first := none_yet.examines (f := f) List.not_mem_nil (Nat.zero_lt_succ 15) hf
  have stacked := shedsIf_shed (s := tripLogged i s) (f := f) ha.free
  rw [stageTrip_eq]
  by_cases passes : Passes s.shed.table[k] (eligibleFeeder s f)
  · have gone : ¬ (eligibleFeeder s g = true ∧ ¬ Passes s.shed.table[k] (eligibleFeeder s f)) := fun both => both.2 passes
    rw [passed passes, if_neg gone, List.append_nil]
    obtain ⟨seq, shed⟩ := first.settles (Nat.le_succ 1) hr
    exact ⟨seq, shed.trans stacked⟩
  · obtain ⟨eligible, load, inhibit⟩ := shedsIf_other (s := tripLogged i s) ha.free hne.symm
    have second := first.examines (f := g) (by simpa using hne.symm) (by simp) (inhibit.trans hg)
    obtain ⟨seq, shed⟩ := second.settles (Nat.le_refl 2) hr
    have restacked := shedsIf_shed (s := shedsIf f (tripLogged i s)) (f := g) first.alone.free
    rw [let_ passes]
    refine ⟨seq, (shed.trans restacked).trans ?_⟩
    rw [eligible, load, stacked]
    simp only [passes, not_false_eq_true, and_true]
    rfl

/-! ## The obligation -/

/-- Settles O33: the walk of the stage by the number of its entries, and what each trip hands on. -/
theorem stageTimerExpiryTripsTheStage : Obligations.StageTimerExpiryTripsTheStage := by
  intro s i hs
  have expiry : exec (.stageTimerExpiry i) s = .next (settle (stageTimerExpires i s)) := runWhenUp_settle hs
  have trips : s.shed.stageTimers[i] = some 0 → exec (.stageTimerExpiry i) s = .next (settle (stageTrip i s)) := fun due => by
    rw [expiry, stageTimerExpires, if_pos due]
  refine ⟨fun h => ?_, fun due run => ⟨fun empty => ?_, fun k f named stage only eligible free inhibit => ⟨fun tracker => ?_,
    fun x tracker target cls cause kind => ?_⟩, fun k j f g hkj hne namedf namedg stagek stagej only free tracker hf hg => ?_⟩,
    fun due permission stack ended pending => ?_⟩
  · rw [expiry, stageTimerExpires, if_neg h, settle_nil hs.2]
  · have suspended := suspendRun_taken (s := tripLogged i s) run
    rw [trips due, settle_stageEmpty empty hs.2 suspended hs.2, tripLogged_recordWith]
    rfl
  · obtain ⟨restoring, queue, low, offset⟩ := free
    have sent := settle_stageSends ⟨named, stage, only⟩ ⟨restoring, queue, low, offset⟩ eligible run hs.2 tracker inhibit
    rw [stageShedOf, testedDispatch_decide] at sent
    exact (trips due).trans (congrArg _ sent)
  · obtain ⟨restoring, queue, low, offset⟩ := free
    have sent := settle_stageSupersedes ⟨named, stage, only⟩ ⟨restoring, queue, low, offset⟩ eligible run hs.2 tracker target
      cls cause kind inhibit
    rw [stageShedOf, testedDispatch_decide] at sent
    exact (trips due).trans (congrArg _ sent)
  · intro first passed
    obtain ⟨restoring, queue, low, offset⟩ := free
    obtain ⟨seq, shed⟩ := settle_stageTwo hkj hne namedf namedg stagek stagej only ⟨restoring, queue, low, offset⟩ hs.2
      tracker run hf hg
    refine ⟨settle (stageTrip i s), trips due, settle_handovers, ?_, seq, shed⟩
    rw [settle_given, stageTrip_given]
  · intro kind going empty
    obtain ⟨resumes, steps⟩ : s.stepRec.kind.runState = s.seq.state ∧ s.stepRec.kind ≠ .waitFreq ∧ s.stepRec.kind ≠ .openFeeders := by
      have same : s.stepRec.kind = kind := rfl
      rcases going with ⟨state, genset | feeder⟩ | ⟨state, wait⟩
      · rw [same, genset, state]; exact ⟨rfl, nofun, nofun⟩
      · rw [same, feeder, state]; exact ⟨rfl, nofun, nofun⟩
      · rw [same, wait, state]; exact ⟨rfl, nofun, nofun⟩
    have popped := suspendRun_pops (s := tripLogged i s) permission stack ended pending resumes steps
    rw [trips due, settle_stageEmpty empty hs.2 popped hs.2, tripLogged_recordWith]
    rfl

end Sys2Proof.Machine
end
